-- ==== Sys2Proof/Word.lean ====
section
/-! DEFINITION. The plainest data of the model: a byte of a line, a moment of the clock, one field of an item as the
formats chapter sizes it, and a table kept as the list of its entries that differ from their cold-start value. -/

namespace Sys2Proof

/-- A byte on the host line or on the pedestal line (R186, R210). -/
abbrev Byte := BitVec 8

/-- A moment of the clock as records carry it: day number and second of day (R202, "time"). -/
structure Stamp where
  day : Nat
  sec : Nat
deriving DecidableEq, Repr

/-- One field of an item's contents with its size in bytes (R202): an unsigned value, or a signed one in two's
complement. An absent optional field is sent as an unsigned 0 of its size (R203). -/
inductive Field where
  | u (size : Nat) (value : Nat)
  | i (size : Nat) (value : Int)
deriving DecidableEq, Repr

/-- A table indexed by number, kept as the list of its entries that differ from the table's cold-start entry,
in ascending index order (log entry 3). -/
abbrev Table (α : Type) := List (Nat × α)

/-- The day band and the night band of power pricing (R70). -/
inductive Band where
  | day
  | night
deriving DecidableEq, Repr

end Sys2Proof
end

