-- ==== Sys2Proof/Syntax.lean ====
section
/-! DEFINITION. The commands of the block: one constructor of `Instr` per row of spec/opcode_table.json, in the table's
order, with the row's operands as they stand on the wire or at the pin (plain numbers; enumerations as their code of
R202). The rows of the multi-row puts are structures of their own. -/

namespace Sys2Proof

/-- One row item of a multi-row put as the owner takes it (R190, R191): the row's fields, or an item whose code, length
or unassigned bits do not fit the request, which is refused BAD_ITEM when it is reached. -/
inductive PutItem (α : Type) where
  | row (fields : α)
  | badItem
deriving DecidableEq, Repr

/-- A BERTH_PUT row (R1, R2, R209): class and state by their codes. -/
structure BerthRow where
  pontoon : Nat
  cls : Nat
  visitorOk : Bool
  state : Nat
  maxLoa : Nat
  maxBeam : Nat
  depth : Nat
  fee : Nat
deriving DecidableEq, Repr

/-- A TIDE_PUT row (R6): a day, and a height or none. -/
structure TideRow where
  day : Nat
  height : Option Int
deriving DecidableEq, Repr

/-- A TARIFF_PUT row (R61). -/
structure TariffRow where
  dayRate : Nat
  nightRate : Nat
  waterRate : Nat
deriving DecidableEq, Repr

/-- A PEDESTAL_PUT row (R84). -/
structure PedestalRow where
  configured : Bool
  feeder : Nat
deriving DecidableEq, Repr

/-- A SOCKET_PUT row (R99): rating in A. -/
structure SocketRow where
  berth : Option Nat
  rating : Nat
  cls : Nat
  tariff : Nat
deriving DecidableEq, Repr

/-- A TAP_PUT row (R100): run limit in minutes. -/
structure TapRow where
  berth : Option Nat
  tariff : Nat
  runLimit : Nat
deriving DecidableEq, Repr

/-- A FEEDER_PUT row (R108): retry mode by its code, hold-off in minutes. -/
structure FeederRow where
  limit : Nat
  diversity : Nat
  tripCount : Nat
  bypassLimit : Nat
  retry : Nat
  holdOff : Nat
deriving DecidableEq, Repr

/-- A HOSE_PUT row (R133, R135). -/
structure HoseRow where
  grade : Nat
  p10 : Nat
  slowDown : Nat
  authTimeout : Nat
  noFlowTimeout : Nat
  volumeCap : Nat
deriving DecidableEq, Repr

/-- A CRED_PUT row (R158): state, kind and location by their codes, the PIN as its digits, the gate set as its byte. -/
structure CredRow where
  state : Nat
  kind : Nat
  token : Option Nat
  pin : Option (List Nat)
  booking : Option Nat
  account : Option Nat
  gateSet : Nat
  berthGates : Bool
  fuel : Bool
  autoArrive : Bool
  validFrom : Option Stamp
  validUntil : Option Stamp
  location : Option Nat
deriving DecidableEq, Repr

/-- A GATE_PUT row (R162): anti-passback mode by its code. -/
structure GateRow where
  pontoon : Nat
  antiPassback : Nat
  exitReader : Bool
  releaseTime : Nat
  heldTime : Nat
deriving DecidableEq, Repr

/-- A SITE_PUT item (R198): a parameter number and its signed value. -/
structure SiteItem where
  param : Nat
  value : Int
deriving DecidableEq, Repr

/-- What a request creating a booking carries (R16). -/
structure NewBooking where
  account : Nat
  loa : Nat
  beam : Nat
  draught : Nat
  arr : Nat
  dep : Nat
deriving DecidableEq, Repr

/-- What HOSE_AUTH carries (R141): mode and preset kind by their codes, the fields of modes and presets optional. -/
structure AuthRequest where
  hose : Nat
  mode : Nat
  account : Option Nat
  prepaid : Option Nat
  presetKind : Nat
  presetValue : Option Nat
deriving DecidableEq, Repr

/-- The two forms of BERTH_GET (R4): entries from a start, or one berth's calendar from a position. -/
inductive BerthQuery where
  | entries (start count : Nat)
  | calendar (berth position : Nat)
deriving DecidableEq, Repr

/-- The two forms of CRED_GET (R159): records from a start index, or the holder of a card token. -/
inductive CredQuery where
  | entries (start count : Nat)
  | token (token : Nat)
deriving DecidableEq, Repr

/-- What a full scan of a keypad reads (R167): no key, one key, or more than one. Keys 0 to 9 are the digits, 10 is
`*` and 11 is `#`. -/
inductive KeyReading where
  | none
  | one (key : Nat)
  | multi
deriving DecidableEq, Repr

/-- The commands the block takes, one constructor per row of the opcode table. A host request carries its frame's tag
first. A start carries what the strap pins read then (true: tied low), POWER_ON also whether the backup supply is there. -/
inductive Instr where
  | powerOn (spa spb backup : Bool)
  | powerFail
  | resetPinAssert
  | resetPinRelease (spa spb : Bool)
  | restartBegin (spa spb : Bool)
  | restartTimeout (spa spb : Bool)
  | catchUp
  | fdcStart
  | hostByteReceived (byte : Byte) (stopError : Bool)
  | frameGapTimeout
  | hostCtsChange (asserted : Bool)
  | transmitFrameDone
  | requestUnknownKind (kind tag : Nat)
  | status (tag : Nat)
  | restart (tag : Nat)
  | sitePut (tag : Nat) (items : List (PutItem SiteItem))
  | siteGet (tag : Nat) (params : List Nat)
  | clockSet (tag day sec : Nat)
  | clockGet (tag : Nat)
  | berthPut (tag start : Nat) (rows : List (PutItem BerthRow))
  | berthGet (tag : Nat) (query : BerthQuery)
  | tidePut (tag : Nat) (rows : List (PutItem TideRow))
  | tideGet (tag start count : Nat)
  | bookAlloc (tag : Nat) (new : NewBooking) (preference : Nat)
  | bookFixed (tag : Nat) (new : NewBooking) (berth : Nat) (force : Bool)
  | bookFixedIndex (tag booking berth : Nat) (force : Bool)
  | bookPlace (tag booking preference : Nat)
  | bookArrive (tag booking : Nat)
  | bookChange (tag booking dep : Nat)
  | bookDepart (tag booking : Nat)
  | bookCancel (tag booking : Nat)
  | bookGet (tag start count : Nat)
  | acctOpen (tag account limit : Nat)
  | acctPay (tag account : Nat) (amount : Int)
  | acctLimit (tag account limit : Nat)
  | acctClose (tag account : Nat)
  | acctGet (tag start count : Nat)
  | tariffPut (tag start : Nat) (rows : List (PutItem TariffRow))
  | tariffGet (tag start count : Nat)
  | pedestalPut (tag start : Nat) (rows : List (PutItem PedestalRow))
  | pedestalGet (tag start count : Nat)
  | socketPut (tag start : Nat) (rows : List (PutItem SocketRow))
  | tapPut (tag start : Nat) (rows : List (PutItem TapRow))
  | tapClose (tag tap : Nat)
  | feederPut (tag start : Nat) (rows : List (PutItem FeederRow))
  | feederGet (tag start count : Nat)
  | feederBottom (tag feeder cls socket : Nat)
  | feederPoll (tag feeder : Nat)
  | feederShed (tag feeder count : Nat)
  | socketRelease (tag socket : Nat)
  | socketLock (tag socket : Nat)
  | socketUnlock (tag socket : Nat)
  | socketRearm (tag socket : Nat)
  | hosePut (tag start : Nat) (rows : List (PutItem HoseRow))
  | hoseGet (tag start count : Nat)
  | hoseAuth (tag : Nat) (auth : AuthRequest)
  | hoseStop (tag hose : Nat)
  | pricePut (tag start : Nat) (rows : List (PutItem Nat))
  | priceGet (tag : Nat)
  | salePeek (tag : Nat) (number : Option Nat)
  | saleTake (tag : Nat) (number : Option Nat)
  | credPut (tag start : Nat) (rows : List (PutItem CredRow))
  | credGet (tag : Nat) (query : CredQuery)
  | credSuspend (tag cred : Nat)
  | credResume (tag cred : Nat)
  | credFree (tag cred : Nat)
  | gatePut (tag start : Nat) (rows : List (PutItem GateRow))
  | gateGet (tag start count : Nat)
  | gateMode (tag gate mode : Nat)
  | gatePulse (tag gate : Nat)
  | rollover
  | settlementInterval
  | bandBoundary (begins : Band)
  | clockStop
  | pollSlotEnd
  | pollReply (bytes : List Byte) (inWindow : Bool)
  | holdOffExpiry (socket : Nat)
  | tapRunLimit (tap : Nat)
  | tapNoFlow (tap : Nat)
  | nozzleLift (hose : Nat)
  | nozzleHang (hose : Nat)
  | pulse (hose : Nat)
  | authTimeout (hose : Nat)
  | noFlow (hose : Nat)
  | keyEvent (terminal key : Nat)
  | interKeyTimeout (terminal : Nat)
  | lockoutExpiry (terminal : Nat)
  | cardRead (terminal : Nat) (exitReader : Bool) (token : Nat)
  | cardWindowExpiry (gate : Nat)
  | doorContact (gate : Nat) (opens : Bool)
  | releaseTimeout (gate : Nat)
  | heldTimeout (gate : Nat)
  | exitButton (gate : Nat)
  | autoArrive
  | fuelWindowExpiry
  | selfServeOffer
  | lampExpiry
  | keypadFullScan (terminal : Nat) (reading : KeyReading)
  | backupSupplyFail
deriving DecidableEq, Repr

end Sys2Proof
end

