-- ==== Sys2Proof/Decode.lean ====
section
/-! DEFINITION. Requests as they stand on the host line: the check sequence (R189), items (R190, R204), the contents of
each request kind (R202 to R205, R209), both ways; and the host's question about the words of the opcode table, whose
rows give no bits. -/

namespace Sys2Proof

/-! ## Bytes and fields -/

/-- A number in a number of bytes, most significant first (section 10). -/
def beBytes : Nat → Nat → List Byte
  | 0, _ => []
  | size + 1, v => BitVec.ofNat 8 (v / 256 ^ size) :: beBytes size v

/-- The number that bytes spell, most significant first. -/
def beValue (l : List Byte) : Nat := l.foldl (fun a b => a * 256 + b.toNat) 0

/-- A signed number as the unsigned one of its two's complement (R202). -/
def toTwos (size : Nat) (v : Int) : Nat := (v % ((256 ^ size : Nat) : Int)).toNat

/-- An unsigned number read in two's complement across its full width (R203). -/
def ofTwos (size : Nat) (v : Nat) : Int :=
  if v < 256 ^ size / 2 then (v : Int) else (v : Int) - ((256 ^ size : Nat) : Int)

/-- The bytes of one field (R202). -/
def Field.bytes : Field → List Byte
  | .u size v => beBytes size v
  | .i size v => beBytes size (toTwos size v)

/-- A number in a closed range. -/
def within (lo hi v : Nat) : Bool := decide (lo ≤ v) && decide (v ≤ hi)

/-- The contents of an item from its fields. -/
def fieldBytes (l : List Field) : List Byte := l.flatMap Field.bytes

/-- Contents read as unsigned fields of given sizes; none when the length does not fit. -/
def splitSizes : List Nat → List Byte → Option (List Nat)
  | [], [] => some []
  | [], _ :: _ => none
  | n :: sizes, l =>
    if l.length < n then none
    else (splitSizes sizes (l.drop n)).map (beValue (l.take n) :: ·)

/-- A flag as its bit in a flags or presence field. -/
def flagBit (b : Bool) (k : Nat) : Nat := if b then 2 ^ k else 0

/-- An optional field as read: its value when its presence bit is set (R203). -/
def optional {α : Type} (presence k : Nat) (v : α) : Option α := if presence.testBit k then some v else none

/-- The five bytes of a time, as one number: the day number then the second of day (R202). -/
def stampValue (t : Stamp) : Nat := t.day * 16777216 + t.sec

/-- A time from its five bytes. -/
def stampOf (v : Nat) : Stamp := ⟨v / 16777216, v % 16777216⟩

/-! ## The check sequence -/

/-- One bit of the CRC-16 with polynomial x^16 + x^12 + x^5 + 1 (R189). -/
def crcBit (c : Nat) : Nat := if c < 32768 then c * 2 else (c * 2 - 65536).xor 0x1021

/-- One byte of the CRC-16, most significant bit first (R189: no reflection). -/
def crcByte (c : Nat) (b : Byte) : Nat :=
  crcBit (crcBit (crcBit (crcBit (crcBit (crcBit (crcBit (crcBit (c.xor (b.toNat * 256)))))))))

/-- R189: the check sequence of bytes in the order sent. -/
def crc16 (l : List Byte) : Nat := l.foldl crcByte 0xFFFF

/-! ## Items -/

/-- An item of a body as it stands on the line (R204): its code and its contents. -/
structure RawItem where
  code : Nat
  contents : List Byte
deriving DecidableEq, Repr

/-- The bytes of a body's items: the more-follows flag is set on every item but the last (R204). -/
def itemBytes : List RawItem → List Byte
  | [] => []
  | [x] => BitVec.ofNat 8 x.code :: beBytes 2 x.contents.length ++ x.contents
  | x :: y :: rest => BitVec.ofNat 8 (x.code + 128) :: beBytes 2 x.contents.length ++ x.contents ++ itemBytes (y :: rest)

/-- R190: the items of a body that is not empty, at most a number of them; none when its structure is refused. -/
def splitItems : Nat → List Byte → Option (List RawItem)
  | 0, _ => none
  | room + 1, head :: hi :: lo :: rest =>
    let len := hi.toNat * 256 + lo.toNat
    if rest.length < len then none
    else
      let item : RawItem := ⟨head.toNat % 128, rest.take len⟩
      if head.toNat ≥ 128 then (splitItems room (rest.drop len)).map (item :: ·)
      else if rest.drop len = [] then some [item] else none
  | _ + 1, _ => none

/-- R190: a body is empty, or a sequence of 1 to 16 items. -/
def bodyItems (body : List Byte) : Option (List RawItem) := if body = [] then some [] else splitItems 16 body

/-! ## Shapes of requests -/

/-- A request that carries no item (R190). -/
def noItem (i : Instr) (items : List RawItem) : Option Instr := if items = [] then some i else none

/-- A request with one parameters item (R204, code 0x10) of fields of given sizes. -/
def params (sizes : List Nat) (f : List Nat → Option Instr) (items : List RawItem) : Option Instr :=
  match items with
  | [x] => if x.code = 0x10 then (splitSizes sizes x.contents).bind f else none
  | _ => none

/-- A get with one start item (R204, code 0x03): a start of a given size, and a count. -/
def startCount (size : Nat) (f : Nat → Nat → Instr) (items : List RawItem) : Option Instr :=
  match items with
  | [x] =>
    if x.code = 0x03 then
      match splitSizes [size, 1] x.contents with
      | some [a, c] => some (f a c)
      | _ => none
    else none
  | _ => none

/-- One row item of a put: its row, or an item that does not fit (R190). -/
def putItem {α : Type} (code : Nat) (row : List Byte → Option α) (x : RawItem) : PutItem α :=
  if x.code = code then
    match row x.contents with
    | some r => .row r
    | none => .badItem
  else .badItem

/-- A multi-row put with a start item of a given size and one or more rows (R191). -/
def rowsFrom {α : Type} (size code : Nat) (row : List Byte → Option α) (f : Nat → List (PutItem α) → Instr)
    (items : List RawItem) : Option Instr :=
  match items with
  | x :: y :: rest =>
    if x.code = 0x03 then
      match splitSizes [size] x.contents with
      | some [a] => some (f a ((y :: rest).map (putItem code row)))
      | _ => none
    else none
  | _ => none

/-- TIDE_PUT and SITE_PUT: one or more items with no start item (R191). -/
def rowsOnly {α : Type} (code : Nat) (row : List Byte → Option α) (f : List (PutItem α) → Instr) (items : List RawItem) :
    Option Instr :=
  if items = [] then none else some (f (items.map (putItem code row)))

/-! ## Rows (R209, and each put's rule) -/

/-- BERTH_PUT row, item 0x30. -/
def berthRowOf (l : List Byte) : Option BerthRow :=
  match splitSizes [1, 1, 1, 1, 2, 2, 2, 4] l with
  | some [pontoon, cls, flags, state, maxLoa, maxBeam, depth, fee] =>
    if flags < 2 then some ⟨pontoon, cls, flags.testBit 0, state, maxLoa, maxBeam, depth, fee⟩ else none
  | _ => none

def berthRowFields (r : BerthRow) : List Field :=
  [.u 1 r.pontoon, .u 1 r.cls, .u 1 (flagBit r.visitorOk 0), .u 1 r.state, .u 2 r.maxLoa, .u 2 r.maxBeam, .u 2 r.depth,
   .u 4 r.fee]

/-- TIDE_PUT row, item 0x31: the day, the presence field, the height. -/
def tideRowOf (l : List Byte) : Option TideRow :=
  match splitSizes [2, 1, 2] l with
  | some [day, presence, height] => if presence < 2 then some ⟨day, optional presence 0 (ofTwos 2 height)⟩ else none
  | _ => none

def tideRowFields (r : TideRow) : List Field := [.u 2 r.day, .u 1 (flagBit r.height.isSome 0), .i 2 (r.height.getD 0)]

/-- TARIFF_PUT row, item 0x32. -/
def tariffRowOf (l : List Byte) : Option TariffRow :=
  match splitSizes [2, 2, 2] l with
  | some [dayRate, nightRate, waterRate] => some ⟨dayRate, nightRate, waterRate⟩
  | _ => none

def tariffRowFields (r : TariffRow) : List Field := [.u 2 r.dayRate, .u 2 r.nightRate, .u 2 r.waterRate]

/-- PEDESTAL_PUT row, item 0x33: flags (bit 0 configured) and the feeder. -/
def pedestalRowOf (l : List Byte) : Option PedestalRow :=
  match splitSizes [1, 1] l with
  | some [flags, feeder] => if flags < 2 then some ⟨flags.testBit 0, feeder⟩ else none
  | _ => none

def pedestalRowFields (r : PedestalRow) : List Field := [.u 1 (flagBit r.configured 0), .u 1 r.feeder]

/-- SOCKET_PUT row, item 0x34: the presence field, then the fields of R99. -/
def socketRowOf (l : List Byte) : Option SocketRow :=
  match splitSizes [1, 1, 1, 1, 1] l with
  | some [presence, berth, rating, cls, tariff] =>
    if presence < 2 then some ⟨optional presence 0 berth, rating, cls, tariff⟩ else none
  | _ => none

def socketRowFields (r : SocketRow) : List Field :=
  [.u 1 (flagBit r.berth.isSome 0), .u 1 (r.berth.getD 0), .u 1 r.rating, .u 1 r.cls, .u 1 r.tariff]

/-- TAP_PUT row, item 0x35: the presence field, then the fields of R100; the run limit's minutes are one byte (log entry
17). -/
def tapRowOf (l : List Byte) : Option TapRow :=
  match splitSizes [1, 1, 1, 1] l with
  | some [presence, berth, tariff, runLimit] =>
    if presence < 2 then some ⟨optional presence 0 berth, tariff, runLimit⟩ else none
  | _ => none

def tapRowFields (r : TapRow) : List Field :=
  [.u 1 (flagBit r.berth.isSome 0), .u 1 (r.berth.getD 0), .u 1 r.tariff, .u 1 r.runLimit]

/-- FEEDER_PUT row, item 0x36, with the fields of R108: the percentage of the diversity and the minutes of the hold-off are
one byte each (log entry 17). -/
def feederRowOf (l : List Byte) : Option FeederRow :=
  match splitSizes [2, 1, 1, 1, 1, 1] l with
  | some [limit, diversity, tripCount, bypassLimit, retry, holdOff] =>
    some ⟨limit, diversity, tripCount, bypassLimit, retry, holdOff⟩
  | _ => none

def feederRowFields (r : FeederRow) : List Field :=
  [.u 2 r.limit, .u 1 r.diversity, .u 1 r.tripCount, .u 1 r.bypassLimit, .u 1 r.retry, .u 1 r.holdOff]

/-- HOSE_PUT row, item 0x37. -/
def hoseRowOf (l : List Byte) : Option HoseRow :=
  match splitSizes [1, 2, 4, 2, 2, 4] l with
  | some [grade, p10, slowDown, authTimeout, noFlowTimeout, volumeCap] =>
    some ⟨grade, p10, slowDown, authTimeout, noFlowTimeout, volumeCap⟩
  | _ => none

def hoseRowFields (r : HoseRow) : List Field :=
  [.u 1 r.grade, .u 2 r.p10, .u 4 r.slowDown, .u 2 r.authTimeout, .u 2 r.noFlowTimeout, .u 4 r.volumeCap]

/-- PRICE_PUT row, item 0x38. -/
def priceRowOf (l : List Byte) : Option Nat :=
  match splitSizes [4] l with
  | some [price] => some price
  | _ => none

/-- The digits of a PIN's four packed bytes, high half first (R202). -/
def pinHalves (v : Nat) : List Nat := (List.range 8).map fun k => v / 16 ^ (7 - k) % 16

/-- A PIN as its count and its packed digits; digits past the eighth place read as 0 (R202). -/
def pinOf (v : Nat) : List Nat := (pinHalves v ++ List.replicate 247 0).take (v / 4294967296)

/-- The five bytes of a PIN as one number (R202). -/
def pinValue (p : List Nat) : Nat :=
  p.length * 4294967296 + ((p ++ List.replicate 8 0).take 8).foldl (fun a d => a * 16 + d) 0

/-- CRED_PUT row, item 0x39 (R209): offsets 2 to 28 of the record, the account and the gate set.
Bits 7 to 9 of the presence field, which R209 wants clear, are refused BAD_ITEM when set (log entry 11). -/
def credRowOf (l : List Byte) : Option CredRow :=
  match splitSizes [2, 1, 1, 4, 5, 2, 1, 5, 5, 1, 1, 1] l with
  | some [presence, state, kind, token, pin, booking, flags, validFrom, validUntil, location, account, gateSet] =>
    if presence < 128 ∧ flags < 8 then
      some { state, kind, token := optional presence 0 token, pin := optional presence 1 (pinOf pin),
             booking := optional presence 2 booking, account := optional presence 3 account, gateSet,
             berthGates := flags.testBit 0, fuel := flags.testBit 1, autoArrive := flags.testBit 2,
             validFrom := optional presence 4 (stampOf validFrom), validUntil := optional presence 5 (stampOf validUntil),
             location := optional presence 6 location }
    else none
  | _ => none

def credRowFields (r : CredRow) : List Field :=
  [.u 2 (flagBit r.token.isSome 0 + flagBit r.pin.isSome 1 + flagBit r.booking.isSome 2 + flagBit r.account.isSome 3 +
         flagBit r.validFrom.isSome 4 + flagBit r.validUntil.isSome 5 + flagBit r.location.isSome 6),
   .u 1 r.state, .u 1 r.kind, .u 4 (r.token.getD 0), .u 5 ((r.pin.map pinValue).getD 0), .u 2 (r.booking.getD 0),
   .u 1 (flagBit r.berthGates 0 + flagBit r.fuel 1 + flagBit r.autoArrive 2),
   .u 5 ((r.validFrom.map stampValue).getD 0), .u 5 ((r.validUntil.map stampValue).getD 0), .u 1 (r.location.getD 0),
   .u 1 (r.account.getD 0), .u 1 r.gateSet]

/-- GATE_PUT row, item 0x3A: the exit reader flag is bit 0 of the third byte. -/
def gateRowOf (l : List Byte) : Option GateRow :=
  match splitSizes [1, 1, 1, 1, 2] l with
  | some [pontoon, antiPassback, flags, releaseTime, heldTime] =>
    if flags < 2 then some ⟨pontoon, antiPassback, flags.testBit 0, releaseTime, heldTime⟩ else none
  | _ => none

def gateRowFields (r : GateRow) : List Field :=
  [.u 1 r.pontoon, .u 1 r.antiPassback, .u 1 (flagBit r.exitReader 0), .u 1 r.releaseTime, .u 2 r.heldTime]

/-- SITE_PUT item, 0x08: a number that names no parameter does not fit (R198). -/
def siteItemOf (l : List Byte) : Option SiteItem :=
  match splitSizes [1, 4] l with
  | some [param, value] => if param ≤ 8 then some ⟨param, ofTwos 4 value⟩ else none
  | _ => none

def siteItemFields (r : SiteItem) : List Field := [.u 1 r.param, .i 4 r.value]

/-! ## Requests from the line -/

/-- SITE_GET: no item, or items each naming a parameter (R198). -/
def siteGetOf (tag : Nat) (items : List RawItem) : Option Instr :=
  (items.mapM fun x => if x.code = 0x08 then (siteItemOf x.contents).map (·.param) else none).map (Instr.siteGet tag)

/-- BERTH_GET in its two forms (R4); a body with both items is refused (log entry 54). -/
def berthGetOf (tag : Nat) (items : List RawItem) : Option Instr :=
  match items with
  | [x] =>
    if x.code = 0x04 then
      match splitSizes [1, 2] x.contents with
      | some [berth, position] => some (.berthGet tag (.calendar berth position))
      | _ => none
    else startCount 1 (fun a c => .berthGet tag (.entries a c)) [x]
  | _ => none

/-- BOOK_FIXED in its two forms (R17): with a booking index the request carries only the index, the berth and the force
flag. A field the form requires and that is absent, or forbids and that is present, is refused RANGE (R203): the request
is handed on with a length or an index out of range. -/
def bookFixedOf (tag : Nat) : List Nat → Option Instr
  | [presence, booking, account, loa, beam, draught, arr, dep, berth, flags] =>
    if presence < 128 ∧ flags < 2 then
      if presence.testBit 0 then some (.bookFixedIndex tag (if presence = 1 then booking else 65535) berth (flags.testBit 0))
      else some (.bookFixed tag ⟨account, if presence = 126 then loa else 0, beam, draught, arr, dep⟩ berth (flags.testBit 0))
    else none
  | _ => none

/-- HOSE_AUTH (R141). -/
def hoseAuthOf (tag : Nat) : List Nat → Option Instr
  | [hose, presence, mode, account, prepaid, presetKind, presetValue] =>
    if presence < 8 then
      some (.hoseAuth tag ⟨hose, mode, optional presence 0 account, optional presence 1 prepaid, presetKind,
        optional presence 2 presetValue⟩)
    else none
  | _ => none

/-- SALE_PEEK and SALE_TAKE: a sale number or none (R154). -/
def saleOf (f : Option Nat → Instr) : List Nat → Option Instr
  | [presence, number] => if presence < 2 then some (f (optional presence 0 number)) else none
  | _ => none

/-- CRED_GET in its two forms (R159). -/
def credGetOf (tag : Nat) (items : List RawItem) : Option Instr :=
  match items with
  | [x] =>
    if x.code = 0x10 then
      match splitSizes [4] x.contents with
      | some [token] => some (.credGet tag (.token token))
      | _ => none
    else startCount 2 (fun a c => .credGet tag (.entries a c)) [x]
  | _ => none

/-- A request of one parameter of a given size. -/
def param1 (size : Nat) (f : Nat → Instr) (items : List RawItem) : Option Instr :=
  params [size] (fun | [a] => some (f a) | _ => none) items

/-- A request of two parameters of given sizes. -/
def param2 (size1 size2 : Nat) (f : Nat → Nat → Instr) (items : List RawItem) : Option Instr :=
  params [size1, size2] (fun | [a, b] => some (f a b) | _ => none) items

/-- A request of three parameters of given sizes. -/
def param3 (size1 size2 size3 : Nat) (f : Nat → Nat → Nat → Instr) (items : List RawItem) : Option Instr :=
  params [size1, size2, size3] (fun | [a, b, c] => some (f a b c) | _ => none) items

/-- The reading of a request kind's items (R205): none for a kind that is not a request kind. Within, none is an item
that does not fit the request. -/
def requestReader (kind tag : Nat) : Option (List RawItem → Option Instr) :=
  match kind with
  | 0x01 => some (noItem (.status tag))
  | 0x02 => some (noItem (.restart tag))
  | 0x03 => some (rowsOnly 0x08 siteItemOf (.sitePut tag))
  | 0x04 => some (siteGetOf tag)
  | 0x08 => some (param2 2 3 (.clockSet tag))
  | 0x09 => some (noItem (.clockGet tag))
  | 0x10 => some (rowsFrom 1 0x30 berthRowOf (.berthPut tag))
  | 0x11 => some (berthGetOf tag)
  | 0x12 => some (rowsOnly 0x31 tideRowOf (.tidePut tag))
  | 0x13 => some (startCount 2 (.tideGet tag))
  | 0x14 => some (params [1, 2, 2, 2, 2, 2, 1] fun
      | [account, loa, beam, draught, arr, dep, preference] =>
        some (.bookAlloc tag ⟨account, loa, beam, draught, arr, dep⟩ preference)
      | _ => none)
  | 0x15 => some (params [1, 2, 1, 2, 2, 2, 2, 2, 1, 1] (bookFixedOf tag))
  | 0x16 => some (param2 2 1 (.bookPlace tag))
  | 0x17 => some (param1 2 (.bookArrive tag))
  | 0x18 => some (param2 2 2 (.bookChange tag))
  | 0x19 => some (param1 2 (.bookDepart tag))
  | 0x1A => some (param1 2 (.bookCancel tag))
  | 0x1B => some (startCount 2 (.bookGet tag))
  | 0x20 => some (param2 1 4 (.acctOpen tag))
  | 0x21 => some (param2 1 6 fun account amount => .acctPay tag account (ofTwos 6 amount))
  | 0x22 => some (param2 1 4 (.acctLimit tag))
  | 0x23 => some (param1 1 (.acctClose tag))
  | 0x24 => some (startCount 1 (.acctGet tag))
  | 0x25 => some (rowsFrom 1 0x32 tariffRowOf (.tariffPut tag))
  | 0x26 => some (startCount 1 (.tariffGet tag))
  | 0x28 => some (rowsFrom 1 0x33 pedestalRowOf (.pedestalPut tag))
  | 0x29 => some (startCount 1 (.pedestalGet tag))
  | 0x2A => some (rowsFrom 1 0x34 socketRowOf (.socketPut tag))
  | 0x2B => some (rowsFrom 1 0x35 tapRowOf (.tapPut tag))
  | 0x2C => some (param1 1 (.tapClose tag))
  | 0x30 => some (rowsFrom 1 0x36 feederRowOf (.feederPut tag))
  | 0x31 => some (startCount 1 (.feederGet tag))
  | 0x32 => some (param3 1 1 1 (.feederBottom tag))
  | 0x33 => some (param1 1 (.feederPoll tag))
  | 0x34 => some (param2 1 1 (.feederShed tag))
  | 0x35 => some (param1 1 (.socketRelease tag))
  | 0x36 => some (param1 1 (.socketLock tag))
  | 0x37 => some (param1 1 (.socketUnlock tag))
  | 0x38 => some (param1 1 (.socketRearm tag))
  | 0x40 => some (rowsFrom 1 0x37 hoseRowOf (.hosePut tag))
  | 0x41 => some (startCount 1 (.hoseGet tag))
  | 0x42 => some (params [1, 1, 1, 1, 4, 1, 4] (hoseAuthOf tag))
  | 0x43 => some (param1 1 (.hoseStop tag))
  | 0x44 => some (rowsFrom 1 0x38 priceRowOf (.pricePut tag))
  | 0x45 => some (noItem (.priceGet tag))
  | 0x46 => some (params [1, 2] (saleOf (.salePeek tag)))
  | 0x47 => some (params [1, 2] (saleOf (.saleTake tag)))
  | 0x50 => some (rowsFrom 2 0x39 credRowOf (.credPut tag))
  | 0x51 => some (credGetOf tag)
  | 0x52 => some (param1 2 (.credSuspend tag))
  | 0x53 => some (param1 2 (.credResume tag))
  | 0x54 => some (param1 2 (.credFree tag))
  | 0x55 => some (rowsFrom 1 0x3A gateRowOf (.gatePut tag))
  | 0x56 => some (startCount 1 (.gateGet tag))
  | 0x57 => some (param2 1 1 (.gateMode tag))
  | 0x58 => some (param1 1 (.gatePulse tag))
  | _ => none

/-- What a good frame is when the HLC takes it (R190): a request, a body refused BAD_ITEM, or a kind that is not a
request kind. -/
inductive Decoded where
  | request (i : Instr)
  | badItem
  | unknownKind
deriving DecidableEq, Repr

/-- R190: a frame of a kind, a tag and a body judged by the HLC and the owner. -/
def decodeRequest (kind tag : Nat) (body : List Byte) : Decoded :=
  match requestReader kind tag with
  | none => .unknownKind
  | some read =>
    match (bodyItems body).bind read with
    | some i => .request i
    | none => .badItem

/-! ## Requests to the line -/

/-- A request frame's kind, tag and items. -/
structure RawRequest where
  kind : Nat
  tag : Nat
  items : List RawItem
deriving DecidableEq, Repr

/-- A parameters item (R204). -/
def paramsItem (fields : List Field) : RawItem := ⟨0x10, fieldBytes fields⟩

/-- A start item of a get (R204). -/
def startItem (size start count : Nat) : RawItem := ⟨0x03, fieldBytes [.u size start, .u 1 count]⟩

/-- The row items of a put; an item that does not fit is one of the row's code with no contents. -/
def rowItems {α : Type} (code : Nat) (fields : α → List Field) (rows : List (PutItem α)) : List RawItem :=
  rows.map fun
    | .row r => ⟨code, fieldBytes (fields r)⟩
    | .badItem => ⟨code, []⟩

/-- The start item of a put and its row items (R191). -/
def putItems {α : Type} (size start code : Nat) (fields : α → List Field) (rows : List (PutItem α)) : List RawItem :=
  ⟨0x03, fieldBytes [.u size start]⟩ :: rowItems code fields rows

/-- The frame in which the host sends a request; none for a command that is no request. -/
def encodeRequest : Instr → Option RawRequest
  | .requestUnknownKind kind tag => some ⟨kind, tag, []⟩
  | .status tag => some ⟨0x01, tag, []⟩
  | .restart tag => some ⟨0x02, tag, []⟩
  | .sitePut tag items => some ⟨0x03, tag, rowItems 0x08 siteItemFields items⟩
  | .siteGet tag ps => some ⟨0x04, tag, ps.map fun p => ⟨0x08, fieldBytes (siteItemFields ⟨p, 0⟩)⟩⟩
  | .clockSet tag day sec => some ⟨0x08, tag, [paramsItem [.u 2 day, .u 3 sec]]⟩
  | .clockGet tag => some ⟨0x09, tag, []⟩
  | .berthPut tag start rows => some ⟨0x10, tag, putItems 1 start 0x30 berthRowFields rows⟩
  | .berthGet tag (.entries start count) => some ⟨0x11, tag, [startItem 1 start count]⟩
  | .berthGet tag (.calendar berth position) => some ⟨0x11, tag, [⟨0x04, fieldBytes [.u 1 berth, .u 2 position]⟩]⟩
  | .tidePut tag rows => some ⟨0x12, tag, rowItems 0x31 tideRowFields rows⟩
  | .tideGet tag start count => some ⟨0x13, tag, [startItem 2 start count]⟩
  | .bookAlloc tag n preference =>
    some ⟨0x14, tag, [paramsItem [.u 1 n.account, .u 2 n.loa, .u 2 n.beam, .u 2 n.draught, .u 2 n.arr, .u 2 n.dep,
      .u 1 preference]]⟩
  | .bookFixed tag n berth force =>
    some ⟨0x15, tag, [paramsItem [.u 1 126, .u 2 0, .u 1 n.account, .u 2 n.loa, .u 2 n.beam, .u 2 n.draught, .u 2 n.arr,
      .u 2 n.dep, .u 1 berth, .u 1 (flagBit force 0)]]⟩
  | .bookFixedIndex tag booking berth force =>
    some ⟨0x15, tag, [paramsItem [.u 1 1, .u 2 booking, .u 1 0, .u 2 0, .u 2 0, .u 2 0, .u 2 0, .u 2 0, .u 1 berth,
      .u 1 (flagBit force 0)]]⟩
  | .bookPlace tag booking preference => some ⟨0x16, tag, [paramsItem [.u 2 booking, .u 1 preference]]⟩
  | .bookArrive tag booking => some ⟨0x17, tag, [paramsItem [.u 2 booking]]⟩
  | .bookChange tag booking dep => some ⟨0x18, tag, [paramsItem [.u 2 booking, .u 2 dep]]⟩
  | .bookDepart tag booking => some ⟨0x19, tag, [paramsItem [.u 2 booking]]⟩
  | .bookCancel tag booking => some ⟨0x1A, tag, [paramsItem [.u 2 booking]]⟩
  | .bookGet tag start count => some ⟨0x1B, tag, [startItem 2 start count]⟩
  | .acctOpen tag account limit => some ⟨0x20, tag, [paramsItem [.u 1 account, .u 4 limit]]⟩
  | .acctPay tag account amount => some ⟨0x21, tag, [paramsItem [.u 1 account, .i 6 amount]]⟩
  | .acctLimit tag account limit => some ⟨0x22, tag, [paramsItem [.u 1 account, .u 4 limit]]⟩
  | .acctClose tag account => some ⟨0x23, tag, [paramsItem [.u 1 account]]⟩
  | .acctGet tag start count => some ⟨0x24, tag, [startItem 1 start count]⟩
  | .tariffPut tag start rows => some ⟨0x25, tag, putItems 1 start 0x32 tariffRowFields rows⟩
  | .tariffGet tag start count => some ⟨0x26, tag, [startItem 1 start count]⟩
  | .pedestalPut tag start rows => some ⟨0x28, tag, putItems 1 start 0x33 pedestalRowFields rows⟩
  | .pedestalGet tag start count => some ⟨0x29, tag, [startItem 1 start count]⟩
  | .socketPut tag start rows => some ⟨0x2A, tag, putItems 1 start 0x34 socketRowFields rows⟩
  | .tapPut tag start rows => some ⟨0x2B, tag, putItems 1 start 0x35 tapRowFields rows⟩
  | .tapClose tag tap => some ⟨0x2C, tag, [paramsItem [.u 1 tap]]⟩
  | .feederPut tag start rows => some ⟨0x30, tag, putItems 1 start 0x36 feederRowFields rows⟩
  | .feederGet tag start count => some ⟨0x31, tag, [startItem 1 start count]⟩
  | .feederBottom tag feeder cls socket => some ⟨0x32, tag, [paramsItem [.u 1 feeder, .u 1 cls, .u 1 socket]]⟩
  | .feederPoll tag feeder => some ⟨0x33, tag, [paramsItem [.u 1 feeder]]⟩
  | .feederShed tag feeder count => some ⟨0x34, tag, [paramsItem [.u 1 feeder, .u 1 count]]⟩
  | .socketRelease tag socket => some ⟨0x35, tag, [paramsItem [.u 1 socket]]⟩
  | .socketLock tag socket => some ⟨0x36, tag, [paramsItem [.u 1 socket]]⟩
  | .socketUnlock tag socket => some ⟨0x37, tag, [paramsItem [.u 1 socket]]⟩
  | .socketRearm tag socket => some ⟨0x38, tag, [paramsItem [.u 1 socket]]⟩
  | .hosePut tag start rows => some ⟨0x40, tag, putItems 1 start 0x37 hoseRowFields rows⟩
  | .hoseGet tag start count => some ⟨0x41, tag, [startItem 1 start count]⟩
  | .hoseAuth tag a =>
    some ⟨0x42, tag, [paramsItem [.u 1 a.hose,
      .u 1 (flagBit a.account.isSome 0 + flagBit a.prepaid.isSome 1 + flagBit a.presetValue.isSome 2), .u 1 a.mode,
      .u 1 (a.account.getD 0), .u 4 (a.prepaid.getD 0), .u 1 a.presetKind, .u 4 (a.presetValue.getD 0)]]⟩
  | .hoseStop tag hose => some ⟨0x43, tag, [paramsItem [.u 1 hose]]⟩
  | .pricePut tag start rows => some ⟨0x44, tag, putItems 1 start 0x38 (fun p => [.u 4 p]) rows⟩
  | .priceGet tag => some ⟨0x45, tag, []⟩
  | .salePeek tag number => some ⟨0x46, tag, [paramsItem [.u 1 (flagBit number.isSome 0), .u 2 (number.getD 0)]]⟩
  | .saleTake tag number => some ⟨0x47, tag, [paramsItem [.u 1 (flagBit number.isSome 0), .u 2 (number.getD 0)]]⟩
  | .credPut tag start rows => some ⟨0x50, tag, putItems 2 start 0x39 credRowFields rows⟩
  | .credGet tag (.entries start count) => some ⟨0x51, tag, [startItem 2 start count]⟩
  | .credGet tag (.token token) => some ⟨0x51, tag, [paramsItem [.u 4 token]]⟩
  | .credSuspend tag cred => some ⟨0x52, tag, [paramsItem [.u 2 cred]]⟩
  | .credResume tag cred => some ⟨0x53, tag, [paramsItem [.u 2 cred]]⟩
  | .credFree tag cred => some ⟨0x54, tag, [paramsItem [.u 2 cred]]⟩
  | .gatePut tag start rows => some ⟨0x55, tag, putItems 1 start 0x3A gateRowFields rows⟩
  | .gateGet tag start count => some ⟨0x56, tag, [startItem 1 start count]⟩
  | .gateMode tag gate mode => some ⟨0x57, tag, [paramsItem [.u 1 gate, .u 1 mode]]⟩
  | .gatePulse tag gate => some ⟨0x58, tag, [paramsItem [.u 1 gate]]⟩
  | .powerOn _ _ _ | .powerFail | .resetPinAssert | .resetPinRelease _ _ | .restartBegin _ _ | .restartTimeout _ _
  | .catchUp | .fdcStart | .hostByteReceived _ _ | .frameGapTimeout | .hostCtsChange _ | .transmitFrameDone
  | .rollover | .settlementInterval | .bandBoundary _ | .clockStop | .pollSlotEnd | .pollReply _ _ | .holdOffExpiry _
  | .tapRunLimit _ | .tapNoFlow _ | .nozzleLift _ | .nozzleHang _ | .pulse _ | .authTimeout _ | .noFlow _
  | .keyEvent _ _ | .interKeyTimeout _ | .lockoutExpiry _ | .cardRead _ _ _ | .cardWindowExpiry _ | .doorContact _ _
  | .releaseTimeout _ | .heldTimeout _ | .exitButton _ | .autoArrive | .fuelWindowExpiry | .selfServeOffer | .lampExpiry
  | .keypadFullScan _ _ | .backupSupplyFail => none

/-- A frame as it stands on the line (R187, R204). -/
def frameBytes (kind tag : Nat) (body : List Byte) : List Byte :=
  let covered := beBytes 2 body.length ++ [BitVec.ofNat 8 kind, BitVec.ofNat 8 tag] ++ body
  0x7B#8 :: covered ++ beBytes 2 (crc16 covered)

/-! ## The opcode table's words -/

/-- The command a word of the opcode table spells: no row of this block's table gives bits, so no word spells one. -/
def decodeTableWord (_nbits _w : Nat) : Option Instr := none

end Sys2Proof
end

