-- ==== Sys2Proof/Config.lean ====
section
/-! DEFINITION. What the manual leaves open and the part goes on after: constants without a body, so that no proof can
rest on a value (log entries 20 to 22, 40, 50, 55), and the counts the manual fixes for every part. -/

namespace Sys2Proof

/-- The new value of a booking's nights charged when a fee is counted with the count already at 65535, its largest
value (R25): the manual states none (log entry 20). -/
opaque Config.nightsChargedPastRange : Nat → Nat

/-- The new value of a booking's overstay nights when the addition passes 65535 (R25, R40), from the exact sum: the
manual states none (log entry 20). -/
opaque Config.overstayPastRange : Nat → Nat

/-- The new pulse count of a sale when a pulse comes with the count already at 4,294,967,295 (R138, R148): the manual
states none (log entry 21). -/
opaque Config.pulsesPastRange : Nat → Nat

/-- The seconds PEDESTAL(RETURN) carries for a pedestal that was lost without ever having given a good report (R89),
from the time base: the manual states none (log entry 22). -/
opaque Config.returnSecondsUnreported : Nat → Nat

/-- The day number of the next rollover moment in CLOCK_GET (R75) when the day before it is 65535, the last day number (R69):
the manual states none (log entry 50). -/
opaque Config.nextRolloverPastRange : Nat → Nat

/-- What a sale's amount past 4,294,967,295 is sent as in its four bytes (R138, R202): the manual states none (log entry
55). -/
opaque Config.amountPastField : Nat → Nat

/-- Whether the backup supply, absent so far, is back at the model's n-th reading of it under main power (R200): an input
whose return the table gives no event (log entry 40). -/
opaque Config.backupReturned : Nat → Bool

def berthCount : Nat := 256
def bookingCount : Nat := 512
def accountCount : Nat := 256
def socketCount : Nat := 256
def tapCount : Nat := 128
def credCount : Nat := 1024

end Sys2Proof
end

