-- ==== Sys2Proof/Machine/Types.lean ====
section
/-! DEFINITION. The records of the eight blocks, field by field as the chapters give them, and the notices and replies
the block sends. A field that says how long something has lasted is kept as the moment on the time base at which it
began (log entry 4); a moment on the time base counts 1/256 s since the start. -/

namespace Sys2Proof.Machine

/-! ## Berth allocator -/

/-- A berth's class (R1). -/
inductive BerthClass where
  | service
  | resident
  | visitor
deriving DecidableEq, Repr

/-- A berth's state (R1). -/
inductive BerthState where
  | inService
  | blocked
deriving DecidableEq, Repr

/-- A berth entry (R1). -/
structure Berth where
  pontoon : Nat
  cls : BerthClass
  visitorOk : Bool
  state : BerthState
  maxLoa : Nat
  maxBeam : Nat
  depth : Nat
  fee : Nat
deriving DecidableEq, Repr

/-- A booking's state (R25); the last three are the closed states. -/
inductive BookState where
  | free
  | confirmed
  | arrived
  | unplaced
  | departed
  | cancelled
  | noShow
deriving DecidableEq, Repr

/-- A booking record (R25). In a FREE record the plain number fields are absent and stand at 0 (log entry 5). -/
structure Booking where
  state : BookState
  account : Nat
  berth : Option Nat
  loa : Nat
  beam : Nat
  draught : Nat
  arr : Nat
  dep : Nat
  arrivedTime : Option Stamp
  departedTime : Option Stamp
  closedTime : Option Stamp
  nightsCharged : Nat
  overstay : Nat
deriving DecidableEq, Repr

/-- The arrival case of R30. -/
inductive ArriveCase where
  | onTime
  | morning
  | early
deriving DecidableEq, Repr

/-- An arrival request the GTC has handed to the BAL and the BAL has not yet taken (R177). -/
structure Arrival where
  booking : Nat
  cred : Nat
  gate : Nat
deriving DecidableEq, Repr

/-! ## Account unit -/

/-- An account's state (R47): FREE, OPEN, HOLD. -/
inductive AcctState where
  | free
  | opened
  | held
deriving DecidableEq, Repr

/-- An account record (R47). Account 0 has no credit limit; its field stands at 0 and is never read (R48). -/
structure Account where
  state : AcctState
  balance : Int
  limit : Nat
  earmark : Nat
deriving DecidableEq, Repr

/-- A tariff set (R61). -/
structure Tariff where
  dayRate : Nat
  nightRate : Nat
  waterRate : Nat
deriving DecidableEq, Repr

/-- What the ACU keeps for a socket meter (R62). -/
structure SocketAcct where
  residue : Nat
  band : Band
deriving DecidableEq, Repr

/-! ## Clock unit -/

/-- The source of a rollover (R76). -/
inductive RolloverSource where
  | hour
  | set
  | site
  | catchUp
deriving DecidableEq, Repr

/-! ## Pedestal line controller -/

/-- A pedestal's link state (R83). -/
inductive LinkState where
  | unknown
  | online
  | lost
deriving DecidableEq, Repr

/-- The retained part of a pedestal entry (R83). -/
structure PedestalCfg where
  configured : Bool
  feeder : Nat
deriving DecidableEq, Repr

/-- The volatile part of a pedestal entry (R83), and whether it has given a good reply since the start (R86). -/
structure PedestalLink where
  link : LinkState
  miss : Nat
  lastGood : Option Nat
  heard : Bool
deriving DecidableEq, Repr

/-- The static part of a socket record (R99). -/
structure SocketCfg where
  berth : Option Nat
  rating : Nat
  cls : Nat
  tariff : Nat
deriving DecidableEq, Repr

/-- The static part of a tap record (R100); run limit in minutes. -/
structure TapCfg where
  berth : Option Nat
  tariff : Nat
  runLimit : Nat
deriving DecidableEq, Repr

/-- A meter record (R92). -/
structure Meter where
  baseline : Nat
  unsettled : Nat
deriving DecidableEq, Repr

/-- What the PDL keeps of a socket's last report (R87). -/
structure SocketReport where
  plug : Bool
  contactor : Bool
  trip : Bool
  current : Nat
deriving DecidableEq, Repr

/-- An OPEN tap (R96, R97): when its run time and its no-flow time began, and the run limit in minutes it opened
with. A CLOSED tap has none. -/
structure TapRun where
  since : Nat
  flowSince : Nat
  limit : Nat
deriving DecidableEq, Repr

/-- The instruction a poll carries for a socket (R86, section 10.6), in code order. -/
inductive ContactorOrder where
  | keep
  | openIt
  | closeIt
deriving DecidableEq, Repr

/-- A poll as it was sent (R86): the address, one order for each socket, and for each tap the valve and the press
acknowledgement. -/
structure Poll where
  address : Nat
  sockets : List ContactorOrder
  valves : List Bool
  acks : List Bool
deriving DecidableEq, Repr

/-- One socket position of a good reply (R87): its report and its cumulative Wh count. -/
structure SocketReading where
  report : SocketReport
  count : Nat
deriving DecidableEq, Repr

/-- One tap position of a good reply (R87): its latched press and its cumulative litre count. -/
structure TapReading where
  press : Bool
  count : Nat
deriving DecidableEq, Repr

/-- A reply that has the form of R210. -/
structure PollReply where
  address : Nat
  sockets : List SocketReading
  taps : List TapReading
deriving DecidableEq, Repr

/-- The reason of TAP(REFUSED) (R96, R208), in code order. -/
inductive TapRefusal where
  | noBerth
  | notArrived
  | held
deriving DecidableEq, Repr

/-- The cause of TAP(CLOSED) (R97, R98, R208), in code order. -/
inductive TapCause where
  | button
  | limit
  | noFlow
  | depart
  | hold
  | cls
  | lost
  | host
deriving DecidableEq, Repr

/-! ## Feeder arbiter -/

/-- A socket's state (R103). -/
inductive SocketState where
  | unassigned
  | idle
  | waiting
  | pending
  | granted
  | energised
  | shed
  | tripped
  | locked
deriving DecidableEq, Repr

/-- The source of a shed (R103). -/
inductive ShedSource where
  | feeder
  | host
deriving DecidableEq, Repr

/-- The cause of a shed (R127), in the order the rule lists them. -/
inductive ShedCause where
  | overload
  | limit
  | feederShed
  | release
deriving DecidableEq, Repr

/-- The faults a socket can be LOCKED with (R103, R117). -/
inductive SocketFault where
  | contactor
deriving DecidableEq, Repr

/-- The dynamic record of a socket (R103). The hold-off is kept as the moment of the time base at which it ends;
`fault` is the fault CONTACTOR. -/
structure Socket where
  state : SocketState
  reservation : Option Nat
  stamp : Option Nat
  confirm : Option Nat
  bypass : Nat
  shedSource : Option ShedSource
  holdOffEnd : Option Nat
  fault : Bool
deriving DecidableEq, Repr

/-- A feeder's retry mode (R106). -/
inductive RetryMode where
  | auto
  | edge
deriving DecidableEq, Repr

/-- The configured fields of a feeder (R106); hold-off in minutes. -/
structure FeederCfg where
  limit : Nat
  diversity : Nat
  tripCount : Nat
  bypassLimit : Nat
  retry : RetryMode
  holdOff : Nat
deriving DecidableEq, Repr

/-- The working fields of a feeder (R106): the four rotation pointers by class, the pending set as an ascending
list. -/
structure Feeder where
  reserved : Nat
  overCount : Nat
  measured : Nat
  blocking : Option Nat
  pointers : Table Nat
  pending : List Nat
deriving DecidableEq, Repr

/-! ## Fuel dock controller -/

/-- A hose's state (R134). -/
inductive HoseState where
  | idle
  | calling
  | authorised
  | fuelling
  | slow
  | closing
  | hangWait
deriving DecidableEq, Repr

/-- The configured fields of a hose (R133). -/
structure HoseCfg where
  grade : Nat
  p10 : Nat
  slowDown : Nat
  authTimeout : Nat
  noFlowTimeout : Nat
  volumeCap : Nat
deriving DecidableEq, Repr

/-- The working state of a hose (R134): `lifted` is the nozzle as last read; the timers are kept as the moments they
began. -/
structure Hose where
  state : HoseState
  lifted : Bool
  sale : Option Nat
  authSince : Option Nat
  flowSince : Option Nat
  stray : Nat
  strayReported : Bool
deriving DecidableEq, Repr

/-- A sale's mode (R138). -/
inductive SaleMode where
  | account
  | prepaid
  | house
deriving DecidableEq, Repr

/-- A sale's preset kind (R138). -/
inductive PresetKind where
  | none
  | amount
  | volume
deriving DecidableEq, Repr

/-- A sale's end reason (R138), in code order. -/
inductive EndReason where
  | nozzle
  | limit
  | stop
  | noFlow
  | authTimeout
  | power
deriving DecidableEq, Repr

/-- A sale record (R138); the state is DONE when `done`, OPEN otherwise. -/
structure Sale where
  number : Nat
  hose : Nat
  grade : Nat
  price : Nat
  p10 : Nat
  mode : SaleMode
  account : Option Nat
  prepaid : Option Nat
  cred : Option Nat
  presetKind : PresetKind
  presetValue : Option Nat
  maxAmount : Nat
  volLimit : Nat
  startTime : Stamp
  endTime : Option Stamp
  pulses : Nat
  volume : Nat
  overrun : Option Nat
  amount : Option Nat
  charged : Option Nat
  refund : Option Nat
  reason : Option EndReason
  done : Bool
deriving DecidableEq, Repr

/-! ## Gate controller -/

/-- A credential's state (R156). -/
inductive CredState where
  | free
  | active
  | suspended
deriving DecidableEq, Repr

/-- A credential's kind (R156). -/
inductive CredKind where
  | card
  | pin
  | cardPin
deriving DecidableEq, Repr

/-- A credential's location (R156). -/
inductive Location where
  | land
  | pontoon
  | unknown
deriving DecidableEq, Repr

/-- A credential record (R156); the gate set is its byte, bit n - 1 for gate n (R202). -/
structure Cred where
  state : CredState
  kind : CredKind
  token : Option Nat
  pin : Option (List Nat)
  booking : Option Nat
  account : Option Nat
  gateSet : Nat
  berthGates : Bool
  fuel : Bool
  autoArrive : Bool
  validFrom : Option Stamp
  validUntil : Option Stamp
  location : Location
  lastUse : Option Stamp
deriving DecidableEq, Repr

/-- A gate's mode (R162). -/
inductive GateMode where
  | normal
  | lockdown
  | openHold
deriving DecidableEq, Repr

/-- A gate's anti-passback mode (R162). -/
inductive Passback where
  | off
  | soft
  | hard
deriving DecidableEq, Repr

/-- The configured fields of a gate (R162). -/
structure GateCfg where
  pontoon : Nat
  mode : GateMode
  antiPassback : Passback
  exitReader : Bool
  releaseTime : Nat
  heldTime : Nat
deriving DecidableEq, Repr

/-- A door's state (R163). -/
inductive DoorState where
  | secure
  | released
  | opened
  | heldAlarm
  | forcedAlarm
deriving DecidableEq, Repr

/-- A release's direction (R163). -/
inductive Direction where
  | entry
  | exit
  | none
deriving DecidableEq, Repr

/-- A running timer: when it began, and the seconds it runs for. -/
structure Timer where
  since : Nat
  secs : Nat
deriving DecidableEq, Repr

/-- The working state of a gate (R163), and the passback flag kept with the release (R175). `contactOpen` is the
contact as last taken. -/
structure Gate where
  door : DoorState
  contactOpen : Bool
  attributed : Option Nat
  direction : Option Direction
  releaseTimer : Option Timer
  heldTimer : Option Timer
  passback : Bool
deriving DecidableEq, Repr

/-- A keypad scanner's state (R166). -/
inductive Scanner where
  | idle
  | key (k : Nat)
  | multi
deriving DecidableEq, Repr

/-- A card waiting at a terminal, and when its window began (R166). -/
structure PendingCard where
  cred : Nat
  since : Nat
deriving DecidableEq, Repr

/-- The working state of a terminal (R166). -/
structure Terminal where
  scanner : Scanner
  reading : KeyReading
  equalScans : Nat
  buffer : List Nat
  keySince : Option Nat
  failures : Nat
  lockoutSince : Option Nat
  card : Option PendingCard
deriving DecidableEq, Repr

/-- Terminal 7's window (R166). -/
inductive Window where
  | none
  | pin
  | hose
deriving DecidableEq, Repr

/-- Terminal 7's lamp (R166), with when its result was lit. -/
inductive Lamp where
  | off
  | green (since : Nat)
  | red (since : Nat)
deriving DecidableEq, Repr

/-- A self-serve offer that awaits the FDC's outcome (R182). -/
structure Offer where
  cred : Nat
  hose : Nat
  account : Option Nat
deriving DecidableEq, Repr

/-- Terminal 7's own fields (R166); the offer pending flag is set while there is an offer. -/
structure FuelTerminal where
  window : Window
  lamp : Lamp
  offer : Option Offer
deriving DecidableEq, Repr

/-- The reason of GATE(REFUSED) (R208), in code order. -/
inductive GateRefusal where
  | unknown
  | busy
  | lockdown
  | suspended
  | notYet
  | expired
  | noBerth
  | gate
  | held
  | passback
deriving DecidableEq, Repr

/-- Where a presentation came from (R175): the entry reader (terminal 7's only reader among them), the exit reader,
the keypad. -/
inductive Reader where
  | entry
  | exit
  | keypad
deriving DecidableEq, Repr

/-! ## Host link controller -/

/-- A start's cause (R200). -/
inductive Cause where
  | cold
  | power
  | pin
  | restart
deriving DecidableEq, Repr

/-- The line speed (R186), slowest first. -/
inductive Speed where
  | b19200
  | b57600
  | b115200
  | b230400
deriving DecidableEq, Repr

/-- The receiver's state (R188). -/
inductive RxState where
  | hunt
  | header
  | body
  | check
deriving DecidableEq, Repr

/-- A good frame (R187): its kind, tag and body. -/
structure Frame where
  kind : Nat
  tag : Nat
  body : List Byte
deriving DecidableEq, Repr

/-- A reply's status code (R205), in code order. -/
inductive Status where
  | ok
  | unknownKind
  | badItem
  | range
  | noSuch
  | state
  | conflict
  | unfit
  | noBerth
  | berthOccupied
  | full
  | credit
  | held
  | clockUnset
deriving DecidableEq, Repr

/-- An item of a reply body: its code and its fields (R204). -/
structure Item where
  code : Nat
  fields : List Field
deriving DecidableEq, Repr

/-- What an owner answers to a request (R194, R206): the status, the rows written, and the items after the status
item. -/
structure Answer where
  status : Status
  rows : Nat
  items : List Item
deriving DecidableEq, Repr

/-- A reply (R206): the request's kind and tag, and the owner's answer. -/
structure Reply where
  kind : Nat
  tag : Nat
  answer : Answer
deriving DecidableEq, Repr

/-- The reply slot (R194, R195): the reply, and how many notices from the front of the queue must leave before it is
ready. -/
structure Slot where
  reply : Reply
  behind : Nat
deriving DecidableEq, Repr

/-- What a notice reports: one constructor for each notice of R207, with the fields its raising rule names. -/
inductive NoticeBody where
  | started (cause : Cause) (speed : Speed) (clockSet : Bool) (time : Stamp) (backup : Bool)
  | socketGranted (socket feeder reservation headroom : Nat)
  | socketEnergised (socket feeder : Nat)
  | socketWithdrawn (socket feeder : Nat)
  | socketShed (socket feeder reservation : Nat) (cause : ShedCause)
  | socketTripped (socket feeder : Nat)
  | socketFault (socket feeder : Nat) (fault : SocketFault)
  | socketAdopted (socket feeder reservation : Nat)
  | feederOverload (feeder measured limit : Nat) (shed : Option Nat)
  | pedestalLost (address feeder : Nat)
  | pedestalReturn (address seconds : Nat)
  | meterJump (tap : Bool) (number oldBaseline reported elapsed : Nat)
  | tapOpen (tap berth : Nat) (booking : Option Nat)
  | tapClosed (tap : Nat) (cause : TapCause) (seconds : Nat)
  | tapRefused (reason : TapRefusal)
  | bookingExtended (booking berth dep : Nat)
  | bookingMoved (booking oldBerth newBerth : Nat)
  | bookingUnplaced (booking berth : Nat)
  | bookingNoShow (booking : Nat) (berth : Option Nat)
  | bookingArrived (booking berth : Nat) (case : ArriveCase) (arr source : Nat)
  | arriveRefused (booking cred gate : Nat) (code : Status)
  | accountHold (account : Nat) (state : AcctState) (balance : Int) (limit : Nat)
  | accountClear (account : Nat) (state : AcctState) (balance : Int) (limit : Nat)
  | hoseCalling (hose grade : Nat)
  | hoseStray (hose : Nat) (state : HoseState) (sale : Option Nat)
  | saleDone (number hose : Nat) (mode : SaleMode) (account : Option Nat) (reason : EndReason)
      (volume overrun amount charged : Nat) (refund : Option Nat)
  | gatePassage (gate : Nat) (direction : Direction) (cred : Option Nat) (passback : Bool)
  | gateRefused (terminal : Nat) (reader : Reader) (cred : Option Nat) (reason : GateRefusal) (lockout : Bool)
  | gateForced (gate : Nat)
  | gateHeld (gate : Nat)
  | gateCleared (gate : Nat) (alarm : DoorState)
  | gateFuel (cred hose : Nat) (status : Status) (sale : Option Nat)
  | rolloverDone (day : Nat) (source : RolloverSource) (fees noShows extended : Nat)
  | rolloverSkipped (count first last : Nat)
deriving DecidableEq, Repr

/-- A notice in the queue: when it was raised, and what it reports (R196). -/
structure Notice where
  time : Stamp
  body : NoticeBody
deriving DecidableEq, Repr

/-- The frame the transmit path is sending (R195); a notice with the dropped flag its header took (R196). -/
inductive Sending where
  | reply (r : Reply)
  | notice (n : Notice) (dropped : Bool)
deriving DecidableEq, Repr

end Sys2Proof.Machine
end

