-- ==== Sys2Proof/Machine/Operands.lean ====
section
/-! DEFINITION. Enumerations as bytes (R202): the list of values each rule gives, in its order; a value's code is its
position, and a byte beyond the last value names none. -/

namespace Sys2Proof.Machine

/-- A value's code: its position in its list (R202). -/
def codeIn {α : Type} [DecidableEq α] (l : List α) (x : α) : Nat := l.findIdx fun y => decide (y = x)

/-- The value of a code, or none beyond the last value (R203). -/
def valueOf {α : Type} (l : List α) (code : Nat) : Option α := l[code]?

def berthClasses : List BerthClass := [.service, .resident, .visitor]
def berthStates : List BerthState := [.inService, .blocked]
def bookStates : List BookState := [.free, .confirmed, .arrived, .unplaced, .departed, .cancelled, .noShow]
def arriveCases : List ArriveCase := [.onTime, .morning, .early]
def acctStates : List AcctState := [.free, .opened, .held]
def bands : List Band := [.day, .night]
def rolloverSources : List RolloverSource := [.hour, .set, .site, .catchUp]
def linkStates : List LinkState := [.unknown, .online, .lost]
def contactorOrders : List ContactorOrder := [.keep, .openIt, .closeIt]
def tapRefusals : List TapRefusal := [.noBerth, .notArrived, .held]
def tapCauses : List TapCause := [.button, .limit, .noFlow, .depart, .hold, .cls, .lost, .host]
def socketStates : List SocketState :=
  [.unassigned, .idle, .waiting, .pending, .granted, .energised, .shed, .tripped, .locked]
def shedSources : List ShedSource := [.feeder, .host]
def shedCauses : List ShedCause := [.overload, .limit, .feederShed, .release]
def socketFaults : List SocketFault := [.contactor]
def retryModes : List RetryMode := [.auto, .edge]
def hoseStates : List HoseState := [.idle, .calling, .authorised, .fuelling, .slow, .closing, .hangWait]
def saleModes : List SaleMode := [.account, .prepaid, .house]
def presetKinds : List PresetKind := [.none, .amount, .volume]
def endReasons : List EndReason := [.nozzle, .limit, .stop, .noFlow, .authTimeout, .power]
def credStates : List CredState := [.free, .active, .suspended]
def credKinds : List CredKind := [.card, .pin, .cardPin]
def locations : List Location := [.land, .pontoon, .unknown]
def gateModes : List GateMode := [.normal, .lockdown, .openHold]
def passbacks : List Passback := [.off, .soft, .hard]
def doorStates : List DoorState := [.secure, .released, .opened, .heldAlarm, .forcedAlarm]
def directions : List Direction := [.entry, .exit, .none]
def windows : List Window := [.none, .pin, .hose]
def gateRefusals : List GateRefusal :=
  [.unknown, .busy, .lockdown, .suspended, .notYet, .expired, .noBerth, .gate, .held, .passback]
def readers : List Reader := [.entry, .exit, .keypad]
def causes : List Cause := [.cold, .power, .pin, .restart]
def speeds : List Speed := [.b19200, .b57600, .b115200, .b230400]
def statuses : List Status :=
  [.ok, .unknownKind, .badItem, .range, .noSuch, .state, .conflict, .unfit, .noBerth, .berthOccupied, .full, .credit, .held,
   .clockUnset]

/-- The scanner state's code: IDLE, KEY, MULTI (R166). -/
def scannerCode : Scanner → Nat
  | .idle => 0
  | .key _ => 1
  | .multi => 2

/-- The lamp's code: OFF, GREEN, RED (R166). -/
def lampCode : Lamp → Nat
  | .off => 0
  | .green _ => 1
  | .red _ => 2

end Sys2Proof.Machine
end

