-- ==== Sys2Proof/Machine/Cold.lean ====
section
/-! DEFINITION. The cold-start value of every retained record and the start value of every volatile one, as the
chapters' tables give them. A table of `State` lists only the entries that differ from these. -/

namespace Sys2Proof.Machine

/-- R1, cold start column. -/
def coldBerth : Berth :=
  { pontoon := 1, cls := .visitor, visitorOk := false, state := .inService, maxLoa := 0, maxBeam := 0, depth := 0, fee := 0 }

/-- R25: a FREE record, its counts 0 and every other field absent. -/
def coldBooking : Booking :=
  { state := .free, account := 0, berth := none, loa := 0, beam := 0, draught := 0, arr := 0, dep := 0,
    arrivedTime := none, departedTime := none, closedTime := none, nightsCharged := 0, overstay := 0 }

/-- R47: a FREE account. -/
def coldAccount : Account := { state := .free, balance := 0, limit := 0, earmark := 0 }

/-- R47, R48: account 0 at a cold start. -/
def coldHouse : Account := { state := .opened, balance := 0, limit := 0, earmark := 0 }

/-- R61. -/
def coldTariff : Tariff := { dayRate := 0, nightRate := 0, waterRate := 0 }

/-- R62. -/
def coldSocketAcct : SocketAcct := { residue := 0, band := .day }

/-- R83, retained fields. -/
def coldPedestal : PedestalCfg := { configured := false, feeder := 1 }

/-- R83, volatile fields. -/
def startLink : PedestalLink := { link := .unknown, miss := 0, lastGood := none, heard := false }

/-- R99. -/
def coldSocketCfg : SocketCfg := { berth := none, rating := 16, cls := 3, tariff := 0 }

/-- R100. -/
def coldTapCfg : TapCfg := { berth := none, tariff := 0, runLimit := 30 }

/-- R92. -/
def coldMeter : Meter := { baseline := 0, unsettled := 0 }

/-- R103: the start value of a socket whose static record has no berth. -/
def startSocket : Socket :=
  { state := .unassigned, reservation := none, stamp := none, confirm := none, bypass := 0, shedSource := none,
    holdOffEnd := none, fault := false }

/-- R106, configured fields. -/
def coldFeederCfg : FeederCfg :=
  { limit := 0, diversity := 100, tripCount := 3, bypassLimit := 4, retry := .auto, holdOff := 10 }

/-- R106, working fields; a rotation pointer is 0. -/
def startFeeder : Feeder :=
  { reserved := 0, overCount := 0, measured := 0, blocking := none, pointers := [], pending := [] }

/-- R133. -/
def coldHoseCfg : HoseCfg :=
  { grade := 1, p10 := 10000, slowDown := 50, authTimeout := 120, noFlowTimeout := 60, volumeCap := 100000 }

/-- R134: a hose whose nozzle reads hung at the start. -/
def startHose : Hose :=
  { state := .idle, lifted := false, sale := none, authSince := none, flowSince := none, stray := 0, strayReported := false }

/-- R134, R155: a hose whose nozzle reads lifted at the start. -/
def startHoseLifted : Hose := { startHose with state := .hangWait, lifted := true }

/-- R156: a FREE credential, its location UNKNOWN and every optional field absent (log entry 5). -/
def coldCred : Cred :=
  { state := .free, kind := .card, token := none, pin := none, booking := none, account := none, gateSet := 0,
    berthGates := false, fuel := false, autoArrive := false, validFrom := none, validUntil := none, location := .unknown,
    lastUse := none }

/-- R162, but for the pontoon served: gate n serves pontoon n. -/
def coldGateCfg (gate : Nat) : GateCfg :=
  { pontoon := gate, mode := .normal, antiPassback := .off, exitReader := false, releaseTime := 5, heldTime := 60 }

/-- R163: a gate whose contact reads CLOSED at the start. -/
def startGate : Gate :=
  { door := .secure, contactOpen := false, attributed := none, direction := none, releaseTimer := none, heldTimer := none,
    passback := false }

/-- R166. -/
def startTerminal : Terminal :=
  { scanner := .idle, reading := .none, equalScans := 0, buffer := [], keySince := none, failures := 0,
    lockoutSince := none, card := none }

/-- R166, terminal 7's own fields. -/
def startFuelTerminal : FuelTerminal := { window := .none, lamp := .off, offer := none }

end Sys2Proof.Machine
end

