-- ==== Sys2Proof/Machine/State.lean ====
section
/-! DEFINITION. The state of the MP-640 as plain data: one structure for each block of the manual's block table, one for
the supply and the input pins, and the queue of commands that wait. -/

namespace Sys2Proof.Machine

/-- The supplies, the retained domain's validity mark, and what the input pins read (R186, R193, R199, R200). -/
structure Supply where
  /-- main power is present -/
  main : Bool
  /-- the reset pin is low: the part is held in reset -/
  resetHeld : Bool
  /-- the backup supply is present -/
  backup : Bool
  /-- how often the model has read an absent backup supply's return (log entry 40) -/
  backupReads : Nat
  /-- the validity mark of the retained domain -/
  valid : Bool
  /-- main power returned while the reset pin was low and its start is still to be made (log entry 12) -/
  startDue : Bool
  /-- strap pin SPA is tied low -/
  spa : Bool
  /-- strap pin SPB is tied low -/
  spb : Bool
  /-- the host's clear-to-send is asserted -/
  hostCts : Bool
  /-- the nozzle switch of each hose, true when it reads lifted -/
  nozzles : Table Bool
  /-- the door contact of each gate, true when it reads open -/
  contacts : Table Bool
deriving DecidableEq, Repr

/-- The host link controller (HLC): all of it volatile. -/
structure Hlc where
  /-- the receiver's state (R188) -/
  rxState : RxState
  /-- the bytes received of the frame in reception, after its sync byte -/
  rxBytes : List Byte
  /-- the good frames that wait to be taken, oldest first (R188, R194) -/
  waiting : List Frame
  /-- the reply slot (R194) -/
  slot : Option Slot
  /-- the frame being sent (R195) -/
  tx : Option Sending
  /-- the notice queue, oldest first (R196) -/
  notices : List Notice
  /-- the dropped flag (R196) -/
  dropped : Bool
  /-- the cause of the last start (R200) -/
  cause : Cause
  /-- the line speed in force (R186) -/
  speed : Speed
  /-- when the RESTART reply became ready, while a restart is awaited (R199) -/
  restart : Option Nat
deriving DecidableEq, Repr

/-- The clock unit (CLK): the clock and its site parameters retained, the rest volatile. -/
structure Clk where
  /-- day number (R69) -/
  day : Nat
  /-- second of day (R69) -/
  sec : Nat
  /-- fraction in 1/256 s (R69) -/
  frac : Nat
  /-- the clock-set flag (R69) -/
  isSet : Bool
  /-- the last rollover day (R69) -/
  lastRoll : Nat
  /-- the rollover hour (R71) -/
  rollHour : Nat
  /-- the settlement interval in minutes (R71) -/
  interval : Nat
  /-- the day band hour (R71) -/
  dayHour : Nat
  /-- the night band hour (R71) -/
  nightHour : Nat
  /-- the settlement timer: second of day of the next settlement-interval event (R79) -/
  settleTimer : Nat
  /-- the start's catch-up has still to be run (R78) -/
  catchUpDue : Bool
  /-- the model's own: a settlement-interval event has occurred and no SETTLEMENT_INTERVAL has taken it (log entry 8) -/
  settleDue : Bool
  /-- the model's own: the band boundary the clock has reached and no BAND_BOUNDARY has taken (log entry 8) -/
  bandDue : Option Band
  /-- the time base of the PDL, the FDC and the GTC: 1/256 s since the start (R83, R134; log entry 4) -/
  uptime : Nat
deriving DecidableEq, Repr

/-- The berth allocator (BAL): retained, but for the arrival requests handed to it. -/
structure Bal where
  /-- the berth table (R1) -/
  berths : Table Berth
  /-- the booking table (R25); the calendars of R10 are read from it (log entry 2) -/
  bookings : Table Booking
  /-- the low-water table: day and height, in ascending day order (R5) -/
  tides : List (Nat × Int)
  /-- the default low water (R9) -/
  lowWater : Int
  /-- the under-keel margin (R9) -/
  margin : Nat
  /-- the no-show grace (R43) -/
  grace : Nat
  /-- arrival requests the GTC has handed over, oldest first (R32, R177) -/
  arrivals : List Arrival
deriving DecidableEq, Repr

/-- The account unit (ACU): retained. -/
structure Acu where
  /-- the account table (R47) -/
  accounts : Table Account
  /-- the tariff table (R61) -/
  tariffs : Table Tariff
  /-- residue and settlement band of each socket meter (R62) -/
  sockets : Table SocketAcct
  /-- residue of each tap meter (R62) -/
  taps : Table Nat
deriving DecidableEq, Repr

/-- The pedestal line controller (PDL). -/
structure Pdl where
  /-- the pedestal table's retained fields (R83) -/
  pedestals : Table PedestalCfg
  /-- the pedestal table's volatile fields (R83) -/
  links : Table PedestalLink
  /-- the static socket records (R99), retained -/
  sockets : Table SocketCfg
  /-- the static tap records (R100), retained -/
  taps : Table TapCfg
  /-- the socket meter records (R92), retained -/
  socketMeters : Table Meter
  /-- the tap meter records (R92), retained -/
  tapMeters : Table Meter
  /-- each socket's last reported state (R87), volatile -/
  reports : Table (Option SocketReport)
  /-- each OPEN tap's run (R96), volatile -/
  runs : Table (Option TapRun)
  /-- each tap's press acknowledgement (R86), volatile -/
  acks : Table Bool
  /-- the poll of the slot in progress (R85, R86), volatile -/
  poll : Option Poll
  /-- a good reply has been taken in the slot in progress -/
  replied : Bool
deriving DecidableEq, Repr

/-- The feeder arbiter (FAR). -/
structure Far where
  /-- the dynamic socket records (R103), volatile -/
  sockets : Table Socket
  /-- the feeders' configured fields (R106), retained -/
  cfg : Table FeederCfg
  /-- the feeders' working fields (R106), volatile -/
  feeders : Table Feeder
  /-- the grant counter (R103), volatile -/
  counter : Nat
deriving DecidableEq, Repr

/-- The fuel dock controller (FDC). -/
structure Fdc where
  /-- the hoses' configured fields (R133), retained -/
  cfg : Table HoseCfg
  /-- the hoses' working state (R134), volatile -/
  hoses : Table Hose
  /-- the grade prices (R136), retained -/
  prices : Table Nat
  /-- the sale record queue, oldest first (R137), retained -/
  sales : List Sale
  /-- the next sale number (R138), retained -/
  nextSale : Nat
  /-- the self-serve cap (R144), retained -/
  cap : Nat
  /-- the start processing of R155 is complete, volatile -/
  ready : Bool
deriving DecidableEq, Repr

/-- The gate controller (GTC). -/
structure Gtc where
  /-- the credential table (R156), retained -/
  creds : Table Cred
  /-- the gates' configured fields (R162), retained; gate n's cold-start entry is `coldGateCfg n` -/
  cfg : Table GateCfg
  /-- the gates' working state (R163), volatile -/
  gates : Table Gate
  /-- the terminals' working state (R166), volatile -/
  terminals : Table Terminal
  /-- terminal 7's own fields (R166), volatile -/
  fuel : FuelTerminal
  /-- key events a scanner has accepted and the terminal has not yet taken, oldest first (R167), volatile -/
  keyEvents : List (Nat × Nat)
deriving DecidableEq, Repr

/-- The state of the part, and the commands that wait, first in, first out. -/
structure State where
  sup : Supply
  hlc : Hlc
  clk : Clk
  bal : Bal
  acu : Acu
  pdl : Pdl
  far : Far
  fdc : Fdc
  gtc : Gtc
  pending : List Instr
deriving DecidableEq, Repr

/-- The reasons the machine can stop with a fault: none. Every command the manual describes has an effect, which the
model gives it, so no command of this part ends in a fault. -/
inductive Fault where
deriving DecidableEq, Repr

/-- The reasons a command can be refused by the model. -/
inductive Refusal where
  /-- a command that has no meaning yet, raised by its own arm of `exec` alone, under its mnemonic; safe, since the
  model stops where the part goes on. No arm of this model raises it. -/
  | notModelled (mnemonic : String)
deriving DecidableEq, Repr

/-- The part right after a cold start (R200, R201 and each chapter's start values), with the straps open, the nozzles
hung, the doors shut, the backup supply present and the host's clear-to-send asserted (log entry 1). The STARTED notice
has begun to leave on the idle line (R195, log entry 7). -/
def State.reset : State :=
  { sup := { main := true, resetHeld := false, backup := true, backupReads := 0, valid := true, startDue := false, spa := false,
             spb := false, hostCts := true, nozzles := [], contacts := [] }
    hlc := { rxState := .hunt, rxBytes := [], waiting := [], slot := none,
             tx := some (.notice ⟨⟨0, 0⟩, .started .cold .b19200 false ⟨0, 0⟩ true⟩ false),
             notices := [], dropped := false, cause := .cold, speed := .b19200, restart := none }
    clk := { day := 0, sec := 0, frac := 0, isSet := false, lastRoll := 0, rollHour := 12, interval := 15, dayHour := 7,
             nightHour := 22, settleTimer := 900, catchUpDue := false, settleDue := false, bandDue := none, uptime := 0 }
    bal := { berths := [], bookings := [], tides := [], lowWater := 0, margin := 50, grace := 1, arrivals := [] }
    acu := { accounts := [(0, coldHouse)], tariffs := [], sockets := [], taps := [] }
    pdl := { pedestals := [], links := [], sockets := [], taps := [], socketMeters := [], tapMeters := [], reports := [],
             runs := [], acks := [], poll := none, replied := false }
    far := { sockets := [], cfg := [], feeders := [], counter := 0 }
    fdc := { cfg := [], hoses := [], prices := [], sales := [], nextSale := 1, cap := 30000, ready := true }
    gtc := { creds := [], cfg := [], gates := [], terminals := [], fuel := startFuelTerminal, keyEvents := [] }
    pending := [] }

end Sys2Proof.Machine
end

