-- ==== Sys2Proof/Machine/Ops.lean ====
section
/-! DEFINITION. The operations every block shares: reading and writing tables, the accessors of the records, raising a
notice (R196), the derived values of the clock (R70), and what other blocks read of berths, bookings and accounts. -/

namespace Sys2Proof.Machine

/-! ## Tables -/

/-- The entry of a table at an index; an unlisted index holds the cold-start entry `d`. -/
def tableGet {α : Type} (d : α) : Table α → Nat → α
  | [], _ => d
  | (k, v) :: rest, i => if k = i then v else tableGet d rest i

/-- A listed entry is put in its place, keeping ascending index order. -/
def tableInsert {α : Type} : Table α → Nat → α → Table α
  | [], i, x => [(i, x)]
  | (k, v) :: rest, i, x =>
    if i < k then (i, x) :: (k, v) :: rest
    else if k = i then (i, x) :: rest
    else (k, v) :: tableInsert rest i x

/-- A table with one index at its cold-start entry. -/
def tableErase {α : Type} : Table α → Nat → Table α
  | [], _ => []
  | (k, v) :: rest, i => if k = i then tableErase rest i else (k, v) :: tableErase rest i

/-- A table with one entry written; writing the cold-start entry removes the index from the list. -/
def tableSet {α : Type} [DecidableEq α] (d : α) (t : Table α) (i : Nat) (x : α) : Table α :=
  if x = d then tableErase t i else tableInsert t i x

/-- The table's form: indices strictly ascending and no listed entry at the cold-start value (log entry 3). -/
def tableOk {α : Type} [DecidableEq α] (d : α) : Table α → Bool
  | [] => true
  | [(_, v)] => decide (v ≠ d)
  | (k, v) :: (l, w) :: rest => decide (k < l) && decide (v ≠ d) && tableOk d ((l, w) :: rest)

/-- A list in ascending order with a member added, without duplicates. -/
def insertAsc : List Nat → Nat → List Nat
  | [], n => [n]
  | m :: rest, n => if n < m then n :: m :: rest else if n = m then m :: rest else m :: insertAsc rest n

/-- A stable insertion sort by an order on the elements. -/
def insertBy {α : Type} (before : α → α → Bool) (x : α) : List α → List α
  | [] => [x]
  | y :: rest => if before x y then x :: y :: rest else y :: insertBy before x rest

/-- The list sorted so that each element stands ahead of those it comes before. -/
def sortBy {α : Type} (before : α → α → Bool) : List α → List α
  | [] => []
  | x :: rest => insertBy before x (sortBy before rest)

/-! ## Accessors -/

def State.berth (s : State) (i : Nat) : Berth := tableGet coldBerth s.bal.berths i
def State.booking (s : State) (i : Nat) : Booking := tableGet coldBooking s.bal.bookings i
def State.account (s : State) (i : Nat) : Account := tableGet coldAccount s.acu.accounts i
def State.tariff (s : State) (i : Nat) : Tariff := tableGet coldTariff s.acu.tariffs i
def State.socketAcct (s : State) (i : Nat) : SocketAcct := tableGet coldSocketAcct s.acu.sockets i
def State.tapResidue (s : State) (i : Nat) : Nat := tableGet 0 s.acu.taps i
def State.pedestal (s : State) (i : Nat) : PedestalCfg := tableGet coldPedestal s.pdl.pedestals i
def State.link (s : State) (i : Nat) : PedestalLink := tableGet startLink s.pdl.links i
def State.socketCfg (s : State) (i : Nat) : SocketCfg := tableGet coldSocketCfg s.pdl.sockets i
def State.tapCfg (s : State) (i : Nat) : TapCfg := tableGet coldTapCfg s.pdl.taps i
def State.socketMeter (s : State) (i : Nat) : Meter := tableGet coldMeter s.pdl.socketMeters i
def State.tapMeter (s : State) (i : Nat) : Meter := tableGet coldMeter s.pdl.tapMeters i
def State.report (s : State) (i : Nat) : Option SocketReport := tableGet none s.pdl.reports i
def State.run (s : State) (i : Nat) : Option TapRun := tableGet none s.pdl.runs i
def State.ack (s : State) (i : Nat) : Bool := tableGet false s.pdl.acks i
def State.socket (s : State) (i : Nat) : Socket := tableGet startSocket s.far.sockets i
def State.feederCfg (s : State) (i : Nat) : FeederCfg := tableGet coldFeederCfg s.far.cfg i
def State.feeder (s : State) (i : Nat) : Feeder := tableGet startFeeder s.far.feeders i
def State.hoseCfg (s : State) (i : Nat) : HoseCfg := tableGet coldHoseCfg s.fdc.cfg i
def State.hose (s : State) (i : Nat) : Hose := tableGet startHose s.fdc.hoses i
def State.price (s : State) (grade : Nat) : Nat := tableGet 0 s.fdc.prices grade
def State.cred (s : State) (i : Nat) : Cred := tableGet coldCred s.gtc.creds i
def State.gateCfg (s : State) (i : Nat) : GateCfg := tableGet (coldGateCfg i) s.gtc.cfg i
def State.gate (s : State) (i : Nat) : Gate := tableGet startGate s.gtc.gates i
def State.terminal (s : State) (i : Nat) : Terminal := tableGet startTerminal s.gtc.terminals i
def State.nozzle (s : State) (i : Nat) : Bool := tableGet false s.sup.nozzles i
def State.contact (s : State) (i : Nat) : Bool := tableGet false s.sup.contacts i

def State.setBerth (s : State) (i : Nat) (x : Berth) : State :=
  { s with bal := { s.bal with berths := tableSet coldBerth s.bal.berths i x } }
def State.setBooking (s : State) (i : Nat) (x : Booking) : State :=
  { s with bal := { s.bal with bookings := tableSet coldBooking s.bal.bookings i x } }
def State.setTides (s : State) (x : List (Nat × Int)) : State := { s with bal := { s.bal with tides := x } }
def State.setArrivals (s : State) (x : List Arrival) : State := { s with bal := { s.bal with arrivals := x } }
def State.setAccount (s : State) (i : Nat) (x : Account) : State :=
  { s with acu := { s.acu with accounts := tableSet coldAccount s.acu.accounts i x } }
def State.setTariff (s : State) (i : Nat) (x : Tariff) : State :=
  { s with acu := { s.acu with tariffs := tableSet coldTariff s.acu.tariffs i x } }
def State.setSocketAcct (s : State) (i : Nat) (x : SocketAcct) : State :=
  { s with acu := { s.acu with sockets := tableSet coldSocketAcct s.acu.sockets i x } }
def State.setTapResidue (s : State) (i : Nat) (x : Nat) : State :=
  { s with acu := { s.acu with taps := tableSet 0 s.acu.taps i x } }
def State.setPedestal (s : State) (i : Nat) (x : PedestalCfg) : State :=
  { s with pdl := { s.pdl with pedestals := tableSet coldPedestal s.pdl.pedestals i x } }
def State.setLink (s : State) (i : Nat) (x : PedestalLink) : State :=
  { s with pdl := { s.pdl with links := tableSet startLink s.pdl.links i x } }
def State.setSocketCfg (s : State) (i : Nat) (x : SocketCfg) : State :=
  { s with pdl := { s.pdl with sockets := tableSet coldSocketCfg s.pdl.sockets i x } }
def State.setTapCfg (s : State) (i : Nat) (x : TapCfg) : State :=
  { s with pdl := { s.pdl with taps := tableSet coldTapCfg s.pdl.taps i x } }
def State.setSocketMeter (s : State) (i : Nat) (x : Meter) : State :=
  { s with pdl := { s.pdl with socketMeters := tableSet coldMeter s.pdl.socketMeters i x } }
def State.setTapMeter (s : State) (i : Nat) (x : Meter) : State :=
  { s with pdl := { s.pdl with tapMeters := tableSet coldMeter s.pdl.tapMeters i x } }
def State.setReport (s : State) (i : Nat) (x : Option SocketReport) : State :=
  { s with pdl := { s.pdl with reports := tableSet none s.pdl.reports i x } }
def State.setRun (s : State) (i : Nat) (x : Option TapRun) : State :=
  { s with pdl := { s.pdl with runs := tableSet none s.pdl.runs i x } }
def State.setAck (s : State) (i : Nat) (x : Bool) : State :=
  { s with pdl := { s.pdl with acks := tableSet false s.pdl.acks i x } }
def State.setPoll (s : State) (p : Option Poll) : State := { s with pdl := { s.pdl with poll := p, replied := false } }
def State.setSocket (s : State) (i : Nat) (x : Socket) : State :=
  { s with far := { s.far with sockets := tableSet startSocket s.far.sockets i x } }
def State.setFeederCfg (s : State) (i : Nat) (x : FeederCfg) : State :=
  { s with far := { s.far with cfg := tableSet coldFeederCfg s.far.cfg i x } }
def State.setFeeder (s : State) (i : Nat) (x : Feeder) : State :=
  { s with far := { s.far with feeders := tableSet startFeeder s.far.feeders i x } }
def State.setHoseCfg (s : State) (i : Nat) (x : HoseCfg) : State :=
  { s with fdc := { s.fdc with cfg := tableSet coldHoseCfg s.fdc.cfg i x } }
def State.setHose (s : State) (i : Nat) (x : Hose) : State :=
  { s with fdc := { s.fdc with hoses := tableSet startHose s.fdc.hoses i x } }
def State.setPrice (s : State) (grade : Nat) (x : Nat) : State :=
  { s with fdc := { s.fdc with prices := tableSet 0 s.fdc.prices grade x } }
def State.setSales (s : State) (x : List Sale) : State := { s with fdc := { s.fdc with sales := x } }
def State.setCred (s : State) (i : Nat) (x : Cred) : State :=
  { s with gtc := { s.gtc with creds := tableSet coldCred s.gtc.creds i x } }
def State.setGateCfg (s : State) (i : Nat) (x : GateCfg) : State :=
  { s with gtc := { s.gtc with cfg := tableSet (coldGateCfg i) s.gtc.cfg i x } }
def State.setGate (s : State) (i : Nat) (x : Gate) : State :=
  { s with gtc := { s.gtc with gates := tableSet startGate s.gtc.gates i x } }
def State.setTerminal (s : State) (i : Nat) (x : Terminal) : State :=
  { s with gtc := { s.gtc with terminals := tableSet startTerminal s.gtc.terminals i x } }
def State.setFuel (s : State) (x : FuelTerminal) : State := { s with gtc := { s.gtc with fuel := x } }
def State.setNozzle (s : State) (i : Nat) (x : Bool) : State :=
  { s with sup := { s.sup with nozzles := tableSet false s.sup.nozzles i x } }
def State.setContact (s : State) (i : Nat) (x : Bool) : State :=
  { s with sup := { s.sup with contacts := tableSet false s.sup.contacts i x } }
def State.setHlc (s : State) (x : Hlc) : State := { s with hlc := x }
def State.setClk (s : State) (x : Clk) : State := { s with clk := x }

/-! ## Supply and time -/

/-- The part takes events: main power is present, it is not held in reset and its start is made (R200). -/
def State.running (s : State) : Bool := s.sup.main && !s.sup.resetHeld && !s.sup.startDue

/-- The clock as records are stamped from it (R69, R138). -/
def State.now (s : State) : Stamp := ⟨s.clk.day, s.clk.sec⟩

/-- The moment on the time base. -/
def State.uptime (s : State) : Nat := s.clk.uptime

/-- Whole seconds on the time base from a moment to now (R83; log entry 4). -/
def State.secsSince (s : State) (t : Nat) : Nat := (s.clk.uptime - t) / 256

/-- The current night of a clock reading under a rollover hour (R70). -/
def nightAt (rollHour day sec : Nat) : Nat := if sec ≥ rollHour * 3600 then day else day - 1

/-- The current night (R70). -/
def State.night (s : State) : Nat := nightAt s.clk.rollHour s.clk.day s.clk.sec

/-- The band of a second of day under the two band hours (R70). -/
def bandAt (dayHour nightHour sec : Nat) : Band :=
  if dayHour < nightHour then
    if dayHour * 3600 ≤ sec ∧ sec < nightHour * 3600 then .day else .night
  else
    if nightHour * 3600 ≤ sec ∧ sec < dayHour * 3600 then .night else .day

/-- The present band (R70): the day band while the clock is unset. -/
def State.band (s : State) : Band :=
  if s.clk.isSet then bandAt s.clk.dayHour s.clk.nightHour s.clk.sec else .day

/-- The first multiple of the settlement interval strictly after a second of day, as a second of day (R79). -/
def nextInterval (interval sec : Nat) : Nat := ((sec / (interval * 60) + 1) * (interval * 60)) % 86400

/-- A moment is earlier than another. -/
def stampBefore (a b : Stamp) : Bool := decide (a.day < b.day) || (decide (a.day = b.day) && decide (a.sec < b.sec))

/-! ## Notices -/

/-- The queue's capacity (R196). -/
def noticeCapacity : Nat := 32

/-- R196: a notice raised at a moment joins the queue, or is discarded with the dropped flag set when the queue is
full. -/
def enterNotice (t : Stamp) (body : NoticeBody) (h : Hlc) : Hlc :=
  if h.notices.length ≥ noticeCapacity then { h with dropped := true }
  else { h with notices := h.notices ++ [⟨t, body⟩] }

/-- A block raises a notice: it is stamped with the clock as it stands (R196). -/
def State.raise (s : State) (body : NoticeBody) : State := s.setHlc (enterNotice s.now body s.hlc)

/-! ## Answers -/

def refuse (code : Status) (s : State) : State × Answer := (s, ⟨code, 0, []⟩)
def accept (items : List Item) (s : State) : State × Answer := (s, ⟨.ok, 0, items⟩)

/-- A request's checks in their rule's order: the first that fails gives the refusal. -/
def firstFailing : List (Bool × Status) → Option Status
  | [] => none
  | (bad, code) :: rest => if bad then some code else firstFailing rest

/-- A request is refused by the first check that fails, and otherwise acts (R16, R29 and their like). -/
def checked (checks : List (Bool × Status)) (act : State → State × Answer) (s : State) : State × Answer :=
  match firstFailing checks with
  | some code => refuse code s
  | none => act s

/-- The result item of a reply (R204, code 0x11). -/
def resultItem (fields : List Field) : Item := ⟨0x11, fields⟩

/-- The numbers of a get's rows: from a start, at most `count` of them and none past `last`, and no more than fit the
14 record items of a reply at `per` items a row (R206). -/
def getRange (start count last per : Nat) : List Nat :=
  (List.range (min (min count (last + 1 - start)) (14 / per))).map (· + start)

/-- R191: the rows of a multi-row put in order, row k at index `i`, counting those written; the first refused row stops
the put, and the rows before it stay written. -/
def putRows {α : Type} (row : Nat → α → State → Except Status State) :
    Nat → Nat → List (PutItem α) → State → State × Answer
  | _, n, [], s => (s, ⟨.ok, n, []⟩)
  | _, n, .badItem :: _, s => (s, ⟨.badItem, n, []⟩)
  | i, n, .row x :: rest, s =>
    match row i x s with
    | .error code => (s, ⟨code, n, []⟩)
    | .ok t => putRows row (i + 1) (n + 1) rest t

/-! ## What blocks read of berths, bookings and accounts -/

/-- A booking is CONFIRMED or ARRIVED on a berth: it stands in the berth's calendar (R10). -/
def Booking.onBerth (k : Booking) (berth : Nat) : Bool :=
  (decide (k.state = .confirmed) || decide (k.state = .arrived)) && decide (k.berth = some berth)

/-- The booking holds a night of the run from `a` up to `z`, `z` not included (R25). -/
def Booking.holdsAny (k : Booking) (a z : Nat) : Bool := decide (k.arr < z) && decide (a < k.dep)

/-- A berth's calendar (R10): the bookings on it in arrival-night order, read from the booking table. -/
def State.calendar (s : State) (berth : Nat) : List (Nat × Booking) :=
  sortBy (fun x y => decide (x.2.arr < y.2.arr) || (decide (x.2.arr = y.2.arr) && decide (x.1 < y.1)))
    (s.bal.bookings.filter fun e => e.2.onBerth berth)

/-- The booking ARRIVED on a berth (R4); of two, which R30 excludes, the one of the lower index (log entry 49). -/
def State.arrivedOn (s : State) (berth : Nat) : Option Nat :=
  (s.bal.bookings.find? fun e => decide (e.2.state = .arrived) && decide (e.2.berth = some berth)).map (·.1)

/-- A booking is CONFIRMED, ARRIVED or UNPLACED (R55). -/
def Booking.isOpen (k : Booking) : Bool :=
  decide (k.state = .confirmed) || decide (k.state = .arrived) || decide (k.state = .unplaced)

/-- A booking is in one of the closed states (R25). -/
def Booking.isClosed (k : Booking) : Bool :=
  decide (k.state = .departed) || decide (k.state = .cancelled) || decide (k.state = .noShow)

/-- How many bookings that are not closed name an account (R55, R56). -/
def State.openBookings (s : State) (account : Nat) : Nat :=
  (s.bal.bookings.filter fun e => e.2.isOpen && decide (e.2.account = account)).length

/-- The account of a credential (R156): its booking's account when it has a booking, otherwise its own. -/
def State.credAccount (s : State) (c : Cred) : Option Nat :=
  match c.booking with
  | some b => some (s.booking b).account
  | none => c.account

/-- The account charged for what a berth's meters count (R65): the account of the booking ARRIVED on a berth that is
not SERVICE, and account 0 otherwise. -/
def State.receiver (s : State) (berth : Option Nat) : Nat :=
  match berth with
  | none => 0
  | some b =>
    if (s.berth b).cls = .service then 0
    else match s.arrivedOn b with
      | some k => (s.booking k).account
      | none => 0

/-- A berth holds an ARRIVED booking that names an account (R51). -/
def State.berthNames (s : State) (berth : Option Nat) (account : Nat) : Bool :=
  match berth with
  | none => false
  | some b =>
    match s.arrivedOn b with
    | some k => decide ((s.booking k).account = account)
    | none => false

/-- The pedestal of a socket (R82). -/
def pedestalOf (socket : Nat) : Nat := socket / 4 + 1

/-- The pedestal of a tap (R82). -/
def tapPedestal (tap : Nat) : Nat := tap / 2 + 1

/-- The feeder of a socket: the feeder of its pedestal (R83). -/
def State.feederOf (s : State) (socket : Nat) : Nat := (s.pedestal (pedestalOf socket)).feeder

/-- The sockets assigned to a berth, ascending (R99). -/
def State.berthSockets (s : State) (berth : Nat) : List Nat :=
  (s.pdl.sockets.filter fun e => decide (e.2.berth = some berth)).map (·.1)

/-- The taps assigned to a berth, ascending (R100). -/
def State.berthTaps (s : State) (berth : Nat) : List Nat :=
  (s.pdl.taps.filter fun e => decide (e.2.berth = some berth)).map (·.1)

/-- The PDL's last report of a socket shows a plug. -/
def State.plugged (s : State) (socket : Nat) : Bool := ((s.report socket).map (·.plug)).getD false

/-! ## Terminals -/

/-- A terminal's pending card is dropped; at terminal 7 the window becomes NONE in the same step (R182). -/
def dropCard (terminal : Nat) (s : State) : State :=
  let t := s.setTerminal terminal { s.terminal terminal with card := none }
  if terminal = 7 then t.setFuel { t.gtc.fuel with window := .none } else t

/-- A terminal's entry buffer is emptied and its inter-key timer becomes absent (R166). -/
def clearBuffer (terminal : Nat) (s : State) : State :=
  s.setTerminal terminal { s.terminal terminal with buffer := [], keySince := none }

/-- Terminal 7's lamp shows RED (R181, R183). -/
def lampRed (s : State) : State := s.setFuel { s.gtc.fuel with lamp := .red s.uptime }

/-- Terminal 7's lamp shows GREEN (R183). -/
def lampGreen (s : State) : State := s.setFuel { s.gtc.fuel with lamp := .green s.uptime }

end Sys2Proof.Machine
end

