-- ==== Sys2Proof/Machine/Formats.lean ====
section
/-! DEFINITION. The frames the part sends: the records of replies (R209), replies (R206), notices (R207, R208) and polls
(section 10.6), field by field. -/

namespace Sys2Proof.Machine

/-- A flags or presence field: one bit each, from bit 0 upward (R202, R203). -/
def bitField : List Bool → Nat
  | [] => 0
  | b :: rest => (if b then 1 else 0) + 2 * bitField rest

/-- A presence field, one bit for each optional field in the order of the layout (R203). -/
def presence (size : Nat) (l : List Bool) : Field := .u size (bitField l)

/-- An optional field's bytes: its value, or 0 (R203). -/
def optField (size : Nat) (v : Option Nat) : Field := .u size (v.getD 0)

/-- A sale's amount in its four bytes; of an amount past them the bytes are free (log entry 55). -/
def amountField (v : Nat) : Field := .u 4 (if v < 4294967296 then v else Config.amountPastField v)

/-- A time (R202). -/
def stampField (t : Stamp) : Field := .u 5 (stampValue t)

/-- An optional time (R203). -/
def optStamp (t : Option Stamp) : Field := .u 5 ((t.map stampValue).getD 0)

/-- An enumeration's byte (R202). -/
def enumField {α : Type} [DecidableEq α] (l : List α) (x : α) : Field := .u 1 (codeIn l x)

/-- An optional enumeration's byte (R203). -/
def optEnum {α : Type} [DecidableEq α] (l : List α) (x : Option α) : Field := .u 1 ((x.map (codeIn l)).getD 0)

/-! ## Records of replies (R209) -/

/-- Item 0x20. -/
def berthItem (s : State) (i : Nat) : Item :=
  let b := s.berth i
  let a := s.arrivedOn i
  ⟨0x20, [.u 1 i, presence 1 [a.isSome], .u 1 b.pontoon, enumField berthClasses b.cls, .u 1 (bitField [b.visitorOk]),
    enumField berthStates b.state, .u 2 b.maxLoa, .u 2 b.maxBeam, .u 2 b.depth, .u 2 (s.calendar i).length, optField 2 a,
    .u 2 0]⟩

/-- Items 0x21 and 0x22. -/
def bookingItem (s : State) (i : Nat) : Item :=
  let k := s.booking i
  if k.state = .free then ⟨0x22, [.u 2 i, enumField bookStates k.state]⟩
  else ⟨0x21, [.u 2 i, presence 1 [k.berth.isSome, k.arrivedTime.isSome, k.departedTime.isSome, k.closedTime.isSome],
    enumField bookStates k.state, .u 1 k.account, optField 1 k.berth, .u 2 k.loa, .u 2 k.beam, .u 2 k.draught, .u 2 k.arr,
    .u 2 k.dep, optStamp k.arrivedTime, optStamp k.departedTime, optStamp k.closedTime, .u 2 k.nightsCharged,
    .u 2 k.overstay]⟩

/-- Items 0x23 and 0x24; the credit limit and the available credit are absent for account 0. The available credit here is
R57's, balance plus limit less earmark total. -/
def accountItem (s : State) (i : Nat) : Item :=
  let k := s.account i
  if k.state = .free then ⟨0x24, [.u 1 i, enumField acctStates k.state]⟩
  else ⟨0x23, [.u 1 i, presence 1 [decide (i ≠ 0), decide (i ≠ 0)], enumField acctStates k.state, .i 6 k.balance,
    (if i = 0 then .u 4 0 else .u 4 k.limit), .i 6 k.earmark,
    (if i = 0 then .u 6 0 else .i 6 (k.balance + k.limit - k.earmark)), .u 2 (s.openBookings i)]⟩

/-- Item 0x40. -/
def tideItem (e : Nat × Int) : Item := ⟨0x40, [.u 2 e.1, .i 2 e.2]⟩

/-- Item 0x41. -/
def tariffItem (s : State) (i : Nat) : Item :=
  ⟨0x41, [.u 1 i, .u 2 (s.tariff i).dayRate, .u 2 (s.tariff i).nightRate, .u 2 (s.tariff i).waterRate]⟩

/-- Seconds left of a hold-off, rounded up (R103). -/
def State.holdOffLeft (s : State) (ends : Nat) : Nat := (ends - s.uptime + 255) / 256

/-- Item 0x25. -/
def socketItem (s : State) (i : Nat) : Item :=
  let c := s.socketCfg i
  let r := s.report i
  let m := s.socketMeter i
  let k := s.socket i
  ⟨0x25, [.u 1 i,
    presence 1 [c.berth.isSome, r.isSome, k.reservation.isSome, k.shedSource.isSome, k.holdOffEnd.isSome, k.fault],
    optField 1 c.berth, .u 1 c.rating, .u 1 c.cls, .u 1 c.tariff,
    .u 1 ((r.map fun x => bitField [x.plug, x.contactor, x.trip]).getD 0), optField 2 (r.map (·.current)), .u 2 m.baseline,
    .u 4 m.unsettled, enumField socketStates k.state, optField 2 k.reservation, .u 1 k.bypass,
    optEnum shedSources k.shedSource, optField 2 (k.holdOffEnd.map s.holdOffLeft),
    optEnum socketFaults (if k.fault then some .contactor else none)]⟩

/-- Item 0x42: address, presence (bit 0 the seconds since the last good report), flags (bit 0 configured), feeder, link,
misses, seconds (log entry 17). -/
def pedestalItem (s : State) (a : Nat) : Item :=
  let p := s.pedestal a
  let l := s.link a
  ⟨0x42, [.u 1 a, presence 1 [l.lastGood.isSome], .u 1 (bitField [p.configured]), .u 1 p.feeder,
    enumField linkStates l.link, .u 1 l.miss, optField 3 (l.lastGood.map s.secsSince)]⟩

/-- Item 0x43: tap, presence (bit 0 berth, bit 1 run time), berth, tariff set, run limit, state (CLOSED, OPEN), run time,
baseline, unsettled; the run limit's minutes are one byte (log entry 17). -/
def tapItem (s : State) (i : Nat) : Item :=
  let c := s.tapCfg i
  let m := s.tapMeter i
  let r := s.run i
  ⟨0x43, [.u 1 i, presence 1 [c.berth.isSome, r.isSome], optField 1 c.berth, .u 1 c.tariff, .u 1 c.runLimit,
    .u 1 (bitField [r.isSome]), optField 2 (r.map fun x => s.secsSince x.since), .u 2 m.baseline, .u 4 m.unsettled]⟩

/-- Item 0x26. -/
def saleItem (x : Sale) : Item :=
  ⟨0x26, [.u 2 x.number,
    presence 2 [x.account.isSome, x.prepaid.isSome, x.cred.isSome, x.presetValue.isSome, x.endTime.isSome, x.overrun.isSome,
      x.amount.isSome, x.charged.isSome, x.refund.isSome, x.reason.isSome],
    .u 1 x.hose, .u 1 x.grade, .u 4 x.price, .u 2 x.p10, enumField saleModes x.mode, optField 1 x.account,
    optField 4 x.prepaid, optField 2 x.cred, enumField presetKinds x.presetKind, optField 4 x.presetValue, .u 4 x.maxAmount,
    .u 4 x.volLimit, stampField x.startTime, optStamp x.endTime, .u 4 x.pulses, .u 4 x.volume, optField 4 x.overrun,
    amountField (x.amount.getD 0), optField 4 x.charged, optField 4 x.refund, optEnum endReasons x.reason,
    .u 1 (bitField [x.done])]⟩

/-- The PIN field of a CRED_GET: the digit count with every half 0 (R209). -/
def pinCountValue (p : Option (List Nat)) : Nat := (p.map fun l => l.length * 4294967296).getD 0

/-- Items 0x27 and 0x28. -/
def credItem (s : State) (i : Nat) : Item :=
  let c := s.cred i
  if c.state = .free then ⟨0x28, [.u 2 i, enumField credStates c.state]⟩
  else
    let state := c.booking.map fun b => (s.booking b).state
    let account := c.booking.map fun b => (s.booking b).account
    ⟨0x27, [.u 2 i,
      presence 2 [c.token.isSome, c.pin.isSome, c.booking.isSome, c.account.isSome, c.validFrom.isSome, c.validUntil.isSome,
        true, c.lastUse.isSome, state.isSome, account.isSome],
      enumField credStates c.state, enumField credKinds c.kind, optField 4 c.token, .u 5 (pinCountValue c.pin),
      optField 2 c.booking, .u 1 (bitField [c.berthGates, c.fuel, c.autoArrive]), optStamp c.validFrom,
      optStamp c.validUntil, enumField locations c.location, optStamp c.lastUse, optEnum bookStates state,
      optField 1 account, optField 1 c.account, .u 1 c.gateSet]⟩

/-- Whole seconds left of a number of seconds begun at a moment, rounded up. -/
def State.secsLeft (s : State) (since secs : Nat) : Nat := secs - (s.uptime - since) / 256

/-- The lockout's seconds (R169). -/
def lockoutSecs : Nat := 60

/-- The release or held timer of a gate that runs. -/
def Gate.timer (g : Gate) : Option Timer := g.releaseTimer.orElse fun _ => g.heldTimer

/-- The relay of a gate (R163): on in OPEN_HOLD, and in RELEASED otherwise. -/
def State.relay (s : State) (gate : Nat) : Bool :=
  decide ((s.gateCfg gate).mode = .openHold) || decide ((s.gate gate).door = .released)

/-- Item 0x29. -/
def gateItem (s : State) (n : Nat) : Item :=
  let c := s.gateCfg n
  let g := s.gate n
  let t := s.terminal n
  let left := g.timer.map fun x => s.secsLeft x.since x.secs
  let lock := t.lockoutSince.map fun x => s.secsLeft x lockoutSecs
  ⟨0x29, [.u 1 n, presence 1 [g.attributed.isSome, g.direction.isSome, left.isSome, lock.isSome], .u 1 c.pontoon,
    enumField gateModes c.mode, enumField passbacks c.antiPassback,
    .u 1 (bitField [c.exitReader, t.card.isSome, g.passback]), .u 1 c.releaseTime, .u 2 c.heldTime,
    enumField doorStates g.door, .u 1 (bitField [s.relay n]), .u 1 (if g.contactOpen then 0 else 1), optField 2 g.attributed,
    optEnum directions g.direction, optField 2 left, .u 1 (scannerCode t.scanner), .u 1 t.buffer.length, .u 1 t.failures,
    optField 1 lock]⟩

/-- The seconds of terminal 7's windows (R181, R182). -/
def windowSecs : Window → Nat
  | .none => 0
  | .pin => 10
  | .hose => 15

/-- The seconds the lamp shows a result (R183). -/
def lampSecs : Nat := 3

/-- When the lamp was lit. -/
def lampSince : Lamp → Option Nat
  | .off => none
  | .green t => some t
  | .red t => some t

/-- Item 0x2A. -/
def fuelTerminalItem (s : State) : Item :=
  let t := s.terminal 7
  let f := s.gtc.fuel
  let lock := t.lockoutSince.map fun x => s.secsLeft x lockoutSecs
  ⟨0x2A, [.u 1 7, presence 1 [lock.isSome], .u 1 (scannerCode t.scanner), .u 1 t.buffer.length, .u 1 t.failures,
    optField 1 lock, enumField windows f.window,
    .u 1 ((t.card.map fun c => s.secsLeft c.since (windowSecs f.window)).getD 0), .u 1 (lampCode f.lamp),
    .u 1 (((lampSince f.lamp).map fun x => s.secsLeft x lampSecs).getD 0)]⟩

/-! ## Notices (R207, R208) -/

/-- A notice's kind and sub-kind (R207). -/
def NoticeBody.kinds : NoticeBody → Nat × Nat
  | .started _ _ _ _ _ => (0x60, 0)
  | .socketGranted _ _ _ _ => (0x61, 1)
  | .socketEnergised _ _ => (0x61, 2)
  | .socketWithdrawn _ _ => (0x61, 3)
  | .socketShed _ _ _ _ => (0x61, 4)
  | .socketTripped _ _ => (0x61, 5)
  | .socketFault _ _ _ => (0x61, 6)
  | .socketAdopted _ _ _ => (0x61, 7)
  | .feederOverload _ _ _ _ => (0x62, 1)
  | .pedestalLost _ _ => (0x63, 1)
  | .pedestalReturn _ _ => (0x63, 2)
  | .meterJump _ _ _ _ _ => (0x64, 0)
  | .tapOpen _ _ _ => (0x65, 1)
  | .tapClosed _ _ _ => (0x65, 2)
  | .tapRefused _ => (0x65, 3)
  | .bookingExtended _ _ _ => (0x66, 1)
  | .bookingMoved _ _ _ => (0x66, 2)
  | .bookingUnplaced _ _ => (0x66, 3)
  | .bookingNoShow _ _ => (0x66, 4)
  | .bookingArrived _ _ _ _ _ => (0x66, 5)
  | .arriveRefused _ _ _ _ => (0x66, 6)
  | .accountHold _ _ _ _ => (0x67, 1)
  | .accountClear _ _ _ _ => (0x67, 2)
  | .hoseCalling _ _ => (0x68, 1)
  | .hoseStray _ _ _ => (0x68, 2)
  | .saleDone _ _ _ _ _ _ _ _ _ _ => (0x69, 1)
  | .gatePassage _ _ _ _ => (0x6A, 1)
  | .gateRefused _ _ _ _ _ => (0x6A, 2)
  | .gateForced _ => (0x6A, 3)
  | .gateHeld _ => (0x6A, 4)
  | .gateCleared _ _ => (0x6A, 5)
  | .gateFuel _ _ _ _ => (0x6A, 6)
  | .rolloverDone _ _ _ _ _ => (0x6B, 1)
  | .rolloverSkipped _ _ _ => (0x6B, 2)

/-- A notice's result fields, in the order its raising rule names them, behind a presence field when it has any optional
field (R208). TAP(REFUSED) carries its reason, the one field R96 names. The sizes R202 does not give are log entry 17's: two
bytes for each count of ROLLOVER(DONE) and ROLLOVER(SKIPPED), one for another count. -/
def NoticeBody.fields : NoticeBody → List Field
  | .started cause speed clockSet time backup =>
    [enumField causes cause, enumField speeds speed, .u 1 (bitField [clockSet]), stampField time, .u 1 (bitField [backup])]
  | .socketGranted n f r h => [.u 1 n, .u 1 f, .u 2 r, .u 2 h]
  | .socketEnergised n f => [.u 1 n, .u 1 f]
  | .socketWithdrawn n f => [.u 1 n, .u 1 f]
  | .socketShed n f r cause => [.u 1 n, .u 1 f, .u 2 r, enumField shedCauses cause]
  | .socketTripped n f => [.u 1 n, .u 1 f]
  | .socketFault n f fault => [.u 1 n, .u 1 f, enumField socketFaults fault]
  | .socketAdopted n f r => [.u 1 n, .u 1 f, .u 2 r]
  | .feederOverload f measured limit n => [presence 1 [n.isSome], .u 1 f, .u 4 measured, .u 2 limit, optField 1 n]
  | .pedestalLost a f => [.u 1 a, .u 1 f]
  | .pedestalReturn a secs => [.u 1 a, .u 3 secs]
  | .meterJump tap n old reported elapsed => [.u 1 (bitField [tap]), .u 1 n, .u 2 old, .u 2 reported, .u 3 elapsed]
  | .tapOpen n b k => [presence 1 [k.isSome], .u 1 n, .u 1 b, optField 2 k]
  | .tapClosed n cause secs => [.u 1 n, enumField tapCauses cause, .u 2 secs]
  | .tapRefused reason => [enumField tapRefusals reason]
  | .bookingExtended k b dep => [.u 2 k, .u 1 b, .u 2 dep]
  | .bookingMoved k old new => [.u 2 k, .u 1 old, .u 1 new]
  | .bookingUnplaced k b => [.u 2 k, .u 1 b]
  | .bookingNoShow k b => [presence 1 [b.isSome], .u 2 k, optField 1 b]
  | .bookingArrived k b case arr source => [.u 2 k, .u 1 b, enumField arriveCases case, .u 2 arr, .u 1 source]
  | .arriveRefused k c g code => [.u 2 k, .u 2 c, .u 1 g, enumField statuses code]
  | .accountHold a state balance limit => [.u 1 a, enumField acctStates state, .i 6 balance, .u 4 limit]
  | .accountClear a state balance limit => [.u 1 a, enumField acctStates state, .i 6 balance, .u 4 limit]
  | .hoseCalling h g => [.u 1 h, .u 1 g]
  | .hoseStray h state sale => [presence 1 [sale.isSome], .u 1 h, enumField hoseStates state, optField 2 sale]
  | .saleDone number hose mode account reason volume overrun amount charged refund =>
    [presence 1 [account.isSome, refund.isSome], .u 2 number, .u 1 hose, enumField saleModes mode, optField 1 account,
     enumField endReasons reason, .u 4 volume, .u 4 overrun, amountField amount, .u 4 charged, optField 4 refund]
  | .gatePassage g d c p => [presence 1 [c.isSome], .u 1 g, enumField directions d, optField 2 c, .u 1 (bitField [p])]
  | .gateRefused t r c reason lockout =>
    [presence 1 [c.isSome], .u 1 t, enumField readers r, optField 2 c, enumField gateRefusals reason,
     .u 1 (bitField [lockout])]
  | .gateForced g => [.u 1 g]
  | .gateHeld g => [.u 1 g]
  | .gateCleared g alarm => [.u 1 g, enumField doorStates alarm]
  | .gateFuel c h code sale => [presence 1 [sale.isSome], .u 1 7, .u 2 c, .u 1 h, enumField statuses code, optField 2 sale]
  | .rolloverDone d source fees noShows extended =>
    [.u 2 d, enumField rolloverSources source, .u 2 fees, .u 2 noShows, .u 2 extended]
  | .rolloverSkipped count first last => [.u 2 count, .u 2 first, .u 2 last]

/-! ## Frames -/

/-- An item of the part's own as it stands on the line. -/
def Item.raw (x : Item) : RawItem := ⟨x.code, fieldBytes x.fields⟩

/-- The frame kind of a reply (R205): the request's kind plus 0x80, or 0xFF to a kind that is not a request kind. -/
def Reply.kindByte (r : Reply) : Nat := if r.answer.status = .unknownKind then 0xFF else r.kind + 0x80

/-- A reply's items (R206): the reply status item, and the owner's. -/
def Reply.items (r : Reply) : List Item :=
  ⟨0x01, [enumField statuses r.answer.status, .u 1 r.answer.rows, .u 1 r.kind]⟩ :: r.answer.items

/-- A notice's items (R208): the notice header, with the dropped bit it took, and one result item. -/
def Notice.items (n : Notice) (dropped : Bool) : List Item :=
  [⟨0x02, [.u 1 n.body.kinds.2, .u 1 (bitField [dropped]), stampField n.time]⟩, resultItem n.body.fields]

/-- The bytes of the frame being sent (R187, R204). -/
def Sending.bytes : Sending → List Byte
  | .reply r => frameBytes r.kindByte r.tag (itemBytes (r.items.map Item.raw))
  | .notice n dropped => frameBytes n.body.kinds.1 0 (itemBytes ((n.items dropped).map Item.raw))

/-- A poll's bytes (section 10.6, R210). -/
def Poll.bytes (p : Poll) : List Byte :=
  let orders := (p.sockets.map (codeIn contactorOrders)).foldr (fun c acc => c + 4 * acc) 0
  let taps := bitField p.valves + 16 * bitField p.acks
  let covered := [BitVec.ofNat 8 p.address, BitVec.ofNat 8 orders, BitVec.ofNat 8 taps]
  0x7B#8 :: covered ++ beBytes 2 (crc16 covered)

/-! ## Pedestal replies (R210) -/

/-- The value of bytes at an offset. -/
def bytesAt (l : List Byte) (offset size : Nat) : Nat := beValue ((l.drop offset).take size)

/-- A socket position's five bytes. -/
def readingAt (l : List Byte) (offset : Nat) : SocketReading :=
  let flags := bytesAt l offset 1
  ⟨⟨flags.testBit 0, flags.testBit 1, flags.testBit 2, bytesAt l (offset + 1) 2⟩, bytesAt l (offset + 3) 2⟩

/-- A tap position's three bytes. -/
def tapReadingAt (l : List Byte) (offset : Nat) : TapReading :=
  ⟨(bytesAt l offset 1).testBit 0, bytesAt l (offset + 1) 2⟩

/-- R210: a reply that has the form the pedestal line rules require: 30 bytes, the sync, the check, and no unassigned flag
bit. -/
def goodReply (l : List Byte) : Option PollReply :=
  if l.length = 30 ∧ bytesAt l 0 1 = 0x7B ∧ crc16 ((l.drop 1).take 27) = bytesAt l 28 2 ∧
      ([2, 7, 12, 17].all fun o => decide (bytesAt l o 1 < 8)) = true ∧
      ([22, 25].all fun o => decide (bytesAt l o 1 < 2)) = true then
    some ⟨bytesAt l 1 1, [2, 7, 12, 17].map (readingAt l), [22, 25].map (tapReadingAt l)⟩
  else none

end Sys2Proof.Machine
end

