-- ==== Sys2Proof/Machine/Credentials.lean ====
section
/-! DEFINITION. What the gate controller does with a credential record from outside a presentation: ending the uses in
progress (R158), making a record FREE (R160), and the close of a booking (R161); and the two lookups of R157. -/

namespace Sys2Proof.Machine

/-- A release at a gate attributed to a record goes on without attribution (R158). -/
def endAttribution (cred gate : Nat) (s : State) : State :=
  if (s.gate gate).attributed = some cred then s.setGate gate { s.gate gate with attributed := none } else s

/-- A pending card of a record at a terminal is dropped, with the entry buffer cleared (R158). -/
def endCard (cred terminal : Nat) (s : State) : State :=
  match (s.terminal terminal).card with
  | some c => if c.cred = cred then clearBuffer terminal (dropCard terminal s) else s
  | none => s

/-- R158: every use of a record still in progress ends. -/
def endCredUse (cred : Nat) (s : State) : State :=
  [1, 2, 3, 4, 5, 6, 7].foldl (fun t n => endCard cred n t) ([1, 2, 3, 4, 5, 6].foldl (fun t n => endAttribution cred n t) s)

/-- R160: a record becomes FREE, its fields absent, and its uses end. -/
def freeCred (cred : Nat) (s : State) : State := endCredUse cred (s.setCred cred coldCred)

/-- R161: a booking closes, and every credential linked to it becomes FREE, in ascending order. -/
def freeBookingCreds (booking : Nat) (s : State) : State :=
  ((s.gtc.creds.filter fun e => decide (e.2.state ≠ .free) && decide (e.2.booking = some booking)).map (·.1)).foldl
    (fun t n => freeCred n t) s

/-- The credentials that satisfy a test and are not FREE, ascending. -/
def State.findCred (s : State) (test : Cred → Bool) : Option Nat :=
  (s.gtc.creds.find? fun e => decide (e.2.state ≠ .free) && test e.2).map (·.1)

/-- R157: the credential a card read finds. -/
def State.credByToken (s : State) (token : Nat) : Option Nat :=
  s.findCred fun c => decide (c.kind ≠ .pin) && decide (c.token = some token)

/-- R157: the credential a PIN submission finds. -/
def State.credByPin (s : State) (pin : List Nat) : Option Nat :=
  s.findCred fun c => decide (c.kind = .pin) && decide (c.pin = some pin)

end Sys2Proof.Machine
end

