-- ==== Sys2Proof/Machine/Feeder.lean ====
section
/-! DEFINITION. The feeder arbiter's shared operations: eligibility (R104), reservations (R107), the pending set and the
grant search (R105, R110 to R113), and the shed order (R127). -/

namespace Sys2Proof.Machine

/-- A socket is GRANTED or ENERGISED. -/
def Socket.supplied (k : Socket) : Bool := decide (k.state = .granted) || decide (k.state = .energised)

/-- The berth and account part of eligibility (R104): a berth that is SERVICE, or holds an ARRIVED booking whose
account is OPEN. -/
def State.entitled (s : State) (socket : Nat) : Bool :=
  match (s.socketCfg socket).berth with
  | none => false
  | some b =>
    decide ((s.berth b).cls = .service) ||
    match s.arrivedOn b with
    | none => false
    | some k => decide ((s.account (s.booking k).account).state = .opened)

/-- R104. -/
def State.eligible (s : State) (socket : Nat) : Bool :=
  s.entitled socket && decide ((s.link (pedestalOf socket)).link = .online) &&
  decide ((s.socket socket).state ≠ .locked) && decide ((s.socket socket).state ≠ .shed) &&
  decide ((s.socket socket).state ≠ .tripped)

/-- R107: rating times diversity, divided by 10 and rounded up, in dA. -/
def reserve (rating diversity : Nat) : Nat := (rating * diversity + 9) / 10

/-- The reservation a socket would take now (R107). -/
def State.reservation (s : State) (socket : Nat) : Nat :=
  reserve (s.socketCfg socket).rating (s.feederCfg (s.feederOf socket)).diversity

/-- The feeder's headroom (R106): its limit less its reserved sum. -/
def State.headroom (s : State) (feeder : Nat) : Nat := (s.feederCfg feeder).limit - (s.feeder feeder).reserved

/-- A socket's reservation is at most the feeder's headroom. -/
def State.fits (s : State) (feeder socket : Nat) : Bool :=
  decide ((s.feeder feeder).reserved + s.reservation socket ≤ (s.feederCfg feeder).limit)

/-- An ascending list taken in cyclic order from the number after a pointer round to the pointer itself (R111). -/
def cyclicFrom (pointer : Nat) (l : List Nat) : List Nat :=
  l.filter (fun n => decide (pointer < n)) ++ l.filter (fun n => decide (n ≤ pointer))

/-- The pending sockets of a feeder by class and rotation (R111). -/
def State.rotation (s : State) (feeder : Nat) : List Nat :=
  [0, 1, 2, 3].flatMap fun c =>
    cyclicFrom (tableGet 0 (s.feeder feeder).pointers c)
      ((s.feeder feeder).pending.filter fun n => decide ((s.socketCfg n).cls = c))

/-- The sockets a pass considers, in order (R111): the blocking request alone when there is one. -/
def State.passOrder (s : State) (feeder : Nat) : List Nat :=
  match (s.feeder feeder).blocking with
  | some n => [n]
  | none => s.rotation feeder

/-- The first of a list that passes a test, and those before it. -/
def firstFit (test : Nat → Bool) : List Nat → List Nat → Option (Nat × List Nat)
  | _, [] => none
  | skipped, n :: rest => if test n then some (n, skipped.reverse) else firstFit test (n :: skipped) rest

/-- What one pass grants (R111): the socket, and those passed over before it in order. -/
def State.pass (s : State) (feeder : Nat) : Option (Nat × List Nat) :=
  firstFit (s.fits feeder) [] (s.passOrder feeder)

/-- The largest value of the grant counter (R103). -/
def counterMax : Nat := 4294967295

/-- R103: the stamps of all GRANTED and ENERGISED sockets renumbered from 1, keeping their order. -/
def renumber (s : State) : State :=
  let order := sortBy (fun x y => decide (x.2.stamp.getD 0 < y.2.stamp.getD 0)) (s.far.sockets.filter fun e => e.2.supplied)
  let t := (order.zipIdx 1).foldl (fun t e => t.setSocket e.1.1 { t.socket e.1.1 with stamp := some e.2 }) s
  { t with far := { t.far with counter := order.length } }

/-- R103: the grant counter rises by 1; the value is the new grant stamp. -/
def takeStamp (s : State) : State × Nat :=
  let t := if s.far.counter ≥ counterMax then renumber s else s
  ({ t with far := { t.far with counter := t.far.counter + 1 } }, t.far.counter + 1)

/-- R112 step 5: a socket passed over gains 1 in its bypass count, up to 15. -/
def countBypass (s : State) (socket : Nat) : State :=
  s.setSocket socket { s.socket socket with bypass := min ((s.socket socket).bypass + 1) 15 }

/-- R112: a pass grants a socket, having passed over others. -/
def grant (feeder socket : Nat) (skipped : List Nat) (s : State) : State :=
  let r := s.reservation socket
  let stamped := takeStamp s
  let s1 := stamped.1
  let fd := s1.feeder feeder
  let blocked := fd.blocking.isSome
  let s2 := s1.setSocket socket
    { s1.socket socket with state := .granted, reservation := some r, stamp := some stamped.2, confirm := some 0, bypass := 0 }
  let s3 := if blocked then s2 else skipped.foldl countBypass s2
  let block : Option Nat :=
    if blocked then (if fd.blocking = some socket then none else fd.blocking)
    else skipped.find? fun n => decide ((s3.feederCfg feeder).bypassLimit ≤ (s3.socket n).bypass)
  let s4 := s3.setFeeder feeder
    { fd with
      reserved := fd.reserved + r
      pointers := tableSet 0 fd.pointers (s.socketCfg socket).cls socket
      pending := fd.pending.filter fun n => decide (n ≠ socket)
      blocking := block }
  s4.raise (.socketGranted socket feeder r (s4.headroom feeder))

/-- Passes of the grant search, each following one that granted, up to a number of passes. -/
def searchPasses (feeder : Nat) : Nat → State → State
  | 0, s => s
  | fuel + 1, s =>
    match s.pass feeder with
    | none => s
    | some (n, skipped) => searchPasses feeder fuel (grant feeder n skipped s)

/-- The grant search on a feeder (R110): passes until one grants nothing. Each grant takes a socket out of the pending
set, so there are no more passes that grant than pending sockets. -/
def grantSearch (feeder : Nat) (s : State) : State := searchPasses feeder ((s.feeder feeder).pending.length + 1) s

/-- A socket is placed in its feeder's pending set with a bypass count of 0 (R105), the search not yet run. -/
def placePending (socket : Nat) (s : State) : State :=
  let f := s.feederOf socket
  let t := s.setSocket socket { s.socket socket with state := .pending, bypass := 0 }
  t.setFeeder f { t.feeder f with pending := insertAsc (t.feeder f).pending socket }

/-- R105, R113: a socket leaves the pending set for a state other than GRANTED; its bypass count becomes 0 and a blocking
request of its own is cleared. -/
def dropPending (socket : Nat) (dest : SocketState) (s : State) : State :=
  let f := s.feederOf socket
  let fd := s.feeder f
  let t := s.setSocket socket { s.socket socket with state := dest, bypass := 0 }
  t.setFeeder f
    { fd with
      pending := fd.pending.filter fun n => decide (n ≠ socket)
      blocking := if fd.blocking = some socket then none else fd.blocking }

/-- R105: a PENDING socket leaves the pending set, with SOCKET(WITHDRAWN) when it goes to IDLE; no search is run yet. -/
def withdraw (socket : Nat) (dest : SocketState) (s : State) : State :=
  let t := dropPending socket dest s
  if dest = .idle then t.raise (.socketWithdrawn socket (s.feederOf socket)) else t

/-- R105, R113: the PENDING ones of some sockets leave the pending set in one step, each for its state: all leave before any
search is run, and the search then runs on each feeder whose blocking request was one of them (log entry 15). -/
def leaveAllPending (dest : Nat → SocketState) (sockets : List Nat) (s : State) : State :=
  let leaving := sockets.filter fun n => decide ((s.socket n).state = .pending) && decide (dest n ≠ .pending)
  let t := leaving.foldl (fun t n => withdraw n (dest n) t) s
  (leaving.filter fun n => decide ((s.feeder (s.feederOf n)).blocking = some n)).foldl
    (fun t n => grantSearch (s.feederOf n) t) t

/-- R105: a PENDING socket leaves the pending set, and the grant search runs when it was the blocking request. -/
def leavePending (socket : Nat) (dest : SocketState) (s : State) : State := leaveAllPending (fun _ => dest) [socket] s

/-- The state R105 gives a socket. -/
def State.judged (s : State) (socket : Nat) : SocketState :=
  if (s.socketCfg socket).berth = none then .unassigned
  else if ((s.report socket).map (·.plug)).getD false = false then .idle
  else if s.eligible socket then .pending
  else .waiting

/-- The states R105 re-evaluates. -/
def SocketState.judgeable (k : SocketState) : Bool :=
  decide (k = .unassigned) || decide (k = .idle) || decide (k = .waiting) || decide (k = .pending)

/-- R105: re-evaluate a socket. -/
def reevaluate (socket : Nat) (s : State) : State :=
  let k := s.socket socket
  if !k.state.judgeable then s
  else
    let dest := s.judged socket
    if dest = .pending then
      if k.state = .pending then s else grantSearch (s.feederOf socket) (placePending socket s)
    else if k.state = .pending then leavePending socket dest s
    else s.setSocket socket { k with state := dest }

/-- R125, R126, R131: a socket is re-evaluated as if it were IDLE, its hold-off, shed source and fault discarded. -/
def reevaluateAsIdle (socket : Nat) (s : State) : State :=
  reevaluate socket
    (s.setSocket socket { s.socket socket with state := .idle, shedSource := none, holdOffEnd := none, fault := false })

/-- The GRANTED and ENERGISED sockets of a feeder in shed order (R127): class 3 before class 0, and within a class the
larger grant stamp first. -/
def State.shedOrder (s : State) (feeder : Nat) : List Nat :=
  (sortBy (fun x y =>
      decide ((s.socketCfg y.1).cls < (s.socketCfg x.1).cls) ||
      (decide ((s.socketCfg x.1).cls = (s.socketCfg y.1).cls) && decide (y.2.stamp.getD 0 < x.2.stamp.getD 0)))
    (s.far.sockets.filter fun e => e.2.supplied && decide (s.feederOf e.1 = feeder))).map (·.1)

/-- The sockets in one of the given states, ascending. -/
def State.socketsIn (s : State) (states : List SocketState) : List Nat :=
  (s.far.sockets.filter fun e => decide (e.2.state ∈ states)).map (·.1)

/-- R51, R121: on an account's change of hold state the FAR re-evaluates each WAITING and PENDING socket whose berth holds
an ARRIVED booking naming the account. Those that leave PENDING leave it before any search, so that none of them is granted
(log entry 15); the rest are taken in ascending order, a search after each that enters PENDING (log entry 47). -/
def farHold (account : Nat) (s : State) : State :=
  let sockets := (s.socketsIn [.waiting, .pending]).filter fun n => s.berthNames (s.socketCfg n).berth account
  sockets.foldl (fun t n => reevaluate n t) (leaveAllPending s.judged sockets s)

end Sys2Proof.Machine
end

