-- ==== Sys2Proof/Machine/Accounts.lean ====
section
/-! DEFINITION. The account unit's shared operations: postings (R49), hold evaluation (R50) and what the other blocks do
when told of a change of hold state (R51), and the settlement of a meter (R63 to R65). -/

namespace Sys2Proof.Machine

/-! ## Postings and hold -/

/-- The bound of a balance (R47). -/
def balanceBound : Int := 1000000000000

/-- R49: a sum held within the bounds of a balance. -/
def saturate (x : Int) : Int := if x > balanceBound then balanceBound else if x < -balanceBound then -balanceBound else x

/-- R57: balance plus credit limit less earmark total. -/
def Account.available (k : Account) : Int := k.balance + k.limit - k.earmark

/-- R50: the hold state of an account is evaluated, with its notice; the flag says that it changed. -/
def evaluateHold (account : Nat) (s : State) : State × Bool :=
  let k := s.account account
  if account = 0 then (s, false)
  else if k.state = .opened ∧ k.balance + k.limit < 0 then
    ((s.setAccount account { k with state := .held }).raise (.accountHold account .held k.balance k.limit), true)
  else if k.state = .held ∧ 0 ≤ k.balance + k.limit then
    ((s.setAccount account { k with state := .opened }).raise (.accountClear account .opened k.balance k.limit), true)
  else (s, false)

/-- R49: an amount is added to an account's balance, which saturates. -/
def addBalance (account : Nat) (amount : Int) (s : State) : State :=
  s.setAccount account { s.account account with balance := saturate ((s.account account).balance + amount) }

/-- A posting and its hold evaluation, the other blocks not yet told. A posting of 0 changes nothing (R49). -/
def postOnly (account : Nat) (amount : Int) (s : State) : State × Bool :=
  if amount = 0 then (s, false) else evaluateHold account (addBalance account amount s)

/-! ## Settlement -/

/-- R63: the charge and the new residue of a quantity `q` at a rate `r` from a residue `e`, in pieces of 65535 units,
each from the residue the piece before it left, and a last piece of what remains. -/
def pricePieces : Nat → Nat → Nat → Nat → Nat × Nat
  | 0, q, r, e => ((q * r + e) / 1000, (q * r + e) % 1000)
  | more + 1, q, r, e =>
    if q ≤ 65535 then ((q * r + e) / 1000, (q * r + e) % 1000)
    else
      let rest := pricePieces more (q - 65535) r ((65535 * r + e) % 1000)
      ((65535 * r + e) / 1000 + rest.1, rest.2)

/-- R63: a settlement's charge and new residue. -/
def price (q r e : Nat) : Nat × Nat := pricePieces (q / 65535) q r e

/-- R63 to R65: a socket meter is settled: its unsettled quantity becomes 0, its residue and settlement band take their
new values, and the charge goes to the receiving account by `post`. -/
def settleSocketBy (post : Nat → Int → State → State) (socket : Nat) (s : State) : State :=
  let m := s.socketMeter socket
  let a := s.socketAcct socket
  let t := s.tariff (s.socketCfg socket).tariff
  let rate := match a.band with | .day => t.dayRate | .night => t.nightRate
  let c := price m.unsettled rate a.residue
  post (s.receiver (s.socketCfg socket).berth) (-(c.1 : Int))
    ((s.setSocketMeter socket { m with unsettled := 0 }).setSocketAcct socket ⟨c.2, s.band⟩)

/-- R63 to R65 for a tap meter, priced at the water rate. -/
def settleTapBy (post : Nat → Int → State → State) (tap : Nat) (s : State) : State :=
  let m := s.tapMeter tap
  let c := price m.unsettled (s.tariff (s.tapCfg tap).tariff).waterRate (s.tapResidue tap)
  post (s.receiver (s.tapCfg tap).berth) (-(c.1 : Int))
    ((s.setTapMeter tap { m with unsettled := 0 }).setTapResidue tap c.2)

/-- R98: an OPEN tap closes: it becomes CLOSED, its meter is settled, and TAP(CLOSED) is raised with the run time. -/
def closeTapBy (settle : Nat → State → State) (tap : Nat) (cause : TapCause) (s : State) : State :=
  match s.run tap with
  | none => s
  | some r => (settle tap (s.setRun tap none)).raise (.tapClosed tap cause (s.secsSince r.since))

/-! ## The hold message -/

/-- R51, R98: on an account's entry to HOLD the PDL closes every OPEN tap whose berth holds an ARRIVED booking naming it.
The charges go to that account, which is on HOLD below its limit already and which a charge cannot bring back above it,
so their postings change no hold state and tell no block (log entry 31). The taps are taken in ascending order (log entry
47). -/
def pdlHold (account : Nat) (s : State) : State :=
  ((s.pdl.runs.map (·.1)).filter fun n => s.berthNames (s.tapCfg n).berth account).foldl
    (fun t n => closeTapBy (settleTapBy fun a x u => (postOnly a x u).1) n .hold t) s

/-- R184: on an account's entry to HOLD terminal 7 gives up a pending card of a credential of the account;
the notice names the entry reader (log entry 18). -/
def gtcHold (account : Nat) (s : State) : State :=
  match (s.terminal 7).card with
  | none => s
  | some c =>
    if s.gtc.fuel.window ≠ .none ∧ s.credAccount (s.cred c.cred) = some account then
      (lampRed (dropCard 7 s)).raise (.gateRefused 7 .entry (some c.cred) .held false)
    else s

/-- R51: the FAR, the PDL and the GTC are told of an account's new hold state; the FDC changes no state of its own
(R153). -/
def tellHold (account : Nat) (s : State) : State :=
  let t := farHold account s
  if (s.account account).state = .held then gtcHold account (pdlHold account t) else t

/-- R49 to R51: a posting, its hold evaluation, and the message of a change. -/
def post (account : Nat) (amount : Int) (s : State) : State :=
  let r := postOnly account amount s
  if r.2 then tellHold account r.1 else r.1

/-- R50, R51 after a change of credit limit. -/
def evaluateAndTell (account : Nat) (s : State) : State :=
  let r := evaluateHold account s
  if r.2 then tellHold account r.1 else r.1

/-- A socket meter is settled and posted (R63). -/
def settleSocket (socket : Nat) (s : State) : State := settleSocketBy post socket s

/-- A tap meter is settled and posted (R63). -/
def settleTap (tap : Nat) (s : State) : State := settleTapBy post tap s

/-- A tap closes, its meter settled and posted (R98). -/
def closeTap (tap : Nat) (cause : TapCause) (s : State) : State := closeTapBy settleTap tap cause s

/-- R66: every socket meter is settled, in order. -/
def settleAllSockets (s : State) : State := (List.range socketCount).foldl (fun t n => settleSocket n t) s

/-- R66: every tap meter is settled, in order. -/
def settleAllTaps (s : State) : State := (List.range tapCount).foldl (fun t n => settleTap n t) s

end Sys2Proof.Machine
end

