-- ==== Sys2Proof/Machine/Release.lean ====
section
/-! DEFINITION. Releasing and shedding a socket (R118, R127), and what the FAR and the PDL do when a berth loses what
entitles its sockets and tap (R98, R120). -/

namespace Sys2Proof.Machine

/-- How a releasing rule leaves a socket (R118 step 3): its new state, and what goes with SHED or LOCKED. -/
structure Landing where
  state : SocketState
  shedSource : Option ShedSource
  holdOffEnd : Option Nat
  fault : Bool

/-- A landing in a state with nothing more to hold. -/
def landIn (state : SocketState) : Landing := ⟨state, none, none, false⟩

/-- R118: a GRANTED or ENERGISED socket is released: its meter is settled, its reservation is freed, it takes the state
the releasing rule names, with that rule's notice if it has one, and the grant search runs on its feeder. -/
def release (socket : Nat) (land : Landing) (notice : Option NoticeBody) (s : State) : State :=
  let f := s.feederOf socket
  let s1 := settleSocket socket s
  let k := s1.socket socket
  let fd := s1.feeder f
  let s2 := s1.setFeeder f { fd with reserved := fd.reserved - k.reservation.getD 0 }
  let s3 := s2.setSocket socket
    { k with state := land.state, reservation := none, stamp := none, confirm := none, shedSource := land.shedSource,
             holdOffEnd := land.holdOffEnd, fault := land.fault }
  let s4 := match notice with | some body => s3.raise body | none => s3
  grantSearch f s4

/-- R127: a socket is shed. For source FEEDER on a feeder in AUTO mode the hold-off begins. -/
def shed (socket : Nat) (source : ShedSource) (cause : ShedCause) (s : State) : State :=
  let f := s.feederOf socket
  let c := s.feederCfg f
  let holdOff := if source = .feeder ∧ c.retry = .auto then some (s.uptime + c.holdOff * 60 * 256) else none
  release socket ⟨.shed, some source, holdOff, false⟩
    (some (.socketShed socket f ((s.socket socket).reservation.getD 0) cause)) s

/-- The state a socket that loses its entitlement is released to (R120): WAITING with a plug, IDLE without. -/
def State.unentitled (s : State) (socket : Nat) : SocketState := if s.plugged socket then .waiting else .idle

/-- R120: a berth's sockets lose their entitlement. Its PENDING sockets go to WAITING, and its GRANTED and ENERGISED ones
are released to WAITING or IDLE. The pending ones leave first, all before any search, so that none of them is granted (log
entry 15); the releases are made in ascending order (log entry 47). -/
def farDepart (berth : Nat) (s : State) : State :=
  let sockets := s.berthSockets berth
  let t := leaveAllPending (fun _ => .waiting) sockets s
  sockets.foldl (fun t n => if (t.socket n).supplied then release n (landIn (t.unentitled n)) none t else t) t

/-- R120: the WAITING sockets of a berth are re-evaluated, at an arrival or a change to SERVICE: in ascending order, with a
search after each that enters PENDING (log entry 47). -/
def farEntitle (berth : Nat) (s : State) : State :=
  (s.berthSockets berth).foldl (fun t n => if (t.socket n).state = .waiting then reevaluate n t else t) s

/-- R98: the OPEN taps of a berth are closed. -/
def closeBerthTaps (berth : Nat) (cause : TapCause) (s : State) : State :=
  (s.berthTaps berth).foldl (fun t n => closeTap n cause t) s

/-- R35 step 2, R67: every meter of a berth is settled: its sockets ascending, then its tap (log entry 48). -/
def settleBerth (berth : Nat) (s : State) : State :=
  (s.berthTaps berth).foldl (fun t n => settleTap n t) ((s.berthSockets berth).foldl (fun t n => settleSocket n t) s)

end Sys2Proof.Machine
end

