-- ==== Sys2Proof/Machine/Placement.lean ====
section
/-! DEFINITION. Placement (R12 to R15), the choice of a booking record (R27), a move (R22, R23) and the close of a booking
(R28). -/

namespace Sys2Proof.Machine

/-- The low water of a day (R5): its entry, or the default. -/
def State.lowWaterOf (s : State) (day : Nat) : Int :=
  ((s.bal.tides.find? fun e => decide (e.1 = day)).map (·.2)).getD s.bal.lowWater

/-- R41: the low water of a day for a move of the rollover of day `d`: days before `d` take the default. -/
def State.lowWaterFrom (s : State) (d day : Nat) : Int := if day < d then s.bal.lowWater else s.lowWaterOf day

/-- The lowest of the low waters over the days arr to dep inclusive (R14). -/
def lowest (water : Nat → Int) (arr dep : Nat) : Int :=
  (List.range (dep - arr)).foldl (fun l k => min l (water (arr + k + 1))) (water arr)

/-- A boat and its nights, as placement takes them (R12); `self` is the booking being placed, if it exists. -/
structure Boat where
  loa : Nat
  beam : Nat
  draught : Nat
  arr : Nat
  dep : Nat
  self : Option Nat

/-- The boat of a booking that exists. -/
def boatOf (index : Nat) (k : Booking) : Boat := ⟨k.loa, k.beam, k.draught, k.arr, k.dep, some index⟩

/-- The boat of a request that creates a booking. -/
def boatOfNew (n : NewBooking) : Boat := ⟨n.loa, n.beam, n.draught, n.arr, n.dep, none⟩

/-- Test 4 of R13: the berth's calendar holds no booking that holds any night of a run, one booking left out. -/
def State.nightsFree (s : State) (berth : Nat) (self : Option Nat) (a z : Nat) : Bool :=
  s.bal.bookings.all fun e => !(e.2.onBerth berth) || !(e.2.holdsAny a z) || decide (self = some e.1)

/-- Test 5 of R13: the depth test of R14. -/
def deepEnough (margin : Nat) (water : Nat → Int) (b : Berth) (boat : Boat) : Bool :=
  decide ((boat.draught : Int) + margin ≤ b.depth + lowest water boat.arr boat.dep)

/-- Test 2 of R13. -/
def Berth.offered (b : Berth) : Bool := decide (b.cls = .visitor) || (decide (b.cls = .resident) && b.visitorOk)

/-- Test 3 of R13. -/
def Berth.holds (b : Berth) (boat : Boat) : Bool := decide (boat.loa ≤ b.maxLoa) && decide (boat.beam ≤ b.maxBeam)

/-- Tests 2, 3 and 5 of R13, as R18 applies them to a named berth. -/
def State.fitsBoat (s : State) (water : Nat → Int) (berth : Nat) (boat : Boat) : Bool :=
  (s.berth berth).offered && (s.berth berth).holds boat && deepEnough s.bal.margin water (s.berth berth) boat

/-- R13: a berth is a candidate; `left` is the berth a move leaves. -/
def State.candidate (s : State) (water : Nat → Int) (boat : Boat) (left : Option Nat) (berth : Nat) : Bool :=
  decide ((s.berth berth).state = .inService) && (s.berth berth).offered && (s.berth berth).holds boat &&
  decide (left ≠ some berth) && s.nightsFree berth boat.self boat.arr boat.dep &&
  deepEnough s.bal.margin water (s.berth berth) boat

/-- R15: the keys of a candidate, least first: length, beam, off the preferred pontoon, index. With a preference of 0 the
third key is the same for all. -/
def State.keys (s : State) (preference berth : Nat) : Nat × Nat × Nat × Nat :=
  let b := s.berth berth
  (b.maxLoa, b.maxBeam, (if preference = 0 ∨ b.pontoon = preference then 0 else 1), berth)

/-- The order of R15 on keys. The boat's own length and beam are subtracted from every candidate's alike. -/
def keyBefore (x y : Nat × Nat × Nat × Nat) : Bool :=
  decide (x.1 < y.1) || (decide (x.1 = y.1) &&
    (decide (x.2.1 < y.2.1) || (decide (x.2.1 = y.2.1) &&
      (decide (x.2.2.1 < y.2.2.1) || (decide (x.2.2.1 = y.2.2.1) && decide (x.2.2.2 < y.2.2.2))))))

/-- The better of a winner so far and a berth. -/
def State.better (s : State) (preference : Nat) (best : Option Nat) (berth : Nat) : Option Nat :=
  match best with
  | none => some berth
  | some b => if keyBefore (s.keys preference berth) (s.keys preference b) then some berth else some b

/-- R13 to R15: the berth placement chooses; none is the result NO_BERTH. -/
def State.place (s : State) (water : Nat → Int) (boat : Boat) (preference : Nat) (left : Option Nat) : Option Nat :=
  ((List.range berthCount).filter (s.candidate water boat left)).foldl (s.better preference) none

/-- R27: the record a new booking would take: the lowest FREE one, else the closed one with the oldest closed time, the
lowest index first. A closed record without a closed time, which no run makes, is read as closed at day 0, second 0 (log
entry 30). -/
def State.recordFor (s : State) : Option Nat :=
  match (List.range bookingCount).find? fun i => decide ((s.booking i).state = .free) with
  | some i => some i
  | none =>
    ((List.range bookingCount).filter fun i => (s.booking i).isClosed).foldl
      (fun best i =>
        match best with
        | none => some i
        | some j =>
          if stampBefore ((s.booking i).closedTime.getD ⟨0, 0⟩) ((s.booking j).closedTime.getD ⟨0, 0⟩) then some i
          else some j)
      none

/-- R17, R18: a new booking's record is filled, whole. -/
def fillBooking (record berth : Nat) (n : NewBooking) (s : State) : State :=
  s.setBooking record
    { state := .confirmed, account := n.account, berth := some berth, loa := n.loa, beam := n.beam, draught := n.draught,
      arr := n.arr, dep := n.dep, arrivedTime := none, departedTime := none, closedTime := none, nightsCharged := 0,
      overstay := 0 }

/-- R19, R20: an UNPLACED booking takes a berth and becomes CONFIRMED. -/
def putOnBerth (booking berth : Nat) (s : State) : State :=
  s.setBooking booking { s.booking booking with state := .confirmed, berth := some berth }

/-- R22, R23: a move: a CONFIRMED booking takes the berth placement gives, with the pontoon left as the preference, or
becomes UNPLACED; a booking in another state, an ARRIVED one above all, is not moved. -/
def moveBooking (water : State → Nat → Int) (booking : Nat) (s : State) : State :=
  let k := s.booking booking
  match k.berth with
  | none => s
  | some old =>
    if k.state ≠ .confirmed then s
    else
      match s.place (water s) (boatOf booking k) (s.berth old).pontoon (some old) with
      | some new => (s.setBooking booking { k with berth := some new }).raise (.bookingMoved booking old new)
      | none => (s.setBooking booking { k with state := .unplaced, berth := none }).raise (.bookingUnplaced booking old)

/-- R21: every CONFIRMED booking of a berth is moved, in calendar order. -/
def moveAll (berth : Nat) (s : State) : State :=
  ((s.calendar berth).filter fun e => decide (e.2.state = .confirmed)).foldl (fun t e => moveBooking State.lowWaterOf e.1 t) s

/-- R28: a booking closes at a moment: its state and closed time are written, its berth becomes absent, and its
credentials become FREE. -/
def closeBooking (state : BookState) (at_ : Stamp) (booking : Nat) (s : State) : State :=
  freeBookingCreds booking
    (s.setBooking booking { s.booking booking with state, berth := none, closedTime := some at_ })

end Sys2Proof.Machine
end

