-- ==== Sys2Proof/Machine/Bookings.lean ====
section
/-! DEFINITION. The booking requests of the berth allocator: BOOK_ALLOC, BOOK_FIXED, BOOK_PLACE, BOOK_ARRIVE, BOOK_CHANGE,
BOOK_DEPART, BOOK_CANCEL and BOOK_GET (R16 to R20, R26, R29 to R36), and the arrival request of a gate (R32). -/

namespace Sys2Proof.Machine

/-- R16, checks 1 to 5; `extra` is a further field out of its range. -/
def newChecks (n : NewBooking) (extra : Bool) (s : State) : List (Bool × Status) :=
  [(!s.clk.isSet, .clockUnset),
   (!within 1 255 n.account || !within 20 1000 n.loa || !within 10 300 n.beam || !within 50 1000 n.draught ||
      !within 0 65535 n.arr || !within 0 65535 n.dep || !within (n.arr + 1) (n.arr + 60) n.dep || extra, .range),
   (!within s.night (s.night + 365) n.arr, .range),
   (decide ((s.account n.account).state = .free), .noSuch),
   (decide ((s.account n.account).state = .held), .held)]

/-- R18, the berth tests: its state and class, its calendar, and its fit unless forced. -/
def berthChecks (berth : Nat) (boat : Boat) (force : Bool) (s : State) : List (Bool × Status) :=
  [(decide ((s.berth berth).state = .blocked) || decide ((s.berth berth).cls = .service), .state),
   (!s.nightsFree berth boat.self boat.arr boat.dep, .conflict),
   (!force && !s.fitsBoat s.lowWaterOf berth boat, .unfit)]

/-- R19, checks 1 to 5, of a request that places an UNPLACED booking; `extra` is a further field out of its range. -/
def placeChecks (booking : Nat) (extra : Bool) (s : State) : List (Bool × Status) :=
  [(!s.clk.isSet, .clockUnset),
   (!within 0 511 booking || extra, .range),
   (decide ((s.booking booking).state = .free), .noSuch),
   (decide ((s.booking booking).state ≠ .unplaced), .state),
   (decide ((s.booking booking).dep ≤ s.night), .range)]

/-- R17. -/
def bookAlloc (n : NewBooking) (preference : Nat) (s : State) : State × Answer :=
  checked (newChecks n (!within 0 8 preference) s) (fun s =>
    match s.recordFor with
    | none => refuse .full s
    | some r =>
      match s.place s.lowWaterOf (boatOfNew n) preference none with
      | none => refuse .noBerth s
      | some b => accept [resultItem [.u 2 r, .u 1 b]] (fillBooking r b n s)) s

/-- R18. -/
def bookFixed (n : NewBooking) (berth : Nat) (force : Bool) (s : State) : State × Answer :=
  checked (newChecks n (!within 0 255 berth) s) (fun s =>
    match s.recordFor with
    | none => refuse .full s
    | some r =>
      checked (berthChecks berth (boatOfNew n) force s)
        (fun s => accept [resultItem [.u 2 r, .u 1 berth]] (fillBooking r berth n s)) s) s

/-- R19. -/
def bookFixedIndex (booking berth : Nat) (force : Bool) (s : State) : State × Answer :=
  checked (placeChecks booking (!within 0 255 berth) s ++ berthChecks berth (boatOf booking (s.booking booking)) force s)
    (fun s => accept [resultItem [.u 1 berth]] (putOnBerth booking berth s)) s

/-- R20. -/
def bookPlace (booking preference : Nat) (s : State) : State × Answer :=
  checked (placeChecks booking (!within 0 8 preference) s) (fun s =>
    match s.place s.lowWaterOf (boatOf booking (s.booking booking)) preference none with
    | none => refuse .noBerth s
    | some b => accept [resultItem [.u 1 b]] (putOnBerth booking b s)) s

/-! ## Arrival -/

/-- R29. -/
def arriveChecks (booking : Nat) (s : State) : List (Bool × Status) :=
  [(!s.clk.isSet, .clockUnset),
   (!within 0 511 booking, .range),
   (decide ((s.booking booking).state = .free), .noSuch),
   (decide ((s.booking booking).state ≠ .confirmed), .state),
   (decide ((s.booking booking).dep ≤ s.night), .range)]

/-- R30: the case of an arrival that has passed R29. -/
def State.arriveCase (s : State) (k : Booking) : ArriveCase :=
  if k.arr ≤ s.night then .onTime
  else if s.night + 1 = k.arr ∧ s.clk.day = k.arr then .morning
  else .early

/-- R30: the refusal of a case, if its test fails. -/
def State.arriveRefusal (s : State) (booking : Nat) (k : Booking) : Option Status :=
  let berth := k.berth.getD 0
  match s.arriveCase k with
  | .early => if s.nightsFree berth (some booking) s.night k.arr then none else some .conflict
  | .onTime | .morning => if (s.arrivedOn berth).isSome then some .berthOccupied else none

/-- R31: the effects of an accepted arrival; the source is 0 for the host, or the gate. -/
def arrive (booking source : Nat) (s : State) : State :=
  let k := s.booking booking
  let berth := k.berth.getD 0
  let case := s.arriveCase k
  let arr := if case = .early then s.night else k.arr
  (farEntitle berth (s.setBooking booking { k with state := .arrived, arrivedTime := some s.now, arr })).raise
    (.bookingArrived booking berth case arr source)

/-- R29, R30: the refusal of an arrival, if there is one. -/
def State.arrivalRefused (s : State) (booking : Nat) : Option Status :=
  match firstFailing (arriveChecks booking s) with
  | some code => some code
  | none => s.arriveRefusal booking (s.booking booking)

/-- R29 to R31 from the host. -/
def bookArrive (booking : Nat) (s : State) : State × Answer :=
  match s.arrivalRefused booking with
  | some code => refuse code s
  | none =>
    let t := arrive booking 0 s
    accept [resultItem [enumField arriveCases (s.arriveCase (s.booking booking)), .u 2 (t.booking booking).arr]] t

/-- R32: the arrival request of a passage; a refusal is reported by the GTC. -/
def autoArrive (a : Arrival) (s : State) : State :=
  match s.arrivalRefused a.booking with
  | some code => s.raise (.arriveRefused a.booking a.cred a.gate code)
  | none => arrive a.booking a.gate s

/-! ## Change, departure, cancellation -/

/-- R33. -/
def changeChecks (booking dep : Nat) (s : State) : List (Bool × Status) :=
  let k := s.booking booking
  [(!s.clk.isSet, .clockUnset),
   (!within 0 511 booking, .range),
   (decide (k.state = .free), .noSuch),
   (decide (k.state ≠ .confirmed) && decide (k.state ≠ .arrived), .state),
   (decide (dep ≤ k.arr) || decide (dep ≤ s.night), .range),
   (decide (k.dep < dep) && (decide (k.arr + 60 < dep) || !within 0 65535 dep), .range),
   (decide (k.dep < dep) && !s.nightsFree (k.berth.getD 0) (some booking) k.dep dep, .conflict)]

/-- R33. -/
def bookChange (booking dep : Nat) (s : State) : State × Answer :=
  checked (changeChecks booking dep s)
    (fun s => accept [resultItem [.u 2 dep]] (s.setBooking booking { s.booking booking with dep })) s

/-- One more nightly fee is counted (R25, R34, R38). -/
def countNight (n : Nat) : Nat := if n ≥ 65535 then Config.nightsChargedPastRange n else n + 1

/-- R34, R38: one nightly fee at the berth's present fee is posted to the booking's account, and counted. -/
def postFee (booking : Nat) (s : State) : State :=
  let k := s.booking booking
  post k.account (-((s.berth (k.berth.getD 0)).fee : Int))
    (s.setBooking booking { k with nightsCharged := countNight k.nightsCharged })

/-- R35: the settlement, the release of the sockets and the close of the tap, while the booking is still ARRIVED. -/
def leaveBerth (berth : Nat) (s : State) : State := closeBerthTaps berth .depart (farDepart berth (settleBerth berth s))

/-- R34, R35; a closing fee of 0 is answered as posted (log entry 13). -/
def depart (booking : Nat) (s : State) : State × Answer :=
  let berth := (s.booking booking).berth.getD 0
  let charged : Bool := decide ((s.booking booking).arr ≤ s.night)
  let s1 := if charged then postFee booking s else s
  let s2 := leaveBerth berth s1
  let k := s2.booking booking
  let s3 := closeBooking .departed s.now booking (s2.setBooking booking { k with departedTime := some s.now })
  accept [resultItem [presence 1 [charged], .u 1 berth, .u 2 k.nightsCharged, .u 2 k.overstay,
    .u 4 (if charged then (s.berth berth).fee else 0)]] s3

/-- R34. -/
def bookDepart (booking : Nat) (s : State) : State × Answer :=
  checked
    [(!s.clk.isSet, .clockUnset), (!within 0 511 booking, .range), (decide ((s.booking booking).state = .free), .noSuch),
     (decide ((s.booking booking).state ≠ .arrived), .state)]
    (depart booking) s

/-- R36. -/
def bookCancel (booking : Nat) (s : State) : State × Answer :=
  let k := s.booking booking
  checked
    [(!s.clk.isSet, .clockUnset), (!within 0 511 booking, .range), (decide (k.state = .free), .noSuch),
     (decide (k.state ≠ .confirmed) && decide (k.state ≠ .unplaced), .state)]
    (fun s => accept [resultItem [presence 1 [k.berth.isSome], optField 1 k.berth]] (closeBooking .cancelled s.now booking s)) s

/-! ## Reading -/

/-- A get of a table's entries (R206): a start past the table or a count out of its range is refused RANGE; otherwise the
number of entries returned, and each entry's record. -/
def getRecords (start count first last most per : Nat) (items : Nat → List Item) (s : State) : State × Answer :=
  if within first last start && within 1 most count then
    let rows := getRange start count last per
    accept (resultItem [.u 1 rows.length] :: rows.flatMap items) s
  else refuse .range s

/-- R26. -/
def bookGet (start count : Nat) (s : State) : State × Answer :=
  getRecords start count 0 511 16 1 (fun i => [bookingItem s i]) s

end Sys2Proof.Machine
end

