-- ==== Sys2Proof/Machine/Berths.lean ====
section
/-! DEFINITION. The berth and low-water tables of the berth allocator: BERTH_PUT, BERTH_GET, TIDE_PUT and TIDE_GET (R2 to
R7, R21, R24). -/

namespace Sys2Proof.Machine

/-- R3, R98, R120: the FAR and the PDL are told of a berth's change to or from SERVICE. -/
def tellClass (berth : Nat) (old new : BerthClass) (s : State) : State :=
  if old = new then s
  else if new = .service then farEntitle berth s
  else if old = .service then closeBerthTaps berth .cls (farDepart berth s)
  else s

/-- R1: the fields of a row that are numbers are within their ranges. -/
def berthRowInRange (r : BerthRow) : Bool :=
  within 1 8 r.pontoon && within 20 1000 r.maxLoa && within 10 300 r.maxBeam && within 0 2000 r.depth &&
  within 0 1000000 r.fee

/-- R2, R3, R21: a berth's row is refused, or written whole with what follows from its class and its state. -/
def berthRow (i : Nat) (r : BerthRow) (s : State) : Except Status State :=
  match valueOf berthClasses r.cls, valueOf berthStates r.state with
  | some cls, some state =>
    let old := (s.berth i).cls
    if !within 0 255 i || !berthRowInRange r then .error .range
    else if cls = .service ∧ old ≠ .service ∧ s.calendar i ≠ [] then .error .state
    else if state = .blocked ∧ (s.arrivedOn i).isSome then .error .state
    else
      let t := tellClass i old cls (s.setBerth i
        { pontoon := r.pontoon, cls, visitorOk := r.visitorOk && decide (cls = .resident), state, maxLoa := r.maxLoa,
          maxBeam := r.maxBeam, depth := r.depth, fee := r.fee })
      .ok (if state = .blocked then moveAll i t else t)
  | _, _ => .error .range

/-- R191: a multi-row put has 1 to 15 rows, or 1 to 16 where it carries no start item; another number does not fit it. -/
def multiPut {α : Type} (most start : Nat) (row : Nat → α → State → Except Status State) (rows : List (PutItem α))
    (s : State) : State × Answer :=
  if within 1 most rows.length then putRows row start 0 rows s else refuse .badItem s

/-- R2. -/
def berthPut (start : Nat) (rows : List (PutItem BerthRow)) (s : State) : State × Answer :=
  multiPut 15 start berthRow rows s

/-- R4: the entries, with the nightly fees in the result item (R209), or one berth's calendar. -/
def berthGet (query : BerthQuery) (s : State) : State × Answer :=
  match query with
  | .entries start count =>
    if within 0 255 start && within 1 16 count then
      let rows := getRange start count 255 1
      accept (resultItem (.u 1 rows.length :: rows.map fun i => .u 4 (s.berth i).fee) :: rows.map (berthItem s)) s
    else refuse .range s
  | .calendar berth position =>
    if within 0 255 berth then
      let l := ((s.calendar berth).drop position).take 16
      accept [resultItem (.u 1 l.length :: l.flatMap fun e => [.u 2 e.1, .u 2 e.2.arr, .u 2 e.2.dep])] s
    else refuse .range s

/-! ## Low water -/

/-- The capacity of the low-water table (R5). -/
def tideCapacity : Nat := 64

/-- The table with a day's entry put in its place (R5). -/
def tideInsert (day : Nat) (height : Int) (l : List (Nat × Int)) : List (Nat × Int) := tableInsert l day height

/-- R6: a row against the table as the rows before it left it. -/
def tideRow (_ : Nat) (r : TideRow) (s : State) : Except Status State :=
  let l := s.bal.tides
  let present := l.any fun e => decide (e.1 = r.day)
  if !within s.clk.lastRoll 65535 r.day then .error .range
  else
    match r.height with
    | none => .ok (s.setTides (tableErase l r.day))
    | some h =>
      if h < -300 ∨ 800 < h then .error .range
      else if present ∨ l.length < tideCapacity then .ok (s.setTides (tideInsert r.day h l))
      else
        match l with
        | (oldest, _) :: rest =>
          if oldest < r.day then .ok (s.setTides (tideInsert r.day h rest)) else .error .full
        | [] => .ok (s.setTides (tideInsert r.day h l))

/-- R6. -/
def tidePut (rows : List (PutItem TideRow)) (s : State) : State × Answer := multiPut 16 0 tideRow rows s

/-- R7: the entries at or after a day, with the table's size and the default low water. -/
def tideGet (start count : Nat) (s : State) : State × Answer :=
  if within 0 65535 start && within 1 16 count then
    let l := (s.bal.tides.filter fun e => decide (start ≤ e.1)).take (min count 14)
    accept (resultItem [.u 1 l.length, .u 1 s.bal.tides.length, .i 2 s.bal.lowWater] :: l.map tideItem) s
  else refuse .range s

/-- R8, R72: the entries earlier than a day are removed. -/
def purgeTides (day : Nat) (s : State) : State := s.setTides (s.bal.tides.filter fun e => decide (day ≤ e.1))

end Sys2Proof.Machine
end

