-- ==== Sys2Proof/Machine/Ledger.lean ====
section
/-! DEFINITION. The requests of the account unit: ACCT_OPEN, ACCT_PAY, ACCT_LIMIT, ACCT_CLOSE, ACCT_GET, TARIFF_PUT and
TARIFF_GET (R52 to R56, R61). -/

namespace Sys2Proof.Machine

/-- The largest credit limit (R47). -/
def limitMax : Nat := 10000000

/-- R52. -/
def acctOpen (account limit : Nat) (s : State) : State × Answer :=
  checked
    [(!within 0 255 account || !within 0 limitMax limit, .range), (decide (account = 0), .state),
     (decide ((s.account account).state ≠ .free), .state)]
    (fun s => accept [resultItem [.u 1 account]]
      (s.setAccount account { state := .opened, balance := 0, limit, earmark := 0 })) s

/-- R53: the posting met a bound of R49. -/
def meetsBound (balance amount : Int) : Bool := decide (saturate (balance + amount) ≠ balance + amount)

/-- R53. -/
def acctPay (account : Nat) (amount : Int) (s : State) : State × Answer :=
  checked
    [(!within 0 255 account || decide (amount < -balanceBound) || decide (balanceBound < amount), .range),
     (decide ((s.account account).state = .free), .noSuch)]
    (fun s =>
      let balance := (s.account account).balance
      let t := post account amount s
      accept [resultItem [.i 6 (if amount = 0 then balance else saturate (balance + amount)),
        enumField acctStates (t.account account).state, .u 1 (bitField [decide (amount ≠ 0) && meetsBound balance amount])]] t)
    s

/-- R54. -/
def acctLimit (account limit : Nat) (s : State) : State × Answer :=
  checked
    [(!within 0 255 account || !within 0 limitMax limit, .range), (decide (account = 0), .state),
     (decide ((s.account account).state = .free), .noSuch)]
    (fun s =>
      let t := evaluateAndTell account (s.setAccount account { s.account account with limit })
      accept [resultItem [enumField acctStates (t.account account).state]] t)
    s

/-- R55. -/
def acctClose (account : Nat) (s : State) : State × Answer :=
  checked
    [(!within 0 255 account, .range), (decide (account = 0), .state), (decide ((s.account account).state = .free), .noSuch),
     (decide (s.openBookings account ≠ 0), .state), (decide ((s.account account).earmark ≠ 0), .state)]
    (fun s =>
      let k := s.account account
      let t := s.setAccount account coldAccount
      accept [resultItem [.i 6 k.balance]] (if k.state = .held then tellHold account t else t))
    s

/-- R56. -/
def acctGet (start count : Nat) (s : State) : State × Answer :=
  getRecords start count 0 255 16 1 (fun i => [accountItem s i]) s

/-- R61: a tariff set is written. -/
def tariffRow (i : Nat) (r : TariffRow) (s : State) : Except Status State :=
  if within 0 3 i && within 0 65535 r.dayRate && within 0 65535 r.nightRate && within 0 65535 r.waterRate then
    .ok (s.setTariff i ⟨r.dayRate, r.nightRate, r.waterRate⟩)
  else .error .range

/-- R61. -/
def tariffPut (start : Nat) (rows : List (PutItem TariffRow)) (s : State) : State × Answer :=
  multiPut 15 start tariffRow rows s

/-- R61. -/
def tariffGet (start count : Nat) (s : State) : State × Answer :=
  getRecords start count 0 3 4 1 (fun i => [tariffItem s i]) s

end Sys2Proof.Machine
end

