-- ==== Sys2Proof/Machine/Fuel.lean ====
section
/-! DEFINITION. The fuel dock: the arithmetic of a sale (R142), authorisation (R141, R143, R145), the hose's events (R146 to
R150), completion (R152), start processing (R155), and the requests HOSE_PUT, HOSE_GET, HOSE_AUTH, HOSE_STOP, PRICE_PUT,
PRICE_GET, SALE_PEEK and SALE_TAKE. -/

namespace Sys2Proof.Machine

/-! ## The arithmetic of a sale -/

/-- R142 step 1: the amount of a volume at a price. -/
def amountOf (price volume : Nat) : Nat := (volume * price + 500) / 1000

/-- R142 step 4: the largest volume whose amount is at most M. -/
def volMax (price m : Nat) : Nat := ((m + 1) * 1000 - 500 + price - 1) / price - 1

/-- R138: the volume of a sale's pulses. -/
def volumeOf (pulses p10 : Nat) : Nat := pulses * 1000 / p10

/-- R142 step 2: the ceiling C. -/
def ceiling (preset prepaid : Option Nat) (capAmount : Nat) : Nat :=
  min (preset.getD capAmount) (min (prepaid.getD capAmount) capAmount)

/-- R58, R142 step 3: M of a sale on account. -/
def earmarkFor (account : Nat) (k : Account) (c : Nat) : Nat := if account = 0 then c else min c k.available.toNat

/-! ## Hose state -/

/-- A hose takes a state, its stray count and stray flag cleared (R143, R146). -/
def enterHose (hose : Nat) (state : HoseState) (sale authSince flowSince : Option Nat) (s : State) : State :=
  s.setHose hose
    { state, lifted := (s.hose hose).lifted, sale, authSince, flowSince, stray := 0, strayReported := false }

/-- The queue's record of a number. -/
def State.sale (s : State) (number : Nat) : Option Sale := s.fdc.sales.find? fun x => decide (x.number = number)

/-- A record of the queue is changed. -/
def updateSale (number : Nat) (f : Sale → Sale) (s : State) : State :=
  s.setSales (s.fdc.sales.map fun x => if x.number = number then f x else x)

/-- The record of a hose's current sale. -/
def State.hoseSale (s : State) (hose : Nat) : Option Sale := (s.hose hose).sale.bind s.sale

/-- R147, R148: the fuelling state a volume gives. -/
def flowState (volume volLimit slowDown : Nat) : HoseState :=
  if volLimit ≤ volume then .closing else if volLimit - slowDown ≤ volume then .slow else .fuelling

/-- The end reason LIMIT is set at a closure by volume (R147, R148). -/
def setReason (number : Nat) (reason : EndReason) (s : State) : State :=
  updateSale number (fun x => { x with reason := some reason }) s

/-- R147: a hose enters the fuelling states with its sale. -/
def enterFuelling (hose : Nat) (x : Sale) (s : State) : State :=
  let st := flowState 0 x.volLimit (s.hoseCfg hose).slowDown
  let t := enterHose hose st (some x.number) none (some s.uptime) s
  if st = .closing then setReason x.number .limit t else t

/-! ## Completion -/

/-- R152 step 1: the record of a completed sale. -/
def finished (x : Sale) (reason : EndReason) (at_ : Stamp) : Sale :=
  let amount := amountOf x.price x.volume
  let charged := min amount x.maxAmount
  { x with
    reason := some reason, endTime := some at_, overrun := some (x.volume - x.volLimit), amount := some amount,
    charged := some charged, refund := x.prepaid.map (· - charged), done := true }

/-- R59: the ACU ends a sale's earmark and posts its charged sum; a HOUSE sale is posted to account 0. -/
def handToAcu (x : Sale) (charged : Nat) (s : State) : State :=
  match x.mode, x.account with
  | .account, some a =>
    post a (-(charged : Int)) (s.setAccount a { s.account a with earmark := (s.account a).earmark - x.maxAmount })
  | .house, _ => post 0 (-(charged : Int)) s
  | _, _ => s

/-- R152 step 5: SALE(DONE) of a completed record. -/
def saleNotice (x : Sale) : NoticeBody :=
  .saleDone x.number x.hose x.mode x.account (x.reason.getD .nozzle) x.volume (x.overrun.getD 0) (x.amount.getD 0)
    (x.charged.getD 0) x.refund

/-- R152 steps 1 to 3. -/
def closeSale (x : Sale) (reason : EndReason) (s : State) : State :=
  let t := handToAcu x (min (amountOf x.price x.volume) x.maxAmount) s
  updateSale x.number (fun _ => finished x reason t.now) t

/-- R152: a hose's sale completes, its reason the one a closure has set or otherwise the one given, and the hose takes a
state. -/
def endSale (hose : Nat) (state : HoseState) (reason : EndReason) (s : State) : State :=
  match s.hoseSale hose with
  | none => enterHose hose state none none none s
  | some x =>
    let r := x.reason.getD reason
    (enterHose hose state none none none (closeSale x r s)).raise (saleNotice (finished x r s.now))

/-! ## Authorisation -/

/-- What an authorisation asks for (R141, R145). -/
structure Auth where
  hose : Nat
  mode : SaleMode
  account : Option Nat
  prepaid : Option Nat
  presetKind : PresetKind
  presetValue : Option Nat
  cred : Option Nat

/-- R141 check 1: the fields of the mode. -/
def modeFields (mode : SaleMode) (account prepaid : Option Nat) : Bool :=
  match mode, account, prepaid with
  | .account, some a, none => within 0 255 a
  | .prepaid, none, some p => within 1 10000000 p
  | .house, none, none => true
  | _, _, _ => false

/-- R141 check 1: the preset. -/
def presetFields (kind : PresetKind) (value : Option Nat) : Bool :=
  match kind, value with
  | .none, none => true
  | .amount, some v => within 1 10000000 v
  | .volume, some v => within 1 200000 v
  | _, _ => false

/-- R141 checks 2 to 7; `closed` is the further ground of check 3 (R145). -/
def authChecks (a : Auth) (closed : Bool) (s : State) : List (Bool × Status) :=
  let acct := a.account.getD 0
  let k := s.account acct
  let onAccount := decide (a.mode = .account)
  let st := (s.hose a.hose).state
  [(decide (st ≠ .idle) && decide (st ≠ .calling), .state),
   (decide (s.price (s.hoseCfg a.hose).grade = 0) || closed, .range),
   (decide (16 ≤ s.fdc.sales.length), .full),
   (onAccount && decide (k.state = .free), .noSuch),
   (onAccount && decide (k.state = .held), .held),
   (onAccount && decide (acct ≠ 0) && decide (k.available ≤ 0), .credit)]

/-- R142, R143: the record of an accepted authorisation. -/
def newSale (a : Auth) (s : State) : Sale :=
  let c := s.hoseCfg a.hose
  let price := s.price c.grade
  let presetAmount := if a.presetKind = .amount then a.presetValue else none
  let top := ceiling presetAmount a.prepaid (amountOf price c.volumeCap)
  let m := match a.mode with
    | .account => earmarkFor (a.account.getD 0) (s.account (a.account.getD 0)) top
    | .prepaid | .house => top
  let presetVolume := if a.presetKind = .volume then a.presetValue.getD c.volumeCap else c.volumeCap
  { number := s.fdc.nextSale, hose := a.hose, grade := c.grade, price, p10 := c.p10, mode := a.mode, account := a.account,
    prepaid := a.prepaid, cred := a.cred, presetKind := a.presetKind, presetValue := a.presetValue, maxAmount := m,
    volLimit := min presetVolume (min (volMax price m) c.volumeCap), startTime := s.now, endTime := none, pulses := 0,
    volume := 0, overrun := none, amount := none, charged := none, refund := none, reason := none, done := false }

/-- R138: the sale number after one. -/
def nextNumber (n : Nat) : Nat := if n ≥ 65535 then 1 else n + 1

/-- R58: M is added to the account's earmark total. -/
def addEarmark (x : Sale) (s : State) : State :=
  match x.mode, x.account with
  | .account, some a => s.setAccount a { s.account a with earmark := (s.account a).earmark + x.maxAmount }
  | _, _ => s

/-- R143: the effects of an accepted authorisation. -/
def authorise (a : Auth) (s : State) : State :=
  let x := newSale a s
  let t := addEarmark x s
  let u := { t with fdc := { t.fdc with sales := t.fdc.sales ++ [x], nextSale := nextNumber t.fdc.nextSale } }
  if (s.hose a.hose).state = .calling then enterFuelling a.hose x u
  else enterHose a.hose .authorised (some x.number) (some s.uptime) none u

/-- R141: HOSE_AUTH. -/
def hoseAuth (r : AuthRequest) (s : State) : State × Answer :=
  if !s.fdc.ready then refuse .state s
  else
    match valueOf saleModes r.mode, valueOf presetKinds r.presetKind with
    | some mode, some kind =>
      let a : Auth := ⟨r.hose, mode, r.account, r.prepaid, kind, r.presetValue, none⟩
      checked
        ((!(within 1 4 r.hose && modeFields mode r.account r.prepaid && presetFields kind r.presetValue), .range) ::
          authChecks a false s)
        (fun s =>
          let x := newSale a s
          let t := authorise a s
          accept [resultItem [.u 2 x.number, .u 4 x.maxAmount, .u 4 x.volLimit, enumField hoseStates (t.hose r.hose).state]] t)
        s
    | _, _ => refuse .range s

/-- R145: what a self-serve offer asks for. -/
def offerAuth (o : Offer) (s : State) : Auth :=
  ⟨o.hose, .account, o.account, none, .amount, some s.fdc.cap, some o.cred⟩

/-- R145: the refusal of an offer, if there is one. -/
def State.offerRefused (s : State) (o : Offer) : Option Status :=
  if !s.fdc.ready then some .state
  else firstFailing
    ((!(within 1 4 o.hose && modeFields .account o.account none), .range) ::
      authChecks (offerAuth o s) (decide (s.fdc.cap = 0)) s)

/-- R183: the terminal takes the outcome: the offer is no longer pending. -/
def endOffer (s : State) : State := s.setFuel { s.gtc.fuel with offer := none }

/-- R183: the credential's last use time, while its record is not FREE; a record rewritten since the offer takes it too (log
entry 27). -/
def touchCred (cred : Nat) (s : State) : State :=
  if (s.cred cred).state = .free then s else s.setCred cred { s.cred cred with lastUse := some s.now }

/-- R145, R183: the FDC takes the offer and the GTC its outcome. -/
def selfServeOffer (s : State) : State :=
  match s.gtc.fuel.offer with
  | none => s
  | some o =>
    match s.offerRefused o with
    | some code => (lampRed (endOffer s)).raise (.gateFuel o.cred o.hose code none)
    | none =>
      let x := newSale (offerAuth o s) s
      (lampGreen (endOffer (touchCred o.cred (authorise (offerAuth o s) s)))).raise
        (.gateFuel o.cred o.hose .ok (some x.number))

/-! ## Events of a hose -/

/-- The nozzle reading is kept (R146). -/
def keepNozzle (hose : Nat) (lifted : Bool) (s : State) : State := s.setHose hose { s.hose hose with lifted }

/-- R146: a lift. -/
def nozzleLift (hose : Nat) (s : State) : State :=
  let t := keepNozzle hose true s
  match (s.hose hose).state with
  | .idle => (enterHose hose .calling none none none t).raise (.hoseCalling hose (s.hoseCfg hose).grade)
  | .authorised =>
    match t.hoseSale hose with
    | some x => enterFuelling hose x t
    | none => t
  | .calling | .fuelling | .slow | .closing | .hangWait => t

/-- R146: a hang. -/
def nozzleHang (hose : Nat) (s : State) : State :=
  let t := keepNozzle hose false s
  match (s.hose hose).state with
  | .calling | .hangWait => enterHose hose .idle none none none t
  | .fuelling | .slow | .closing => endSale hose .idle .nozzle t
  | .idle | .authorised => t

/-- R149: a stray pulse. -/
def strayPulse (hose : Nat) (s : State) : State :=
  let h := s.hose hose
  let t := s.setHose hose { h with stray := min (h.stray + 1) 65535, strayReported := true }
  if h.strayReported then t else t.raise (.hoseStray hose h.state h.sale)

/-- R138: one more pulse. -/
def countPulse (n : Nat) : Nat := if n ≥ 4294967295 then Config.pulsesPastRange n else n + 1

/-- R148: a pulse of a sale moves a hose from state to state. -/
def pulseState (state : HoseState) (volume volLimit slowDown : Nat) : HoseState :=
  match state with
  | .fuelling => flowState volume volLimit slowDown
  | .slow => if volLimit ≤ volume then .closing else .slow
  | _ => state

/-- R148: a pulse of an OPEN sale. -/
def salePulse (hose : Nat) (x : Sale) (s : State) : State :=
  let h := s.hose hose
  let pulses := countPulse x.pulses
  let volume := volumeOf pulses x.p10
  let st := pulseState h.state volume x.volLimit (s.hoseCfg hose).slowDown
  let t := updateSale x.number (fun y => { y with pulses, volume }) s
  if st = h.state then t.setHose hose { h with flowSince := some s.uptime }
  else
    let u := enterHose hose st h.sale none (some s.uptime) t
    if st = .closing then setReason x.number .limit u else u

/-- R148, R149: a pulse. -/
def pulse (hose : Nat) (s : State) : State :=
  match (s.hose hose).state with
  | .fuelling | .slow | .closing =>
    match s.hoseSale hose with
    | some x => salePulse hose x s
    | none => strayPulse hose s
  | .idle | .calling | .authorised | .hangWait => strayPulse hose s

/-- R150: the authorisation timeout. -/
def authTimeout (hose : Nat) (s : State) : State :=
  if (s.hose hose).state = .authorised then endSale hose .idle .authTimeout s else s

/-- R150, R151: the valves of a FUELLING or SLOW hose close with a reason, and the no-flow timer restarts. -/
def closeHose (hose : Nat) (reason : EndReason) (s : State) : State :=
  let h := s.hose hose
  let t := enterHose hose .closing h.sale none (some s.uptime) s
  match h.sale with
  | some n => setReason n reason t
  | none => t

/-- R150: the no-flow timeout. -/
def noFlow (hose : Nat) (s : State) : State :=
  match (s.hose hose).state with
  | .fuelling | .slow => closeHose hose .noFlow s
  | .closing => endSale hose .hangWait .noFlow s
  | .idle | .calling | .authorised | .hangWait => s

/-- R155 step 1: what the completion of an OPEN record with reason POWER does outside the queue: its charge and its earmark
go to the ACU, and SALE(DONE) is raised. -/
def powerSale (x : Sale) (s : State) : State :=
  (handToAcu x (min (amountOf x.price x.volume) x.maxAmount) s).raise (saleNotice (finished x .power s.now))

/-- R155 step 2: a hose takes its start values, its nozzle read. -/
def startHoseNow (hose : Nat) (s : State) : State :=
  s.setHose hose (if s.nozzle hose then startHoseLifted else startHose)

/-- R155: the FDC's start processing: each OPEN record is completed with reason POWER, whatever reason it held. -/
def fdcStart (s : State) : State :=
  let t := ((s.fdc.sales.filter fun x => !x.done).foldl (fun t x => powerSale x t) s).setSales
    (s.fdc.sales.map fun x => if x.done then x else finished x .power s.now)
  let u := [1, 2, 3, 4].foldl (fun u h => startHoseNow h u) t
  { u with fdc := { u.fdc with ready := true } }

/-! ## Requests -/

/-- R135: a hose's row. -/
def hoseRow (i : Nat) (r : HoseRow) (s : State) : Except Status State :=
  if !s.fdc.ready then .error .state
  else if !(within 1 4 i && within 1 2 r.grade && within 1000 60000 r.p10 && within 0 500 r.slowDown &&
      within 10 600 r.authTimeout && within 10 300 r.noFlowTimeout && within 100 200000 r.volumeCap) then .error .range
  else if (s.hose i).state ≠ .idle then .error .state
  else .ok (s.setHoseCfg i ⟨r.grade, r.p10, r.slowDown, r.authTimeout, r.noFlowTimeout, r.volumeCap⟩)

/-- R135. -/
def hosePut (start : Nat) (rows : List (PutItem HoseRow)) (s : State) : State × Answer := multiPut 15 start hoseRow rows s

/-- R134: the main valve is open in FUELLING. -/
def HoseState.mainValve (k : HoseState) : Bool := decide (k = .fuelling)

/-- R134: the slow valve is open in FUELLING and SLOW. -/
def HoseState.slowValve (k : HoseState) : Bool := decide (k = .fuelling) || decide (k = .slow)

/-- Item 0x45: the hose, presence (bits 0 to 4 the sale number, its pulses, its volume, the authorisation timer, the no-flow
timer), and the fields of R135 in order, each optional field in its own place (R203); nozzle LIFTED 0, HUNG 1; valves bit 0
main, bit 1 slow; the stray count in two bytes (log entry 17). -/
def hoseItem (s : State) (i : Nat) : Item :=
  let c := s.hoseCfg i
  let h := s.hose i
  let x := s.hoseSale i
  ⟨0x45, [.u 1 i, presence 1 [h.sale.isSome, x.isSome, x.isSome, h.authSince.isSome, h.flowSince.isSome], .u 1 c.grade,
    .u 2 c.p10,
    .u 4 c.slowDown, .u 2 c.authTimeout, .u 2 c.noFlowTimeout, .u 4 c.volumeCap, enumField hoseStates h.state,
    .u 1 (if h.lifted then 0 else 1), .u 1 (bitField [h.state.mainValve, h.state.slowValve]), optField 2 h.sale,
    optField 4 (x.map (·.pulses)), optField 4 (x.map (·.volume)), optField 2 (h.authSince.map s.secsSince),
    optField 2 (h.flowSince.map s.secsSince), .u 2 h.stray]⟩

/-- R135. -/
def hoseGet (start count : Nat) (s : State) : State × Answer :=
  getRecords start count 1 4 4 1 (fun i => [hoseItem s i]) s

/-- R151: HOSE_STOP. -/
def hoseStop (hose : Nat) (s : State) : State × Answer :=
  if !s.fdc.ready then refuse .state s
  else if !within 1 4 hose then refuse .range s
  else
    let reply := [resultItem [optField 2 (s.hose hose).sale]]
    match (s.hose hose).state with
    | .authorised => accept reply (endSale hose .idle .stop s)
    | .fuelling | .slow => accept reply (closeHose hose .stop s)
    | .closing => accept reply (endSale hose .hangWait .stop s)
    | .idle | .calling | .hangWait => refuse .state s

/-- R136: a grade's price. -/
def priceRow (grade : Nat) (price : Nat) (s : State) : Except Status State :=
  if within 1 2 grade && within 0 99999 price then .ok (s.setPrice grade price) else .error .range

/-- R136. -/
def pricePut (start : Nat) (rows : List (PutItem Nat)) (s : State) : State × Answer := multiPut 15 start priceRow rows s

/-- R136: both prices, item 0x46 each. -/
def priceGet (s : State) : State × Answer :=
  accept ([1, 2].map fun g => ⟨0x46, [.u 1 g, .u 4 (s.price g)]⟩) s

/-- The counts of OPEN and DONE records that a sale reply carries (R139, R140). -/
def saleCounts (s : State) : Item :=
  resultItem [.u 1 (s.fdc.sales.filter fun x => !x.done).length, .u 1 (s.fdc.sales.filter fun x => x.done).length]

/-- An accepted sale request's reply: the counts, and the record (R139, R140). -/
def saleReply (x : Option Sale) (s : State) : State × Answer := accept (saleCounts s :: (x.map saleItem).toList) s

/-- A refused SALE_PEEK's reply, which carries the counts too (R139, R206). -/
def refusePeek (code : Status) (s : State) : State × Answer := (s, ⟨code, 0, [saleCounts s]⟩)

/-- The oldest DONE record (R139). -/
def State.oldestDone (s : State) : Option Sale := s.fdc.sales.find? fun x => x.done

/-- R139. -/
def salePeek (number : Option Nat) (s : State) : State × Answer :=
  match number with
  | none => saleReply s.oldestDone s
  | some n =>
    if !within 1 65535 n then refusePeek .range s
    else
      match s.sale n with
      | some x => saleReply (some x) s
      | none => refusePeek .noSuch s

/-- A record leaves the queue, which keeps its order (R140). -/
def removeSale (number : Nat) (s : State) : State := s.setSales (s.fdc.sales.filter fun x => decide (x.number ≠ number))

/-- R140. -/
def saleTake (number : Option Nat) (s : State) : State × Answer :=
  match number with
  | none =>
    match s.oldestDone with
    | none => saleReply none s
    | some x => saleReply (some x) (removeSale x.number s)
  | some n =>
    if !within 1 65535 n then refuse .range s
    else
      match s.sale n with
      | none => refuse .noSuch s
      | some x => if x.done then saleReply (some x) (removeSale n s) else refuse .state s

end Sys2Proof.Machine
end

