-- ==== Sys2Proof/Machine/Gates.lean ====
section
/-! DEFINITION. The gate controller: doors (R163, R164, R176 to R179), keypads (R166 to R169), card reads (R170, R181),
presentations (R171 to R175), the fuel terminal (R181 to R183), and the requests on credentials and gates. -/

namespace Sys2Proof.Machine

/-! ## Doors -/

/-- R175, R176, R178: a release of a SECURE door. -/
def releaseDoor (gate : Nat) (cred : Option Nat) (dir : Direction) (passback : Bool) (s : State) : State :=
  s.setGate gate
    { s.gate gate with
      door := .released, attributed := cred, direction := some dir,
      releaseTimer := some ⟨s.uptime, (s.gateCfg gate).releaseTime⟩, passback }

/-- A door's state with its attribution cleared and no timer running (R176). -/
def settleDoor (gate : Nat) (door : DoorState) (s : State) : State :=
  s.setGate gate
    { door, contactOpen := (s.gate gate).contactOpen, attributed := none, direction := none, releaseTimer := none,
      heldTimer := none, passback := false }

/-- The held timer starts from 0 (R176, R164). -/
def State.heldFromNow (s : State) (gate : Nat) : Option Timer := some ⟨s.uptime, (s.gateCfg gate).heldTime⟩

/-- The contact as last taken (R163). -/
def keepContact (gate : Nat) (isOpen : Bool) (s : State) : State :=
  s.setGate gate { s.gate gate with contactOpen := isOpen }

/-- R177 step 1: the location a passage writes. -/
def writeLocation (cred : Option Nat) (dir : Direction) (s : State) : State :=
  match cred with
  | none => s
  | some c =>
    if (s.cred c).state = .free then s
    else
      match dir with
      | .entry => s.setCred c { s.cred c with location := .pontoon }
      | .exit => s.setCred c { s.cred c with location := .land }
      | .none => s

/-- R177 step 3: the arrival request of an entry passage. -/
def requestArrival (gate : Nat) (cred : Option Nat) (dir : Direction) (s : State) : State :=
  match cred with
  | none => s
  | some c =>
    match (s.cred c).booking with
    | none => s
    | some b =>
      if dir = .entry ∧ (s.cred c).autoArrive ∧ (s.booking b).state = .confirmed then
        s.setArrivals (s.bal.arrivals ++ [⟨b, c, gate⟩])
      else s

/-- R176, R177: an opening of a RELEASED door. -/
def passage (gate : Nat) (s : State) : State :=
  let g := s.gate gate
  let dir := g.direction.getD .none
  let t := s.setGate gate { g with door := .opened, releaseTimer := none, heldTimer := s.heldFromNow gate }
  requestArrival gate g.attributed dir
    ((writeLocation g.attributed dir t).raise (.gatePassage gate dir g.attributed g.passback))

/-- An opening of a door's contact (R176, R179). -/
def doorOpens (gate : Nat) (s : State) : State :=
  let t := keepContact gate true s
  if (s.gateCfg gate).mode = .openHold then
    (settleDoor gate .opened t).raise (.gatePassage gate .none none false)
  else
    match (s.gate gate).door with
    | .secure => (settleDoor gate .forcedAlarm t).raise (.gateForced gate)
    | .released => passage gate t
    | .opened | .heldAlarm | .forcedAlarm => t

/-- A closing of a door's contact (R176, R179). -/
def doorCloses (gate : Nat) (s : State) : State :=
  let t := keepContact gate false s
  match (s.gate gate).door with
  | .opened => settleDoor gate .secure t
  | .heldAlarm => (settleDoor gate .secure t).raise (.gateCleared gate .heldAlarm)
  | .forcedAlarm => (settleDoor gate .secure t).raise (.gateCleared gate .forcedAlarm)
  | .secure | .released => t

/-- R176: the release timer reaches the release time. -/
def releaseTimeout (gate : Nat) (s : State) : State :=
  if (s.gate gate).door = .released then settleDoor gate .secure s else s

/-- R176: the held timer reaches the held time. -/
def heldTimeout (gate : Nat) (s : State) : State :=
  let g := s.gate gate
  if g.door = .opened ∧ g.heldTimer.isSome then
    (s.setGate gate { g with door := .heldAlarm, heldTimer := none }).raise (.gateHeld gate)
  else s

/-- R178: the exit button. -/
def exitButton (gate : Nat) (s : State) : State :=
  if (s.gateCfg gate).mode ≠ .openHold ∧ (s.gate gate).door = .secure then releaseDoor gate none .exit false s else s

/-- R164: the door after a change of mode. -/
def changeMode (gate : Nat) (old new : GateMode) (s : State) : State :=
  let g := s.gate gate
  if old = new then s
  else if new = .openHold then
    let t := settleDoor gate (if g.contactOpen then .opened else .secure) s
    match g.door with
    | .heldAlarm => t.raise (.gateCleared gate .heldAlarm)
    | .forcedAlarm => t.raise (.gateCleared gate .forcedAlarm)
    | .secure | .released | .opened => t
  else if old = .openHold then
    if g.contactOpen then
      let t := settleDoor gate .opened s
      t.setGate gate { t.gate gate with heldTimer := s.heldFromNow gate }
    else settleDoor gate .secure s
  else s

/-! ## Presentations -/

/-- R173 for a credential without a booking, and R181 check 5. -/
def State.windowRefusal (s : State) (c : Cred) : Option GateRefusal :=
  if c.validFrom.isNone ∧ c.validUntil.isNone then none
  else if !s.clk.isSet then some .notYet
  else if (c.validFrom.map fun t => stampBefore s.now t).getD false then some .notYet
  else if (c.validUntil.map fun t => !stampBefore s.now t).getD false then some .expired
  else none

/-- R173. -/
def State.validityRefusal (s : State) (c : Cred) : Option GateRefusal :=
  match c.booking with
  | none => s.windowRefusal c
  | some b =>
    let k := s.booking b
    match k.state with
    | .arrived => none
    | .confirmed =>
      if !s.clk.isSet then some .notYet
      else if s.clk.day < k.arr then some .notYet
      else if k.dep ≤ s.night then some .expired
      else none
    | .unplaced => some .noBerth
    | .free | .departed | .cancelled | .noShow => some .expired

/-- R172 check 5: the gate is in the gate set, or is a berth gate of the credential. -/
def State.gateAllowed (s : State) (gate : Nat) (c : Cred) : Bool :=
  c.gateSet.testBit (gate - 1) ||
  (c.berthGates &&
    match c.booking.bind fun b => (s.booking b).berth with
    | some berth => decide ((s.gateCfg gate).pontoon = (s.berth berth).pontoon)
    | none => false)

/-- R172 check 6: the credential's account is on HOLD. -/
def State.onHold (s : State) (c : Cred) : Bool :=
  match s.credAccount c with
  | some a => decide ((s.account a).state = .held)
  | none => false

/-- R172: the refusal of an identified presentation, if there is one. -/
def State.entryRefusal (s : State) (gate : Nat) (c : Cred) : Option GateRefusal :=
  if (s.gate gate).door ≠ .secure then some .busy
  else if (s.gateCfg gate).mode = .lockdown then some .lockdown
  else if c.state = .suspended then some .suspended
  else
    match s.validityRefusal c with
    | some r => some r
    | none =>
      if !s.gateAllowed gate c then some .gate
      else if s.onHold c then some .held
      else if (s.gateCfg gate).antiPassback = .hard ∧ c.location = .pontoon then some .passback
      else none

/-- R175: a granted presentation. -/
def grantEntry (gate cred : Nat) (s : State) : State :=
  let c := s.cred cred
  let flag := decide ((s.gateCfg gate).antiPassback = .soft) && decide (c.location = .pontoon)
  touchCred cred (releaseDoor gate (some cred) .entry flag s)

/-- R171, R172, R175: an identified presentation at a gate. A gate in OPEN_HOLD ignores it; the failure count, which R169 gives
for submissions, is cleared by a submission alone, before it comes here (log entry 51). -/
def present (gate cred : Nat) (reader : Reader) (s : State) : State :=
  if (s.gateCfg gate).mode = .openHold then s
  else
    match s.entryRefusal gate (s.cred cred) with
    | some reason => s.raise (.gateRefused gate reader (some cred) reason false)
    | none => grantEntry gate cred s

/-! ## Keypads -/

/-- R169: a lockout begins. -/
def lockOut (terminal : Nat) (s : State) : State :=
  let t := clearBuffer terminal (dropCard terminal s)
  t.setTerminal terminal { t.terminal terminal with failures := 0, lockoutSince := some t.uptime }

/-- R169: a failed submission; the fifth locks the terminal out. -/
def failSubmission (terminal : Nat) (s : State) : State × Bool :=
  let n := (s.terminal terminal).failures + 1
  if n ≥ 5 then (lockOut terminal s, true)
  else (s.setTerminal terminal { s.terminal terminal with failures := n }, false)

/-- R169: a submission whose identification finds a credential. -/
def clearFailures (terminal : Nat) (s : State) : State :=
  s.setTerminal terminal { s.terminal terminal with failures := 0 }

/-- R169, R171: a failed submission with its notice. A submission against a pending card is reported at the reader that
took the card (the worked example of chapter 8; log entry 18), and one of digits alone at the keypad. -/
def refuseSubmission (terminal : Nat) (reader : Reader) (cred : Option Nat) (s : State) : State :=
  let r := failSubmission terminal s
  r.1.raise (.gateRefused terminal reader cred .unknown r.2)

/-- R171: a submission at a gate, the buffer already emptied. -/
def submitAtGate (gate : Nat) (pin : List Nat) (s : State) : State :=
  match (s.terminal gate).card with
  | some c =>
    let t := dropCard gate s
    if (t.cred c.cred).pin = some pin then present gate c.cred .entry (clearFailures gate t)
    else refuseSubmission gate .entry (some c.cred) t
  | none =>
    match s.credByPin pin with
    | some n => present gate n .keypad (clearFailures gate s)
    | none => refuseSubmission gate .keypad none s

/-- R182: the hose a submission names: exactly one digit, 1 to 4. -/
def hoseOf : List Nat → Option Nat
  | [d] => if within 1 4 d then some d else none
  | _ => none

/-- R182: the pending card and the hose are offered to the FDC. -/
def makeOffer (c : PendingCard) (hose : Nat) (s : State) : State :=
  let t := dropCard 7 s
  t.setFuel { t.gtc.fuel with window := .none, offer := some ⟨c.cred, hose, s.credAccount (s.cred c.cred)⟩ }

/-- R182: a submission in the PIN window. -/
def submitPin (c : PendingCard) (pin : List Nat) (s : State) : State :=
  if (s.cred c.cred).pin = some pin then
    let t := clearFailures 7 s
    (t.setTerminal 7 { t.terminal 7 with card := some { c with since := t.uptime } }).setFuel { t.gtc.fuel with window := .hose }
  else lampRed (refuseSubmission 7 .entry (some c.cred) (dropCard 7 s))

/-- R182: a submission at terminal 7, the buffer already emptied. -/
def submitAtDock (digits : List Nat) (s : State) : State :=
  match s.gtc.fuel.window, (s.terminal 7).card with
  | .pin, some c => submitPin c digits s
  | .hose, some c =>
    match hoseOf digits with
    | some hose => makeOffer c hose s
    | none => s
  | _, _ => s

/-- R168: the buffer's contents are submitted, and the buffer is emptied in the same step. -/
def submit (terminal : Nat) (s : State) : State :=
  let digits := (s.terminal terminal).buffer
  let t := clearBuffer terminal s
  if digits = [] then s else if terminal = 7 then submitAtDock digits t else submitAtGate terminal digits t

/-- R168: a digit. -/
def takeDigit (terminal digit : Nat) (s : State) : State :=
  let t := s.terminal terminal
  s.setTerminal terminal
    { t with buffer := if t.buffer.length < 8 then t.buffer ++ [digit] else t.buffer, keySince := some s.uptime }

/-- R168: a key event is taken; keys 0 to 9 are digits, 10 is `*`, 11 is `#`. -/
def takeKey (terminal key : Nat) (s : State) : State :=
  if (s.terminal terminal).lockoutSince.isSome then s
  else if terminal = 7 ∧ s.gtc.fuel.offer.isSome then s
  else if key < 10 then takeDigit terminal key s
  else if key = 10 then clearBuffer terminal (dropCard terminal s)
  else submit terminal s

/-- The oldest waiting key event of a terminal and key leaves the list of those accepted (R167). -/
def forgetKey (terminal key : Nat) (s : State) : State :=
  { s with gtc := { s.gtc with keyEvents := s.gtc.keyEvents.erase (terminal, key) } }

/-- R168: KEY_EVENT. -/
def keyEvent (terminal key : Nat) (s : State) : State := takeKey terminal key (forgetKey terminal key s)

/-- R168: the inter-key timer reaches 10 s. -/
def interKeyTimeout (terminal : Nat) (s : State) : State :=
  if (s.terminal terminal).keySince.isSome then clearBuffer terminal s else s

/-- R169: the lockout timer runs out. -/
def lockoutExpiry (terminal : Nat) (s : State) : State :=
  s.setTerminal terminal { s.terminal terminal with lockoutSince := none }

/-- R167: the scanner's move on an accepted reading, and its key event. -/
def scannerMove (k : Scanner) (r : KeyReading) : Scanner × Option Nat :=
  match k, r with
  | .idle, .one n => (.key n, some n)
  | .key m, .one n => if m = n then (.key m, none) else (.key n, some n)
  | .key _, .none => (.idle, none)
  | .idle, .multi => (.multi, none)
  | .key _, .multi => (.multi, none)
  | .multi, .none => (.idle, none)
  | .multi, .one _ => (.multi, none)
  | .idle, .none => (.idle, none)
  | .multi, .multi => (.multi, none)

/-- R167: a full scan. A reading seen in 3 consecutive full scans is the accepted one; the count of equal scans stops at 3
(log entry 52). -/
def fullScan (terminal : Nat) (r : KeyReading) (s : State) : State :=
  let t := s.terminal terminal
  let n := if r = t.reading then min (t.equalScans + 1) 3 else 1
  let m := if n ≥ 3 then scannerMove t.scanner r else (t.scanner, none)
  let u := s.setTerminal terminal { t with reading := r, equalScans := n, scanner := m.1 }
  match m.2 with
  | some k => { u with gtc := { u.gtc with keyEvents := u.gtc.keyEvents ++ [(terminal, k)] } }
  | none => u

/-! ## Card reads -/

/-- R170 rule 1: the token is held by the gate's attributed credential while the door is RELEASED or OPEN. -/
def State.isRepeat (s : State) (gate token : Nat) : Bool :=
  let g := s.gate gate
  (decide (g.door = .released) || decide (g.door = .opened)) &&
  match g.attributed with
  | some c => decide ((s.cred c).token = some token)
  | none => false

/-- A card becomes the terminal's pending card (R170, R181). -/
def holdCard (terminal cred : Nat) (s : State) : State :=
  s.setTerminal terminal { s.terminal terminal with card := some ⟨cred, s.uptime⟩ }

/-- R170 rule 3: a read at an entry reader. An identified card alone leaves the failure count as it is (log entry 51). -/
def entryRead (gate token : Nat) (s : State) : State :=
  match s.credByToken token with
  | none => s.raise (.gateRefused gate .entry none .unknown false)
  | some n =>
    if (s.cred n).kind = .card then present gate n .entry s
    else if (s.terminal gate).lockoutSince.isSome then s.raise (.gateRefused gate .entry (some n) .busy false)
    else holdCard gate n s

/-- R178: a read at an exit reader, which needs no PIN: it is served during a lockout too, whatever the card's kind (log entry
53). -/
def exitRead (gate token : Nat) (s : State) : State :=
  let found := s.credByToken token
  if (s.gateCfg gate).mode = .openHold then s
  else if (s.gate gate).door ≠ .secure then s.raise (.gateRefused gate .exit found .busy false)
  else
    match found with
    | none => s.raise (.gateRefused gate .exit none .unknown false)
    | some n =>
      if (s.cred n).state = .suspended then s.raise (.gateRefused gate .exit (some n) .suspended false)
      else touchCred n (releaseDoor gate (some n) .exit false s)

/-- R181: a refusal at terminal 7. -/
def refuseDock (cred : Option Nat) (reason : GateRefusal) (s : State) : State :=
  lampRed (s.raise (.gateRefused 7 .entry cred reason false))

/-- R181: the refusal of a card found at terminal 7, if there is one. -/
def State.dockRefusal (s : State) (c : Cred) : Option GateRefusal :=
  if c.state = .suspended then some .suspended
  else if c.fuel = false ∨ (s.credAccount c).isNone then some .gate
  else
    match (if c.booking.isNone then s.windowRefusal c else none) with
    | some r => some r
    | none => if s.onHold c then some .held else none

/-- R181: a card read at terminal 7; a read while a window is open ends that window. -/
def dockRead (token : Nat) (s : State) : State :=
  if (s.terminal 7).lockoutSince.isSome ∨ s.gtc.fuel.offer.isSome then refuseDock (s.credByToken token) .busy s
  else
    let t := dropCard 7 s
    match t.credByToken token with
    | none => refuseDock none .unknown t
    | some n =>
      match t.dockRefusal (t.cred n) with
      | some r => refuseDock (some n) r t
      | none =>
        let u := holdCard 7 n t
        u.setFuel { u.gtc.fuel with window := if (t.cred n).kind = .card then .hose else .pin }

/-- R170: a card read. -/
def cardRead (terminal : Nat) (exitReader : Bool) (token : Nat) (s : State) : State :=
  if terminal = 7 then dockRead token (clearBuffer 7 s)
  else if exitReader ∧ (s.gateCfg terminal).exitReader = false then s
  else
    let t := clearBuffer terminal s
    if t.isRepeat terminal token then t
    else if exitReader then exitRead terminal token t
    else entryRead terminal token t

/-- R170: the window of a pending card at a gate runs out. -/
def cardWindowExpiry (gate : Nat) (s : State) : State :=
  if (s.terminal gate).card.isSome then clearBuffer gate (dropCard gate s) else s

/-- R182: terminal 7's window runs out. -/
def fuelWindowExpiry (s : State) : State :=
  if s.gtc.fuel.window = .none then s else clearBuffer 7 (dropCard 7 s)

/-- R183: the lamp's time runs out. -/
def lampExpiry (s : State) : State := s.setFuel { s.gtc.fuel with lamp := .off }

/-- R163, R185: a gate takes its start values, judged by its contact. -/
def startGateNow (gate : Nat) (s : State) : State :=
  let t := s.setGate gate startGate
  if s.contact gate then doorOpens gate t else t

/-! ## Requests on credentials -/

/-- A time within its ranges (R69). -/
def stampInRange (t : Stamp) : Bool := within 0 65535 t.day && within 0 86399 t.sec

/-- R156: a PIN is 4 to 8 decimal digits. -/
def pinInRange (p : List Nat) : Bool := within 4 8 p.length && p.all (within 0 9)

/-- R158 check 1: the token and PIN a kind requires, and no other. -/
def kindFields (kind : CredKind) (r : CredRow) : Bool :=
  match kind with
  | .card => r.token.isSome && r.pin.isNone
  | .pin => r.token.isNone && r.pin.isSome
  | .cardPin => r.token.isSome && r.pin.isSome

/-- R158 check 1: both ends of a window are present and valid-from is not earlier. -/
def windowEmpty (r : CredRow) : Bool :=
  match r.validFrom, r.validUntil with
  | some a, some b => !stampBefore a b
  | _, _ => false

/-- R158 check 1, but for the codes. -/
def credInRange (i : Nat) (kind : CredKind) (r : CredRow) : Bool :=
  within 0 1023 i && (r.token.map (within 0 4294967295)).getD true && (r.pin.map pinInRange).getD true &&
  (r.booking.map (within 0 511)).getD true && (r.account.map (within 0 255)).getD true && within 0 63 r.gateSet &&
  (r.validFrom.map stampInRange).getD true && (r.validUntil.map stampInRange).getD true && kindFields kind r &&
  (r.booking.isSome || (!r.berthGates && !r.autoArrive)) &&
  (r.booking.isNone || (r.validFrom.isNone && r.validUntil.isNone)) && !windowEmpty r

/-- R157, R158 check 4: another record that is not FREE holds the token, or, for kind PIN, the PIN. -/
def State.credConflict (s : State) (i : Nat) (kind : CredKind) (r : CredRow) : Bool :=
  s.gtc.creds.any fun e =>
    decide (e.1 ≠ i) && decide (e.2.state ≠ .free) &&
    ((r.token.isSome && decide (e.2.token = r.token)) ||
     (decide (kind = .pin) && decide (e.2.kind = .pin) && decide (e.2.pin = r.pin)))

/-- R158: the record a row writes over an old one. -/
def credRecord (old : Cred) (state : CredState) (kind : CredKind) (location : Option Location) (r : CredRow) : Cred :=
  { state, kind, token := r.token, pin := r.pin, booking := r.booking,
    account := if r.booking.isSome then none else r.account, gateSet := r.gateSet, berthGates := r.berthGates,
    fuel := r.fuel, autoArrive := r.autoArrive, validFrom := r.validFrom, validUntil := r.validUntil,
    location := location.getD (if old.state = .free then .unknown else old.location),
    lastUse := if old.state = .free then none else old.lastUse }

/-- A location byte: absent, a value, or beyond the last value (R203). -/
def locationOf (code : Option Nat) : Option (Option Location) :=
  match code with
  | none => some none
  | some n => (valueOf locations n).map some

/-- R158: a credential's row. -/
def credRow (i : Nat) (r : CredRow) (s : State) : Except Status State :=
  match valueOf credStates r.state, valueOf credKinds r.kind, locationOf r.location with
  | some state, some kind, some location =>
    if state = .free ∨ !credInRange i kind r then .error .range
    else
      let booked := r.booking.map fun b => (s.booking b)
      if (booked.map fun k => decide (k.state = .free)).getD false then .error .noSuch
      else if (booked.map fun k => k.isClosed).getD false then .error .state
      else if s.credConflict i kind r then .error .conflict
      else
        let t := endCredUse i s
        .ok (t.setCred i (credRecord (s.cred i) state kind location r))
  | _, _, _ => .error .range

/-- R158. -/
def credPut (start : Nat) (rows : List (PutItem CredRow)) (s : State) : State × Answer := multiPut 15 start credRow rows s

/-- R159. -/
def credGet (query : CredQuery) (s : State) : State × Answer :=
  match query with
  | .entries start count => getRecords start count 0 1023 16 1 (fun i => [credItem s i]) s
  | .token token =>
    match s.credByToken token with
    | some i => accept [resultItem [.u 1 1], credItem s i] s
    | none => refuse .noSuch s

/-- The reply of a request on one credential: its state after it (R160). -/
def credReply (cred : Nat) (s : State) : State × Answer :=
  accept [resultItem [enumField credStates (s.cred cred).state]] s

/-- R160. -/
def credSuspend (cred : Nat) (s : State) : State × Answer :=
  checked
    [(!within 0 1023 cred, .range), (decide ((s.cred cred).state = .free), .noSuch),
     (decide ((s.cred cred).state = .suspended), .state)]
    (fun s => credReply cred (s.setCred cred { s.cred cred with state := .suspended })) s

/-- R160. -/
def credResume (cred : Nat) (s : State) : State × Answer :=
  checked
    [(!within 0 1023 cred, .range), (decide ((s.cred cred).state = .free), .noSuch),
     (decide ((s.cred cred).state = .active), .state)]
    (fun s => credReply cred (s.setCred cred { s.cred cred with state := .active })) s

/-- R160. -/
def credFree (cred : Nat) (s : State) : State × Answer :=
  checked [(!within 0 1023 cred, .range)]
    (fun s => credReply cred (if (s.cred cred).state = .free then s else freeCred cred s)) s

/-! ## Requests on gates -/

/-- R162: a gate's row. -/
def gateRow (i : Nat) (r : GateRow) (s : State) : Except Status State :=
  match valueOf passbacks r.antiPassback with
  | some antiPassback =>
    if within 1 6 i && within 1 8 r.pontoon && within 1 30 r.releaseTime && within 10 600 r.heldTime then
      .ok (s.setGateCfg i
        { pontoon := r.pontoon, mode := (s.gateCfg i).mode, antiPassback, exitReader := r.exitReader,
          releaseTime := r.releaseTime, heldTime := r.heldTime })
    else .error .range
  | none => .error .range

/-- R162. -/
def gatePut (start : Nat) (rows : List (PutItem GateRow)) (s : State) : State × Answer := multiPut 15 start gateRow rows s

/-- R165. -/
def gateGet (start count : Nat) (s : State) : State × Answer :=
  getRecords start count 1 7 7 1 (fun n => [if n = 7 then fuelTerminalItem s else gateItem s n]) s

/-- R164. -/
def gateMode (gate mode : Nat) (s : State) : State × Answer :=
  match valueOf gateModes mode with
  | some new =>
    if within 1 6 gate then
      let old := (s.gateCfg gate).mode
      let t := changeMode gate old new (s.setGateCfg gate { s.gateCfg gate with mode := new })
      accept [resultItem [enumField doorStates (t.gate gate).door]] t
    else refuse .range s
  | none => refuse .range s

/-- R178: GATE_PULSE. -/
def gatePulse (gate : Nat) (s : State) : State × Answer :=
  checked
    [(!within 1 6 gate, .range), (decide ((s.gateCfg gate).mode = .openHold), .state),
     (decide ((s.gate gate).door ≠ .secure), .state)]
    (fun s => accept [] (releaseDoor gate none .none false s)) s

end Sys2Proof.Machine
end

