-- ==== Sys2Proof/Machine/Link.lean ====
section
/-! DEFINITION. The host link: the receiver (R188, R189, R192), taking a request (R190, R194), the transmit path (R195,
R196), and the requests STATUS and RESTART (R197, R199). -/

namespace Sys2Proof.Machine

/-! ## The receive buffer -/

/-- The receive buffer's capacity (R192). -/
def bufferSize : Nat := 2048

/-- The bytes of a frame (R187). -/
def frameSize (f : Frame) : Nat := 7 + f.body.length

/-- The bytes of the frame in reception, its sync byte among them (R192). -/
def receptionSize (h : Hlc) : Nat := if h.rxState = .hunt then 0 else h.rxBytes.length + 1

/-- The free space of the receive buffer (R192). -/
def freeSpace (h : Hlc) : Nat := bufferSize - (receptionSize h + (h.waiting.map frameSize).foldl (· + ·) 0)

/-- R188: the receiver takes one byte. The second part is the bytes to be scanned again, after an overlength or a failed
check. -/
def receiveByte (b : Byte) (h : Hlc) : Hlc × List Byte :=
  let bytes := h.rxBytes ++ [b]
  let len := beValue (bytes.take 2)
  let hunt : Hlc := { h with rxState := .hunt, rxBytes := [] }
  match h.rxState with
  | .hunt => if b = 0x7B#8 then ({ h with rxState := .header, rxBytes := [] }, []) else (h, [])
  | .header =>
    if bytes.length = 2 ∧ 1024 < len then (hunt, bytes)
    else if bytes.length < 4 then ({ h with rxBytes := bytes }, [])
    else ({ h with rxState := if len = 0 then .check else .body, rxBytes := bytes }, [])
  | .body => ({ h with rxState := if bytes.length < 4 + len then .body else .check, rxBytes := bytes }, [])
  | .check =>
    if bytes.length < 6 + len then ({ h with rxBytes := bytes }, [])
    else
      let covered := bytes.take (4 + len)
      if crc16 covered = beValue (bytes.drop (4 + len)) then
        let frame : Frame := ⟨beValue ((bytes.drop 2).take 1), beValue ((bytes.drop 3).take 1), covered.drop 4⟩
        ({ hunt with waiting := h.waiting ++ [frame] }, [])
      else (hunt, bytes)

/-- R188: bytes are taken in order, those to be scanned again before those that follow. Each scan again is of fewer bytes
than the frame it abandons had, so a number of bytes comes to an end within its square. -/
def receiveAll : Nat → List Byte → Hlc → Hlc
  | 0, _, h => h
  | _, [], h => h
  | fuel + 1, b :: rest, h =>
    let r := receiveByte b h
    receiveAll fuel (r.2 ++ rest) r.1

/-- R189: the frame in reception is abandoned, the bytes already received for it discarded. -/
def dropReception (h : Hlc) : Hlc := { h with rxState := .hunt, rxBytes := [] }

/-- R188, R189, R192: a character arrives from the host. -/
def hostByte (b : Byte) (stopError : Bool) (h : Hlc) : Hlc :=
  if stopError then dropReception h
  else if freeSpace h = 0 then dropReception h
  else receiveAll ((h.rxBytes.length + 2) * (h.rxBytes.length + 2)) [b] h

/-- R192, R201: the part's clear-to-send to the host. -/
def State.ctsOut (s : State) : Bool := s.running && decide (1040 ≤ freeSpace s.hlc)

/-! ## Taking requests -/

/-- R194: the next request may be taken: the slot is empty and no restart is awaited (R199). -/
def mayTake (h : Hlc) : Bool := h.slot.isNone && h.restart.isNone

/-- R194, R195: a request is handed to its owner and the reply placed in the slot, behind the notices its taking raised. -/
def takeRequest (kind tag : Nat) (owner : State → State × Answer) (s : State) : State :=
  let r := owner s
  let after := r.1.hlc.notices.length
  let behind := if s.hlc.notices.length < after then after else 0
  r.1.setHlc { r.1.hlc with slot := some ⟨⟨kind, tag, r.2⟩, behind⟩ }

/-- R188, R192: a request's frame joins those waiting, or, where the buffer has no room for it, is abandoned. -/
def joinWaiting (f : Frame) (s : State) : State :=
  if frameSize f ≤ freeSpace s.hlc then s.setHlc { s.hlc with waiting := s.hlc.waiting ++ [f] } else s

/-! ## Transmission -/

/-- R195, R196: the oldest notice begins to leave, taking the dropped flag, which is then cleared. -/
def sendNotice (h : Hlc) : Hlc :=
  match h.notices with
  | [] => h
  | n :: rest =>
    { h with
      tx := some (.notice n h.dropped), notices := rest, dropped := false,
      slot := h.slot.map fun x => { x with behind := x.behind - 1 } }

/-- R195: the choice of the transmit path when it is free to begin a frame. -/
def chooseFrame (h : Hlc) : Hlc :=
  match h.slot with
  | some x => if x.behind = 0 then { h with tx := some (.reply x.reply) } else sendNotice h
  | none => if h.restart.isSome then h else sendNotice h

/-- R193, R195: the transmit path begins a frame when it is free to: no frame is being sent and the host's clear-to-send
is asserted. -/
def pump (s : State) : State :=
  if s.running && s.sup.hostCts && s.hlc.tx.isNone then s.setHlc (chooseFrame s.hlc) else s

/-- R194, R195: a frame's last byte has been sent; a reply's sending empties the slot. -/
def frameSent (h : Hlc) : Hlc :=
  match h.tx with
  | none => h
  | some (.reply _) => { h with tx := none, slot := none }
  | some (.notice _ _) => { h with tx := none }

/-! ## Events and requests -/

/-- An event of the part: it is taken while the part runs (R200), and the transmit path then begins what it can. -/
def event (f : State → State) (s : State) : State := if s.running then pump (f s) else s

/-- A request's frame arrives whole and good: it is taken at once when nothing is before it, and otherwise waits (log entry
6). -/
def request (i : Instr) (owner : State → State × Answer) (s : State) : State :=
  match encodeRequest i with
  | none => s
  | some r =>
    event (fun s =>
      if mayTake s.hlc && s.hlc.waiting.isEmpty then takeRequest r.kind r.tag owner s
      else joinWaiting ⟨r.kind, r.tag, itemBytes r.items⟩ s) s

/-- R190: the answer to a frame whose kind is not a request kind. -/
def unknownKind (s : State) : State × Answer := refuse .unknownKind s

/-- R190: the answer to a request whose body is refused. -/
def badItem (s : State) : State × Answer := refuse .badItem s

/-- R197: STATUS; the free space in two bytes (log entry 17). -/
def statusRead (s : State) : State × Answer :=
  accept [resultItem [enumField causes s.hlc.cause, .u 1 (bitField [s.clk.isSet]), .u 1 s.hlc.notices.length,
    .u 1 (bitField [s.hlc.dropped]), .u 2 (freeSpace s.hlc), enumField speeds s.hlc.speed, .u 1 (bitField [s.sup.backup])]] s

/-- R199: RESTART: the reply is OK, and from the moment it is ready a restart is awaited. -/
def restartArm (s : State) : State × Answer := accept [] (s.setHlc { s.hlc with restart := some s.uptime })

end Sys2Proof.Machine
end

