-- ==== Sys2Proof/Machine/Sockets.lean ====
section
/-! DEFINITION. What the feeder arbiter takes from the pedestal line (R116, R117, R119, R123, R128, R132), hold-off expiry
(R131), and its requests: FEEDER_PUT, FEEDER_GET, FEEDER_BOTTOM, FEEDER_POLL, FEEDER_SHED, SOCKET_RELEASE, SOCKET_LOCK,
SOCKET_UNLOCK and SOCKET_REARM. -/

namespace Sys2Proof.Machine

/-! ## Reports -/

/-- What a report of a socket changes (R88 step 3), and whether it shows a trip. -/
structure Changes where
  plugGone : Bool
  tripAppeared : Bool
  closed : Bool
  opened : Bool
  plugArrived : Bool
  trip : Bool

/-- The changes between the last reported state and a report. -/
def changesFrom (old new : SocketReport) : Changes :=
  { plugGone := old.plug && !new.plug, tripAppeared := !old.trip && new.trip, closed := !old.contactor && new.contactor,
    opened := old.contactor && !new.contactor, plugArrived := !old.plug && new.plug, trip := new.trip }

/-- R123: the differences between the FAR's state and a report, at the first good reply after a loss. -/
def changesAll (new : SocketReport) : Changes :=
  { plugGone := !new.plug, tripAppeared := new.trip, closed := new.contactor, opened := !new.contactor,
    plugArrived := new.plug, trip := new.trip }

/-- R118, R119: release to TRIPPED with its notice. -/
def releaseTripped (socket : Nat) (s : State) : State :=
  release socket (landIn .tripped) (some (.socketTripped socket (s.feederOf socket))) s

/-- R119, plug gone. -/
def takePlugGone (socket : Nat) (s : State) : State :=
  let k := s.socket socket
  match k.state with
  | .granted | .energised => release socket (landIn .idle) none s
  | .pending => leavePending socket .idle s
  | .waiting | .shed | .tripped =>
    s.setSocket socket { k with state := .idle, shedSource := none, holdOffEnd := none }
  | .unassigned | .idle | .locked => s

/-- R116: a contactor confirmed closed. -/
def energise (socket : Nat) (s : State) : State :=
  (s.setSocket socket { s.socket socket with state := .energised, confirm := none }).raise
    (.socketEnergised socket (s.feederOf socket))

/-- R119: one socket of one report, by the first case that applies. -/
def takeChanges (socket : Nat) (c : Changes) (s : State) : State :=
  let k := s.socket socket
  if c.plugGone then takePlugGone socket s
  else if c.tripAppeared && k.supplied then releaseTripped socket s
  else if c.closed && decide (k.state = .granted) then
    if c.trip then releaseTripped socket s else energise socket s
  else if c.opened && decide (k.state = .energised) then
    s.setSocket socket { k with state := .granted, confirm := some 0 }
  else if c.plugArrived && decide (k.state = .idle) then reevaluate socket s
  else s

/-- R132 case 3: a socket found supplying is adopted. -/
def adopt (socket : Nat) (s : State) : State :=
  let f := s.feederOf socket
  let r := s.reservation socket
  let stamped := takeStamp s
  let t := stamped.1.setSocket socket
    { stamped.1.socket socket with
      state := .energised, reservation := some r, stamp := some stamped.2, confirm := none, bypass := 0 }
  (t.setFeeder f { t.feeder f with reserved := (t.feeder f).reserved + r }).raise (.socketAdopted socket f r)

/-- R132: one socket of an adoption hand-over, the search not yet run. -/
def adoptSocket (socket : Nat) (r : SocketReport) (s : State) : State :=
  let k := s.socket socket
  if !k.state.judgeable then s
  else if (s.socketCfg socket).berth = none then s.setSocket socket { k with state := .unassigned }
  else if r.plug && r.contactor && r.trip then s.setSocket socket { k with state := .tripped }
  else if r.plug && r.contactor && s.eligible socket && s.fits (s.feederOf socket) socket then adopt socket s
  else if s.judged socket = .pending then placePending socket s
  else s.setSocket socket { k with state := s.judged socket }

/-! ## Scan completion -/

/-- R117: one more counted scan of a GRANTED socket; at the second it is faulted. -/
def countScan (socket : Nat) (s : State) : State :=
  let k := s.socket socket
  if k.state ≠ .granted then s
  else if k.confirm.getD 0 + 1 ≥ 2 then
    release socket ⟨.locked, none, none, true⟩ (some (.socketFault socket (s.feederOf socket) .contactor)) s
  else s.setSocket socket { k with confirm := some (k.confirm.getD 0 + 1) }

/-- R117: the GRANTED sockets whose pedestal is ONLINE with a miss count of 0. -/
def State.countedSockets (s : State) : List Nat :=
  (s.socketsIn [.granted]).filter fun n =>
    decide ((s.link (pedestalOf n)).link = .online) && decide ((s.link (pedestalOf n)).miss = 0)

/-- R128: the judgement of one feeder at a scan completion. -/
def judgeFeeder (feeder : Nat) (s : State) : State :=
  let fd := s.feeder feeder
  let c := s.feederCfg feeder
  if fd.measured ≤ c.limit then s.setFeeder feeder { fd with overCount := 0 }
  else if fd.overCount + 1 < c.tripCount then s.setFeeder feeder { fd with overCount := fd.overCount + 1 }
  else
    let head := (s.shedOrder feeder).head?
    let t := match head with | some n => shed n .feeder .overload s | none => s
    (t.setFeeder feeder { t.feeder feeder with overCount := 0 }).raise (.feederOverload feeder fd.measured c.limit head)

/-- R91: a feeder's measured current: the kept currents of the sockets of the configured pedestals on it. -/
def State.measuredCurrent (s : State) (feeder : Nat) : Nat :=
  ((s.pdl.reports.filter fun e =>
      (s.pedestal (pedestalOf e.1)).configured && decide (s.feederOf e.1 = feeder)).map
    fun e => (e.2.map (·.current)).getD 0).foldl (· + ·) 0

/-- The feeders' numbers. -/
def feederNumbers : List Nat := [1, 2, 3, 4, 5, 6, 7, 8]

/-- R91, R117, R128: a scan completion: the measured currents are kept, then the confirmation counts are taken, then each
feeder is judged. -/
def scanComplete (s : State) : State :=
  let t := feederNumbers.foldl (fun t f => t.setFeeder f { t.feeder f with measured := s.measuredCurrent f }) s
  let u := t.countedSockets.foldl (fun u n => countScan n u) t
  feederNumbers.foldl (fun u f => judgeFeeder f u) u

/-- R123: a pedestal has become LOST: its PENDING sockets go to WAITING, all of them before any search (log entry 15). -/
def pedestalLostFar (sockets : List Nat) (s : State) : State :=
  leaveAllPending s.judged sockets s

/-- R131: a socket's hold-off has reached 0. -/
def holdOffEnds (socket : Nat) (s : State) : State :=
  let k := s.socket socket
  if k.state = .shed ∧ k.holdOffEnd.isSome then
    match (s.feederCfg (s.feederOf socket)).retry with
    | .auto => reevaluateAsIdle socket s
    | .edge => s.setSocket socket { k with holdOffEnd := none }
  else s

/-! ## Requests on feeders -/

/-- R129: heads of the shed order are shed until the reserved sum is within the limit. -/
def shedToLimit (feeder : Nat) : Nat → State → State
  | 0, s => s
  | fuel + 1, s =>
    if (s.feeder feeder).reserved ≤ (s.feederCfg feeder).limit then s
    else
      match (s.shedOrder feeder).head? with
      | none => s
      | some n => shedToLimit feeder fuel (shed n .feeder .limit s)

/-- R108: a feeder's row. -/
def feederRow (i : Nat) (r : FeederRow) (s : State) : Except Status State :=
  match valueOf retryModes r.retry with
  | none => .error .range
  | some retry =>
    let new : FeederCfg := ⟨r.limit, r.diversity, r.tripCount, r.bypassLimit, retry, r.holdOff⟩
    if !(within 1 8 i && within 0 25000 r.limit && within 25 100 r.diversity && within 1 15 r.tripCount &&
        within 1 15 r.bypassLimit && within 1 60 r.holdOff) then .error .range
    else if r.diversity ≠ (s.feederCfg i).diversity ∧ s.shedOrder i ≠ [] then .error .state
    else if new = s.feederCfg i then .ok s
    else
      let t := s.setFeederCfg i new
      .ok (grantSearch i (shedToLimit i (t.shedOrder i).length t))

/-- R108. -/
def feederPut (start : Nat) (rows : List (PutItem FeederRow)) (s : State) : State × Answer :=
  multiPut 15 start feederRow rows s

/-- The pending sockets in the order the search would take them (R109). -/
def State.searchOrder (s : State) (feeder : Nat) : List Nat :=
  match (s.feeder feeder).blocking with
  | some n => n :: (s.rotation feeder).filter fun m => decide (m ≠ n)
  | none => s.rotation feeder

/-- The first 32 of a list's entries in fields, the places left over filled with zeros of the same sizes. -/
def listFields (entry : Nat → List Field) (blank : List Field) (l : List Nat) : List Field :=
  ((l.take 32).map entry ++ List.replicate (32 - l.length) blank).flatten

/-- Item 0x44: the feeder, presence (bit 0 blocking request), and the fields of R109 in order, each list of 32 places behind
its count in two bytes, the percentage of the diversity and the minutes of the hold-off in one byte each (log entry 17). -/
def feederItem (s : State) (f : Nat) : Item :=
  let c := s.feederCfg f
  let fd := s.feeder f
  let waiting := s.searchOrder f
  let granted := s.shedOrder f
  ⟨0x44, [.u 1 f, presence 1 [fd.blocking.isSome], .u 2 c.limit, .u 1 c.diversity, .u 1 c.tripCount, .u 1 c.bypassLimit,
      enumField retryModes c.retry, .u 1 c.holdOff, .u 2 fd.reserved, .u 2 (s.headroom f), .u 4 fd.measured,
      .u 1 fd.overCount, optField 1 fd.blocking] ++
    [0, 1, 2, 3].map (fun cls => .u 1 (tableGet 0 fd.pointers cls)) ++
    .u 2 waiting.length ::
      listFields (fun n => [.u 1 n, .u 1 (s.socket n).bypass, .u 2 (s.reservation n)]) [.u 1 0, .u 1 0, .u 2 0] waiting ++
    .u 2 granted.length ::
      listFields (fun n => [.u 1 n, .u 2 ((s.socket n).reservation.getD 0)]) [.u 1 0, .u 2 0] granted⟩

/-- R109. A reply has room for three of these records in the 1024 bytes of its body (R187; log entry 17). -/
def feederGet (start count : Nat) (s : State) : State × Answer :=
  getRecords start count 1 8 8 4 (fun f => [feederItem s f]) s

/-- R114. -/
def feederBottom (feeder cls socket : Nat) (s : State) : State × Answer :=
  if within 1 8 feeder && within 0 3 cls && within 0 255 socket then
    let fd := s.feeder feeder
    accept [] (s.setFeeder feeder { fd with pointers := tableSet 0 fd.pointers cls socket })
  else refuse .range s

/-- R115: the outcome of one pass, nothing changed. The result is a presence field (bit 0 socket and reservation, bit 1
shortfall), the outcome (0 would be granted, 1 none fits), the socket, its reservation, the shortfall, whether it is the
blocking request, and the headroom (log entry 17). -/
def pollFields (feeder : Nat) (s : State) : List Field :=
  let h := s.headroom feeder
  match s.pass feeder with
  | some (n, _) =>
    [presence 1 [true, false], .u 1 0, .u 1 n, .u 2 (s.reservation n), .u 2 0,
     .u 1 (bitField [decide ((s.feeder feeder).blocking = some n)]), .u 2 h]
  | none =>
    match (s.passOrder feeder).head? with
    | some n =>
      [presence 1 [true, true], .u 1 1, .u 1 n, .u 2 (s.reservation n), .u 2 (s.reservation n - h),
       .u 1 (bitField [decide ((s.feeder feeder).blocking = some n)]), .u 2 h]
    | none => [presence 1 [false, false], .u 1 1, .u 1 0, .u 2 0, .u 2 0, .u 1 0, .u 2 h]

/-- R115. -/
def feederPoll (feeder : Nat) (s : State) : State × Answer :=
  if within 1 8 feeder then accept [resultItem (pollFields feeder s)] s else refuse .range s

/-- R130. -/
def feederShed (feeder count : Nat) (s : State) : State × Answer :=
  if within 1 8 feeder && within 1 16 count then
    let heads := (s.shedOrder feeder).take count
    let freed := (heads.map fun n => (s.socket n).reservation.getD 0).foldl (· + ·) 0
    accept [resultItem [.u 1 heads.length, .u 2 freed]] (heads.foldl (fun t n => shed n .host .feederShed t) s)
  else refuse .range s

/-! ## Requests on sockets -/

/-- R124. -/
def socketRelease (socket : Nat) (s : State) : State × Answer :=
  checked [(!within 0 255 socket, .range), (!(s.socket socket).supplied, .state)]
    (fun s => accept [resultItem [.u 2 ((s.socket socket).reservation.getD 0)]] (shed socket .host .release s)) s

/-- R125: a socket is locked by the host. -/
def lockSocket (socket : Nat) (s : State) : State :=
  let k := s.socket socket
  match k.state with
  | .locked => s
  | .granted | .energised => release socket (landIn .locked) none s
  | .pending => grantSearch (s.feederOf socket) (dropPending socket .locked s)
  | .unassigned | .idle | .waiting | .shed | .tripped =>
    grantSearch (s.feederOf socket)
      (s.setSocket socket { k with state := .locked, shedSource := none, holdOffEnd := none })

/-- R125. -/
def socketLock (socket : Nat) (s : State) : State × Answer :=
  if within 0 255 socket then accept [resultItem [enumField socketStates (s.socket socket).state]] (lockSocket socket s)
  else refuse .range s

/-- A request that leaves a socket in the state its reply names, read when it is done (R125, R126). -/
def replyState (socket : Nat) (s : State) : State × Answer :=
  accept [resultItem [enumField socketStates (s.socket socket).state]] s

/-- R125. -/
def socketUnlock (socket : Nat) (s : State) : State × Answer :=
  checked [(!within 0 255 socket, .range), (decide ((s.socket socket).state ≠ .locked), .state)]
    (fun s => replyState socket (grantSearch (s.feederOf socket) (reevaluateAsIdle socket s))) s

/-- R126. -/
def socketRearm (socket : Nat) (s : State) : State × Answer :=
  checked [(!within 0 255 socket, .range), (decide ((s.socket socket).state ≠ .shed), .state)]
    (fun s => replyState socket (reevaluateAsIdle socket s)) s

end Sys2Proof.Machine
end

