-- ==== Sys2Proof/Machine/Pedestals.lean ====
section
/-! DEFINITION. The pedestal line: the poll (R85, R86), a good reply (R87, R88), the delta rule (R94), loss and return
(R89), water taps (R96, R97), and the requests PEDESTAL_PUT, PEDESTAL_GET, SOCKET_PUT, TAP_PUT and TAP_CLOSE. -/

namespace Sys2Proof.Machine

/-- The sockets of a pedestal, in position order (R82). -/
def socketsOf (address : Nat) : List Nat := (List.range 4).map fun p => (address - 1) * 4 + p

/-- The taps of a pedestal, in position order (R82). -/
def tapsOf (address : Nat) : List Nat := (List.range 2).map fun p => (address - 1) * 2 + p

/-! ## Polls -/

/-- The contactor state the FAR desires (R103): CLOSE while GRANTED or ENERGISED, OPEN otherwise. -/
def State.desired (s : State) (socket : Nat) : ContactorOrder := if (s.socket socket).supplied then .closeIt else .openIt

/-- R86, R210: the poll to a pedestal as it is built now: KEEP until its first good reply since the start. -/
def State.pollFor (s : State) (address : Nat) : Poll :=
  { address
    sockets := (socketsOf address).map fun n => if (s.link address).heard then s.desired n else .keep
    valves := (tapsOf address).map fun n => (s.run n).isSome
    acks := (tapsOf address).map s.ack }

/-- The configured pedestals, ascending (R85). -/
def State.configuredPedestals (s : State) : List Nat := (s.pdl.pedestals.filter fun e => e.2.configured).map (·.1)

/-- R85: the slot of the next configured address above one begins, its poll sent; with none above, the scan is complete. -/
def beginSlotAbove (address : Nat) (s : State) : State × Bool :=
  match s.configuredPedestals.find? fun a => decide (address < a) with
  | some a => (s.setPoll (some (s.pollFor a)), false)
  | none => (s, true)

/-- R85: a scan begins at the lowest configured address; with none, no poll is sent. -/
def beginScan (s : State) : State := s.setPoll (s.configuredPedestals.head?.map s.pollFor)

/-! ## Meters -/

/-- The largest unsettled quantity (R92). -/
def unsettledMax : Nat := 4294967295

/-- R94: the delta of a count from a baseline. -/
def delta (count baseline : Nat) : Nat := (count + 65536 - baseline % 65536) % 65536

/-- R94: a meter takes a count under a plausibility limit. -/
def Meter.take (m : Meter) (limit count : Nat) : Meter :=
  { baseline := count
    unsettled := if delta count m.baseline ≤ limit then min (m.unsettled + delta count m.baseline) unsettledMax else m.unsettled }

/-- R94: a count of a socket meter, with METER_JUMP when it is not plausible; 20 Wh a second. -/
def countSocket (elapsed socket count : Nat) (s : State) : State :=
  let m := s.socketMeter socket
  let t := s.setSocketMeter socket (m.take (20 * elapsed) count)
  if delta count m.baseline ≤ 20 * elapsed then t else t.raise (.meterJump false socket m.baseline count elapsed)

/-- R94: a count of a tap meter; 2 L a second. -/
def countTap (elapsed tap count : Nat) (s : State) : State :=
  let m := s.tapMeter tap
  let t := s.setTapMeter tap (m.take (2 * elapsed) count)
  if delta count m.baseline ≤ 2 * elapsed then t else t.raise (.meterJump true tap m.baseline count elapsed)

/-- R88 step 6: the count gives the tap a delta greater than 0. -/
def flows (m : Meter) (elapsed count : Nat) : Bool :=
  decide (0 < delta count m.baseline) && decide (delta count m.baseline ≤ 2 * elapsed)

/-! ## Taps -/

/-- A tap opens (R96). -/
def openTap (tap berth : Nat) (booking : Option Nat) (s : State) : State :=
  (s.setRun tap (some ⟨s.uptime, s.uptime, (s.tapCfg tap).runLimit⟩)).raise (.tapOpen tap berth booking)

/-- R96: a press taken from a CLOSED tap. -/
def pressClosed (tap : Nat) (s : State) : State :=
  match (s.tapCfg tap).berth with
  | none => s.raise (.tapRefused .noBerth)
  | some b =>
    if (s.berth b).cls = .service then openTap tap b none s
    else
      match s.arrivedOn b with
      | none => s.raise (.tapRefused .notArrived)
      | some k =>
        if (s.account (s.booking k).account).state = .held then s.raise (.tapRefused .held)
        else openTap tap b (some k) s

/-- R96, R97: a latched press taken from a tap. -/
def pressTap (tap : Nat) (s : State) : State :=
  if (s.run tap).isSome then closeTap tap .button s else pressClosed tap s

/-- R97: the run time has reached the run limit. -/
def tapLimitReached (tap : Nat) (s : State) : State := closeTap tap .limit s

/-- R97: the no-flow time has reached 5 minutes. -/
def tapFlowStopped (tap : Nat) (s : State) : State := closeTap tap .noFlow s

/-! ## A good reply -/

/-- How the FAR is handed a pedestal's sockets (R88 step 3). -/
inductive Handover where
  | adoption
  | afterLoss
  | differences
deriving DecidableEq, Repr

/-- R88 step 3: the hand-over a good reply makes. -/
def State.handover (s : State) (address : Nat) : Handover :=
  if (socketsOf address).all fun n => (s.report n).isNone then .adoption
  else if (s.link address).link = .lost then .afterLoss
  else .differences

/-- R89: the seconds PEDESTAL(RETURN) carries. -/
def State.returnSeconds (s : State) (address : Nat) : Nat :=
  match (s.link address).lastGood with
  | some t => s.secsSince t
  | none => Config.returnSecondsUnreported s.uptime

/-- R88 step 1, R89: the link after a good reply, with PEDESTAL(RETURN) when it was LOST. -/
def linkGood (address : Nat) (s : State) : State :=
  let l := s.link address
  let t := s.setLink address { link := .online, miss := 0, lastGood := some s.uptime, heard := true }
  if l.link = .lost then t.raise (.pedestalReturn address (s.returnSeconds address)) else t

/-- R88: elapsed, from the last good report or from the start, and at least 1. -/
def State.elapsed (s : State) (address : Nat) : Nat :=
  max 1 (match (s.link address).lastGood with | some t => s.secsSince t | none => s.secsSince 0)

/-- R87: a report with its current held within twice the socket's rating. -/
def State.kept (s : State) (socket : Nat) (r : SocketReport) : SocketReport :=
  { r with current := min r.current ((s.socketCfg socket).rating * 20) }

/-- R88 step 3: one socket is handed to the FAR, its last reported state replaced. -/
def handSocket (h : Handover) (socket : Nat) (r : SocketReport) (s : State) : State :=
  let new := s.kept socket r
  let old := (s.report socket).getD ⟨false, false, false, 0⟩
  let t := s.setReport socket (some new)
  match h with
  | .adoption => adoptSocket socket new t
  | .afterLoss => takeChanges socket (changesAll new) t
  | .differences => takeChanges socket (changesFrom old new) t

/-- What follows when a hand-over is complete: the one search of R132, or the re-evaluations of R123. -/
def endHandover (h : Handover) (address : Nat) (s : State) : State :=
  match h with
  | .adoption =>
    if (socketsOf address).any fun n => decide ((s.socket n).state = .pending) then
      grantSearch (s.pedestal address).feeder s
    else s
  | .afterLoss =>
    (socketsOf address).foldl (fun t n => if (t.socket n).state = .waiting then reevaluate n t else t) s
  | .differences => s

/-- R88 steps 1 and 2: the link of the pedestal, and the counts of its sockets and taps. -/
def countReport (r : PollReply) (s : State) : State :=
  let elapsed := s.elapsed r.address
  let t := ((socketsOf r.address).zip r.sockets).foldl (fun t x => countSocket elapsed x.1 x.2.count t) (linkGood r.address s)
  ((tapsOf r.address).zip r.taps).foldl (fun t x => countTap elapsed x.1 x.2.count t) t

/-- R88 step 3: the pedestal's sockets are handed to the FAR in order, and the hand-over is completed. -/
def handReport (h : Handover) (r : PollReply) (s : State) : State :=
  endHandover h r.address (((socketsOf r.address).zip r.sockets).foldl (fun t x => handSocket h x.1 x.2.report t) s)

/-- R88: a good reply to a poll. The presses of step 4 are taken in position order (log entry 47). -/
def goodReport (poll : Poll) (r : PollReply) (s : State) : State :=
  let a := r.address
  let taps := (tapsOf a).zip r.taps
  let flowing := taps.filter fun x => flows (s.tapMeter x.1) (s.elapsed a) x.2.count
  let s4 := handReport (s.handover a) r (countReport r s)
  let pressed := taps.filter fun x => x.2.press
  let s5 := pressed.foldl (fun t x => (pressTap x.1 t).setAck x.1 true) s4
  let acked := ((tapsOf a).zip poll.acks).filter fun x => x.2 && !(pressed.any fun y => decide (y.1 = x.1))
  let s6 := acked.foldl (fun t x => t.setAck x.1 false) s5
  let s7 := flowing.foldl
    (fun t x => match t.run x.1 with | some u => t.setRun x.1 (some { u with flowSince := t.uptime }) | none => t) s6
  { s7 with pdl := { s7.pdl with replied := true } }

/-- R87: a reply to the poll of the slot in progress is taken when it is good and comes in its window; the first such one
of a slot. -/
def pollReply (bytes : List Byte) (inWindow : Bool) (s : State) : State :=
  match s.pdl.poll, goodReply bytes with
  | some p, some r =>
    if inWindow ∧ r.address = p.address ∧ (s.pedestal p.address).configured ∧ s.pdl.replied = false then goodReport p r s
    else s
  | _, _ => s

/-- R89: a slot has ended without a good reply. The taps of a pedestal that becomes LOST close in ascending order (log entry
47). -/
def missPoll (address : Nat) (s : State) : State :=
  let l := s.link address
  if l.miss + 1 < 3 ∨ l.link = .lost then s.setLink address { l with miss := min (l.miss + 1) 3 }
  else
    let t := (s.setLink address { l with link := .lost, miss := 3 }).raise (.pedestalLost address (s.pedestal address).feeder)
    (tapsOf address).foldl (fun u n => closeTap n .lost u) (pedestalLostFar (socketsOf address) t)

/-- R85, R89, R91: the slot in progress ends; the next one begins, or the scan is complete and the next scan begins. -/
def slotEnd (s : State) : State :=
  match s.pdl.poll with
  | none => s
  | some p =>
    let s1 := if s.pdl.replied ∨ (s.pedestal p.address).configured = false then s else missPoll p.address s
    let next := beginSlotAbove p.address s1
    if next.2 then
      if s1.configuredPedestals = [] then s1.setPoll none else beginScan (scanComplete s1)
    else next.1

/-! ## Requests -/

/-- R84: the sockets and taps of a pedestal that hold off a change of its row. -/
def State.pedestalBusy (s : State) (address : Nat) : Bool :=
  ((socketsOf address).any fun n => (s.socket n).supplied || decide ((s.socket n).state = .pending)) ||
  ((tapsOf address).any fun n => (s.run n).isSome)

/-- R84, R122: a pedestal leaves the scan. -/
def unconfigure (address : Nat) (s : State) : State :=
  let t := s.setLink address { startLink with heard := (s.link address).heard }
  (socketsOf address).foldl (fun u n => takePlugGone n (u.setReport n none)) t

/-- R84: a pedestal's row. The first pedestal configured while no scan is in progress begins one (log entry 16). -/
def pedestalRow (a : Nat) (r : PedestalRow) (s : State) : Except Status State :=
  let old := s.pedestal a
  if !(within 1 64 a && within 1 8 r.feeder) then .error .range
  else if (r.feeder ≠ old.feeder ∨ (old.configured = true ∧ r.configured = false)) ∧ s.pedestalBusy a then .error .state
  else
    let t := s.setPedestal a ⟨r.configured, r.feeder⟩
    let t := if old.configured && !r.configured then unconfigure a t else t
    .ok (if t.pdl.poll.isNone then beginScan t else t)

/-- R84. -/
def pedestalPut (start : Nat) (rows : List (PutItem PedestalRow)) (s : State) : State × Answer :=
  multiPut 15 start pedestalRow rows s

/-- R101: each pedestal's own record, its four sockets and its two taps: 7 items, so 2 pedestals fit a reply (R206). -/
def pedestalGet (start count : Nat) (s : State) : State × Answer :=
  getRecords start count 1 64 8 7
    (fun a => pedestalItem s a :: (socketsOf a).map (socketItem s) ++ (tapsOf a).map (tapItem s)) s

/-- R67, R99: the residue of a socket meter is zeroed when its tariff set changes. -/
def zeroSocketResidue (socket : Nat) (s : State) : State :=
  s.setSocketAcct socket { s.socketAcct socket with residue := 0 }

/-- R99, R122: what follows a written socket row: the FAR re-evaluates the socket, and a PENDING socket that stays PENDING
with a new rating has its search run (R110). -/
def socketChanged (socket oldRating : Nat) (s : State) : State :=
  let t := reevaluate socket s
  if (s.socket socket).state = .pending ∧ (t.socket socket).state = .pending ∧ (s.socketCfg socket).rating ≠ oldRating then
    grantSearch (t.feederOf socket) t
  else t

/-- R99: a socket's row. -/
def socketRow (i : Nat) (r : SocketRow) (s : State) : Except Status State :=
  let old := s.socketCfg i
  let others := match r.berth with
    | none => 0
    | some b => ((s.berthSockets b).filter fun n => decide (n ≠ i)).length
  if !(within 0 255 i && (r.berth.map (within 0 255)).getD true && [16, 32, 63].contains r.rating && within 0 3 r.cls &&
      within 0 3 r.tariff) then .error .range
  else if (r.berth ≠ old.berth ∨ r.rating ≠ old.rating) ∧ (s.socket i).supplied then .error .state
  else if others ≥ 2 then .error .full
  else
    let s1 := if r.berth ≠ old.berth ∨ r.tariff ≠ old.tariff then settleSocket i s else s
    let s2 := s1.setSocketCfg i ⟨r.berth, r.rating, r.cls, r.tariff⟩
    let s3 := if r.tariff ≠ old.tariff then zeroSocketResidue i s2 else s2
    .ok (socketChanged i old.rating s3)

/-- R99. -/
def socketPut (start : Nat) (rows : List (PutItem SocketRow)) (s : State) : State × Answer :=
  multiPut 15 start socketRow rows s

/-- R100: a tap's row. A tap closed by step 1 has been settled there. -/
def tapRow (i : Nat) (r : TapRow) (s : State) : Except Status State :=
  let old := s.tapCfg i
  let taken := match r.berth with
    | none => false
    | some b => (s.berthTaps b).any fun n => decide (n ≠ i)
  if !(within 0 127 i && (r.berth.map (within 0 255)).getD true && within 0 3 r.tariff && within 1 120 r.runLimit) then
    .error .range
  else if taken then .error .full
  else
    let s1 := if r.berth ≠ old.berth then closeTap i .host s else s
    let s2 := if r.berth ≠ old.berth ∨ r.tariff ≠ old.tariff then settleTap i s1 else s1
    let s3 := s2.setTapCfg i ⟨r.berth, r.tariff, r.runLimit⟩
    .ok (if r.tariff ≠ old.tariff then s3.setTapResidue i 0 else s3)

/-- R100. -/
def tapPut (start : Nat) (rows : List (PutItem TapRow)) (s : State) : State × Answer := multiPut 15 start tapRow rows s

/-- R100: TAP_CLOSE answers the tap's state after it, CLOSED (0). -/
def tapClose (tap : Nat) (s : State) : State × Answer :=
  if within 0 127 tap then
    let t := closeTap tap .host s
    accept [resultItem [.u 1 (bitField [(t.run tap).isSome])]] t
  else refuse .range s

end Sys2Proof.Machine
end

