-- ==== Sys2Proof/Machine/Outputs.lean ====
section
/-! DEFINITION. The part's output pins, read from its state: de-energised while it is without main power or held in reset
(R154, R185, R200). -/

namespace Sys2Proof.Machine

/-- The main valve output of a hose (R134, R154). -/
def State.mainValveOut (s : State) (hose : Nat) : Bool := s.running && (s.hose hose).state.mainValve

/-- The slow valve output of a hose (R134, R154). -/
def State.slowValveOut (s : State) (hose : Nat) : Bool := s.running && (s.hose hose).state.slowValve

/-- The door relay output of a gate (R163, R185). -/
def State.relayOut (s : State) (gate : Nat) : Bool := s.running && s.relay gate

/-- Terminal 7's lamp output (R183). -/
def State.lampOut (s : State) : Lamp := if s.running then s.gtc.fuel.lamp else .off

/-- The frame on the host line (R195), as its bytes. -/
def State.txBytes (s : State) : List Byte := if s.running then (s.hlc.tx.map Sending.bytes).getD [] else []

/-- The poll of the slot in progress (R86), as its bytes. -/
def State.pollBytes (s : State) : List Byte := if s.running then (s.pdl.poll.map Poll.bytes).getD [] else []

end Sys2Proof.Machine
end

