-- ==== Sys2Proof/Machine/Rollover.lean ====
section
/-! DEFINITION. The rollover (R37 to R42, R76), runs of rollovers (R73, R78), and the settlement-interval and band-boundary
events (R79, R80). -/

namespace Sys2Proof.Machine

/-- What a walk counts for ROLLOVER(DONE) (R76). -/
structure WalkCounts where
  fees : Nat
  noShows : Nat
  extended : Nat

/-- R38: the booking is charged for night `d` - 1. -/
def Booking.feeDue (k : Booking) (d : Nat) : Bool :=
  (decide (k.state = .arrived) && decide (k.arr + 1 ≤ d)) ||
  (decide (k.state = .confirmed) && decide (k.arr + 1 ≤ d) && decide (d < k.dep + 1))

/-- R39: the booking becomes NO_SHOW. -/
def Booking.noShowDue (k : Booking) (grace d : Nat) : Bool :=
  (decide (k.state = .confirmed) || decide (k.state = .unplaced)) && decide (k.arr + grace + 1 ≤ d)

/-- R40: the booking is overstaying at the rollover on day `d`. -/
def Booking.extendDue (k : Booking) (d : Nat) : Bool := decide (k.state = .arrived) && decide (k.dep ≤ d)

/-- R40: the overstay nights after nights are added. -/
def addOverstay (n more : Nat) : Nat := if n + more > 65535 then Config.overstayPastRange (n + more) else n + more

/-- R40, R41: the extension of an overstaying booking to cover night `d`. The CONFIRMED bookings that hold the added nights
are moved; an ARRIVED one among them, which R40 says there is not, stays where it is (log entry 49). -/
def extendBooking (d booking : Nat) (s : State) : State :=
  let k := s.booking booking
  let berth := k.berth.getD 0
  let held := (s.calendar berth).filter fun e => decide (e.1 ≠ booking) && e.2.holdsAny k.dep (d + 1)
  let t := held.foldl (fun t e => moveBooking (fun u => u.lowWaterFrom d) e.1 t) s
  let dep := min (d + 1) 65535
  (t.setBooking booking { t.booking booking with dep, overstay := addOverstay k.overstay (dep - k.dep) }).raise
    (.bookingExtended booking berth dep)

/-- R37 to R40: one record of the walk of the rollover on day `d`; `at_` is the present time it sees (R77). -/
def walkRecord (d : Nat) (at_ : Stamp) (booking : Nat) (w : State × WalkCounts) : State × WalkCounts :=
  let s := w.1
  let c := w.2
  let fee := (s.booking booking).feeDue d
  let s1 := if fee then postFee booking s else s
  let k := s1.booking booking
  let gone := k.noShowDue s.bal.grace d
  let s2 := if gone then (closeBooking .noShow at_ booking s1).raise (.bookingNoShow booking k.berth) else s1
  let more := (s2.booking booking).extendDue d
  let s3 := if more then extendBooking d booking s2 else s2
  (s3, ⟨c.fees + (if fee then 1 else 0), c.noShows + (if gone then 1 else 0), c.extended + (if more then 1 else 0)⟩)

/-- R37: the walk of the booking table, records in ascending order. -/
def walk (d : Nat) (at_ : Stamp) (s : State) : State × WalkCounts :=
  (List.range bookingCount).foldl (fun w i => walkRecord d at_ i w) (s, ⟨0, 0, 0⟩)

/-- R76: the rollover of day `d`. -/
def rollOver (source : RolloverSource) (at_ : Stamp) (d : Nat) (s : State) : State :=
  let s1 := s.setClk { s.clk with lastRoll := d }
  let w := walk d at_ (purgeTides d s1)
  w.1.raise (.rolloverDone d source w.2.fees w.2.noShows w.2.extended)

/-- R77: a rollover of a run sees the present time as its own rollover moment. -/
def rollOverAtHour (source : RolloverSource) (d : Nat) (s : State) : State :=
  rollOver source ⟨d, s.clk.rollHour * 3600⟩ d s

/-- A run of rollovers of successive days (R73, R78). -/
def rollRun (source : RolloverSource) (first count : Nat) (s : State) : State :=
  (List.range count).foldl (fun t k => rollOverAtHour source (first + k) t) s

/-- The settlement timer computed afresh (R79). -/
def resetSettleTimer (s : State) : State :=
  s.setClk { s.clk with settleTimer := nextInterval s.clk.interval s.clk.sec }

/-- R78: the catch-up run. -/
def catchUpRun (s : State) : State :=
  let s0 := s.setClk { s.clk with catchUpDue := false }
  let n := s.night
  let last := s.clk.lastRoll
  if !s.clk.isSet ∨ n ≤ last then s0
  else if n - last ≤ 7 then rollRun .catchUp (last + 1) (n - last) s0
  else rollRun .catchUp (n - 6) 7 (s0.raise (.rolloverSkipped (n - last - 7) (last + 1) (n - 7)))

/-- R66, R79: every meter is settled, and the settlement timer is computed afresh. -/
def settlementEvent (s : State) : State :=
  let t := settleAllTaps (settleAllSockets s)
  resetSettleTimer (t.setClk { t.clk with settleDue := false })

/-- R66, R80: every socket meter is settled. -/
def bandEvent (s : State) : State :=
  let t := settleAllSockets s
  t.setClk { t.clk with bandDue := none }

end Sys2Proof.Machine
end

