-- ==== Sys2Proof/Machine/Clock.lean ====
section
/-! DEFINITION. The requests of the clock unit and the site parameters: CLOCK_SET, CLOCK_GET, SITE_PUT and SITE_GET (R71 to
R75, R198). -/

namespace Sys2Proof.Machine

/-- A moment as seconds from day 0 (R72). -/
def secondsOf (day sec : Nat) : Nat := day * 86400 + sec

/-- The clock takes a day and a second with fraction 0, and the settlement timer is computed afresh (R72, R79). -/
def setTime (day sec : Nat) (s : State) : State :=
  resetSettleTimer (s.setClk { s.clk with day, sec, frac := 0, isSet := true })

/-- The reply to an accepted CLOCK_SET: the number of rollovers run (R73), its low byte when it passes 255 (log entry 17). -/
def clockReply (rollovers : Nat) (s : State) : State × Answer := accept [resultItem [.u 1 rollovers]] s

/-- R72: the first set. -/
def firstSet (day sec : Nat) (s : State) : State :=
  let last := nightAt s.clk.rollHour day sec
  let t := setTime day sec s
  purgeTides last (t.setClk { t.clk with lastRoll := last })

/-- R72 to R74. -/
def clockSet (day sec : Nat) (s : State) : State × Answer :=
  let to_ := secondsOf day sec
  let from_ := secondsOf s.clk.day s.clk.sec
  if !within 0 65535 day || !within 0 86399 sec then refuse .range s
  else if !s.clk.isSet then clockReply 0 (firstSet day sec s)
  else if from_ + 604800 < to_ then refuse .range s
  else if from_ < to_ then
    let count := nightAt s.clk.rollHour day sec - s.clk.lastRoll
    clockReply count (setTime day sec (rollRun .set (s.clk.lastRoll + 1) count s))
  else if to_ < from_ then clockReply 0 (setTime day sec s)
  else clockReply 0 (s.setClk { s.clk with frac := 0 })

/-- R75: the next settlement-interval event, as it would be if the clock were set while it is not (R79). -/
def State.nextSettlement (s : State) : Nat :=
  if s.clk.isSet then s.clk.settleTimer else nextInterval s.clk.interval s.clk.sec

/-- R75: the day of the next rollover moment: the day after the later of the last rollover day and the current night. After
day 65535 there is no day number, and the value is free (log entry 50). -/
def State.nextRollover (s : State) : Nat :=
  let d := max s.clk.lastRoll s.night
  if d ≥ 65535 then Config.nextRolloverPastRange d else d + 1

/-- R75; the fraction is one byte (log entry 17). -/
def clockGet (s : State) : State × Answer :=
  let c := s.clk
  accept [resultItem [.u 2 c.day, .u 3 c.sec, .u 1 c.frac, .u 1 (bitField [c.isSet]), .u 2 c.lastRoll, .u 2 s.night,
    enumField bands s.band, .u 2 s.nextRollover, .u 3 (c.rollHour * 3600), .u 3 s.nextSettlement]] s

/-! ## Site parameters -/

/-- R71: a new rollover hour is written; when the current night then rises above the last rollover day, its rollover
runs. -/
def setRollHour (hour : Nat) (s : State) : State :=
  let before := s.night
  let t := s.setClk { s.clk with rollHour := hour }
  if t.clk.isSet ∧ before ≤ t.clk.lastRoll ∧ t.clk.lastRoll < t.night then rollOver .site t.now t.night t else t

/-- R71: the permitted settlement intervals. -/
def intervals : List Nat := [5, 10, 15, 20, 30, 60]

/-- R71: two band hours are written, unless out of range or equal. -/
def setBandHours (day night : Nat) (s : State) : Except Status State :=
  if within 0 23 day && within 0 23 night && decide (day ≠ night) then
    .ok (s.setClk { s.clk with dayHour := day, nightHour := night })
  else .error .range

/-- A value in a signed range. -/
def withinInt (lo hi v : Int) : Bool := decide (lo ≤ v) && decide (v ≤ hi)

/-- R198: a site item, judged and written by its owner. The band-hours item carries the day band hour in the next-to-last
byte of its value, the night band hour in the last, and 0 in the others (section 10.2). -/
def siteItem (_ : Nat) (r : SiteItem) (s : State) : Except Status State :=
  let v := r.value
  let n := v.toNat
  match r.param with
  | 0 => if withinInt (-300) 800 v then .ok { s with bal := { s.bal with lowWater := v } } else .error .range
  | 1 => if withinInt 0 300 v then .ok { s with bal := { s.bal with margin := n } } else .error .range
  | 2 => if withinInt 0 3 v then .ok { s with bal := { s.bal with grace := n } } else .error .range
  | 3 => if withinInt 0 23 v then .ok (setRollHour n s) else .error .range
  | 4 =>
    if withinInt 0 60 v && intervals.contains n then .ok (resetSettleTimer (s.setClk { s.clk with interval := n }))
    else .error .range
  | 5 => if withinInt 0 23 v then setBandHours n s.clk.nightHour s else .error .range
  | 6 => if withinInt 0 23 v then setBandHours s.clk.dayHour n s else .error .range
  | 7 => if withinInt 0 65535 v then setBandHours (n / 256) (n % 256) s else .error .range
  | 8 => if withinInt 0 100000 v then .ok { s with fdc := { s.fdc with cap := n } } else .error .range
  | _ => .error .badItem

/-- R198. -/
def sitePut (items : List (PutItem SiteItem)) (s : State) : State × Answer := multiPut 16 0 siteItem items s

/-- The value of a site parameter as SITE_GET returns it (R198). -/
def State.siteValue (s : State) (param : Nat) : Int :=
  match param with
  | 0 => s.bal.lowWater
  | 1 => s.bal.margin
  | 2 => s.bal.grace
  | 3 => s.clk.rollHour
  | 4 => s.clk.interval
  | 5 => s.clk.dayHour
  | 6 => s.clk.nightHour
  | 7 => (s.clk.dayHour * 256 + s.clk.nightHour : Nat)
  | 8 => s.fdc.cap
  | _ => 0

/-- A site parameter's item (R204, code 0x08). -/
def siteParamItem (s : State) (param : Nat) : Item := ⟨0x08, [.u 1 param, .i 4 (s.siteValue param)]⟩

/-- R198: every parameter, or those named; a number that names none refuses the whole request. -/
def siteGet (params : List Nat) (s : State) : State × Answer :=
  if params = [] then accept ((List.range 9).map (siteParamItem s)) s
  else if params.all (within 0 8) && within 0 16 params.length then accept ((params.take 15).map (siteParamItem s)) s
  else refuse .badItem s

end Sys2Proof.Machine
end

