-- ==== Sys2Proof/Machine/Start.lean ====
section
/-! DEFINITION. The starts of the part (R200, R201 and each chapter's start values): what a cold start clears, and what
every start does, block by block. -/

namespace Sys2Proof.Machine

/-- R186: the line speed the strap pins give (true: tied low). -/
def speedOf (spa spb : Bool) : Speed :=
  match spa, spb with
  | false, false => .b19200
  | false, true => .b57600
  | true, false => .b115200
  | true, true => .b230400

/-- R200: the retained domain at its cold-start values. -/
def coldRetained (s : State) : State :=
  { s with
    clk := { s.clk with day := 0, sec := 0, frac := 0, isSet := false, lastRoll := 0, rollHour := 12, interval := 15,
                        dayHour := 7, nightHour := 22 }
    bal := { s.bal with berths := [], bookings := [], tides := [], lowWater := 0, margin := 50, grace := 1 }
    acu := { accounts := [(0, coldHouse)], tariffs := [], sockets := [], taps := [] }
    pdl := { s.pdl with pedestals := [], sockets := [], taps := [], socketMeters := [], tapMeters := [] }
    far := { s.far with cfg := [] }
    fdc := { s.fdc with cfg := [], prices := [], sales := [], nextSale := 1, cap := 30000 }
    gtc := { s.gtc with creds := [], cfg := [] } }

/-- R201: the HLC at a start: everything emptied, the straps read, the cause recorded, STARTED the first notice. -/
def startHlc (cause : Cause) (spa spb : Bool) (s : State) : State :=
  let speed := speedOf spa spb
  { s with
    sup := { s.sup with spa, spb }
    hlc := { rxState := .hunt, rxBytes := [], waiting := [], slot := none, tx := none,
             notices := [⟨s.now, .started cause speed s.clk.isSet s.now s.sup.backup⟩], dropped := false, cause, speed,
             restart := none } }

/-- R78, R79, R83: the clock unit's volatile values at a start. -/
def startClk (cause : Cause) (s : State) : State :=
  s.setClk
    { s.clk with
      settleTimer := nextInterval s.clk.interval s.clk.sec, catchUpDue := decide (cause ≠ .cold), settleDue := false,
      bandDue := none, uptime := 0 }

/-- R103: a socket whose static record names a berth starts IDLE. -/
def startSockets (cfg : Table SocketCfg) : Table Socket :=
  (cfg.filter fun e => e.2.berth.isSome).map fun e => (e.1, { startSocket with state := .idle })

/-- R102, R103, R106: the PDL and the FAR at a start; the first scan begins, sending KEEP. -/
def startLine (s : State) : State :=
  beginScan
    { s with
      pdl := { s.pdl with links := [], reports := [], runs := [], acks := [], poll := none, replied := false }
      far := { s.far with sockets := startSockets s.pdl.sockets, feeders := [], counter := 0 } }

/-- R134, R155: the FDC at a start: the hoses read their nozzles, and the start processing is still to be made but at a
cold start, where the queue is empty. -/
def startFdc (cause : Cause) (s : State) : State :=
  let t := [1, 2, 3, 4].foldl (fun t h => startHoseNow h t) { s with fdc := { s.fdc with hoses := [] } }
  { t with fdc := { t.fdc with ready := decide (cause = .cold) } }

/-- R185: the GTC at a start: start values, and each gate judged by its contact. -/
def startGtc (s : State) : State :=
  [1, 2, 3, 4, 5, 6].foldl (fun t g => startGateNow g t)
    { s with gtc := { s.gtc with gates := [], terminals := [], fuel := startFuelTerminal, keyEvents := [] } }

/-- R200: a start of a cause, the straps read. -/
def start (cause : Cause) (spa spb : Bool) (s : State) : State :=
  let s0 := if cause = .cold then { coldRetained s with sup := { s.sup with valid := true } } else s
  let s1 := startHlc cause spa spb { s0 with sup := { s0.sup with startDue := false } }
  let s2 := startClk cause s1
  startGtc (startFdc cause (startLine { s2 with bal := { s2.bal with arrivals := [] } }))

/-- R200: the cause of a start at which main power returns. -/
def State.powerCause (s : State) : Cause := if s.sup.valid then .power else .cold

/-- R200: POWER_ON: main power returns. While the reset pin is held the start waits for its release (log entry 12). -/
def powerOn (spa spb backup : Bool) (s : State) : State :=
  if s.sup.main then s
  else
    let t := { s with sup := { s.sup with main := true, backup } }
    if s.sup.resetHeld then { t with sup := { t.sup with startDue := true } } else start t.powerCause spa spb t

/-- R200: POWER_FAIL: main power fails. The retained domain stands on the backup supply, and is lost without it. -/
def powerFail (s : State) : State :=
  { s with sup := { s.sup with main := false, startDue := false, valid := s.sup.valid && s.sup.backup } }

/-- R200: BACKUP_SUPPLY_FAIL: the backup supply fails; the retained domain is lost with it while main power is absent. -/
def backupSupplyFail (s : State) : State :=
  { s with sup := { s.sup with backup := false, valid := s.sup.valid && s.sup.main } }

/-- R200: RESET_PIN_ASSERT. -/
def resetPinAssert (s : State) : State := { s with sup := { s.sup with resetHeld := true } }

/-- R200: RESET_PIN_RELEASE: a PIN start when main power is present, or the start that main power's return is still owed. -/
def resetPinRelease (spa spb : Bool) (s : State) : State :=
  if !s.sup.resetHeld then s
  else
    let t := { s with sup := { s.sup with resetHeld := false } }
    if !s.sup.main then t
    else if s.sup.startDue then start t.powerCause spa spb t
    else start .pin spa spb t

/-- R199: RESTART_BEGIN: the restart that is awaited begins once its reply has been sent. -/
def restartBegin (spa spb : Bool) (s : State) : State :=
  if s.running ∧ s.hlc.restart.isSome ∧ s.hlc.slot.isNone then start .restart spa spb s else s

/-- R199: RESTART_TIMEOUT: 1 s after its reply became ready, the restart that is awaited begins. -/
def restartTimeout (spa spb : Bool) (s : State) : State :=
  if s.running ∧ s.hlc.restart.isSome then start .restart spa spb s else s

end Sys2Proof.Machine
end

