-- ==== Sys2Proof/Machine/Take.lean ====
section
/-! DEFINITION. Each request's owner (R194), and the taking of a frame that waits in the receive buffer. -/

namespace Sys2Proof.Machine

/-- R194: the owner of a request, as the function that takes it; none for a command that is no request. -/
def owner : Instr → Option (State → State × Answer)
  | .requestUnknownKind _ _ => some unknownKind
  | .status _ => some statusRead
  | .restart _ => some restartArm
  | .sitePut _ items => some (sitePut items)
  | .siteGet _ params => some (siteGet params)
  | .clockSet _ day sec => some (clockSet day sec)
  | .clockGet _ => some clockGet
  | .berthPut _ start rows => some (berthPut start rows)
  | .berthGet _ query => some (berthGet query)
  | .tidePut _ rows => some (tidePut rows)
  | .tideGet _ start count => some (tideGet start count)
  | .bookAlloc _ n preference => some (bookAlloc n preference)
  | .bookFixed _ n berth force => some (bookFixed n berth force)
  | .bookFixedIndex _ booking berth force => some (bookFixedIndex booking berth force)
  | .bookPlace _ booking preference => some (bookPlace booking preference)
  | .bookArrive _ booking => some (bookArrive booking)
  | .bookChange _ booking dep => some (bookChange booking dep)
  | .bookDepart _ booking => some (bookDepart booking)
  | .bookCancel _ booking => some (bookCancel booking)
  | .bookGet _ start count => some (bookGet start count)
  | .acctOpen _ account limit => some (acctOpen account limit)
  | .acctPay _ account amount => some (acctPay account amount)
  | .acctLimit _ account limit => some (acctLimit account limit)
  | .acctClose _ account => some (acctClose account)
  | .acctGet _ start count => some (acctGet start count)
  | .tariffPut _ start rows => some (tariffPut start rows)
  | .tariffGet _ start count => some (tariffGet start count)
  | .pedestalPut _ start rows => some (pedestalPut start rows)
  | .pedestalGet _ start count => some (pedestalGet start count)
  | .socketPut _ start rows => some (socketPut start rows)
  | .tapPut _ start rows => some (tapPut start rows)
  | .tapClose _ tap => some (tapClose tap)
  | .feederPut _ start rows => some (feederPut start rows)
  | .feederGet _ start count => some (feederGet start count)
  | .feederBottom _ feeder cls socket => some (feederBottom feeder cls socket)
  | .feederPoll _ feeder => some (feederPoll feeder)
  | .feederShed _ feeder count => some (feederShed feeder count)
  | .socketRelease _ socket => some (socketRelease socket)
  | .socketLock _ socket => some (socketLock socket)
  | .socketUnlock _ socket => some (socketUnlock socket)
  | .socketRearm _ socket => some (socketRearm socket)
  | .hosePut _ start rows => some (hosePut start rows)
  | .hoseGet _ start count => some (hoseGet start count)
  | .hoseAuth _ auth => some (hoseAuth auth)
  | .hoseStop _ hose => some (hoseStop hose)
  | .pricePut _ start rows => some (pricePut start rows)
  | .priceGet _ => some priceGet
  | .salePeek _ number => some (salePeek number)
  | .saleTake _ number => some (saleTake number)
  | .credPut _ start rows => some (credPut start rows)
  | .credGet _ query => some (credGet query)
  | .credSuspend _ cred => some (credSuspend cred)
  | .credResume _ cred => some (credResume cred)
  | .credFree _ cred => some (credFree cred)
  | .gatePut _ start rows => some (gatePut start rows)
  | .gateGet _ start count => some (gateGet start count)
  | .gateMode _ gate mode => some (gateMode gate mode)
  | .gatePulse _ gate => some (gatePulse gate)
  | .powerOn _ _ _ | .powerFail | .resetPinAssert | .resetPinRelease _ _ | .restartBegin _ _ | .restartTimeout _ _
  | .catchUp | .fdcStart | .hostByteReceived _ _ | .frameGapTimeout | .hostCtsChange _ | .transmitFrameDone
  | .rollover | .settlementInterval | .bandBoundary _ | .clockStop | .pollSlotEnd | .pollReply _ _ | .holdOffExpiry _
  | .tapRunLimit _ | .tapNoFlow _ | .nozzleLift _ | .nozzleHang _ | .pulse _ | .authTimeout _ | .noFlow _
  | .keyEvent _ _ | .interKeyTimeout _ | .lockoutExpiry _ | .cardRead _ _ _ | .cardWindowExpiry _ | .doorContact _ _
  | .releaseTimeout _ | .heldTimeout _ | .exitButton _ | .autoArrive | .fuelWindowExpiry | .selfServeOffer | .lampExpiry
  | .keypadFullScan _ _ | .backupSupplyFail => none

/-- R190: what takes a frame: the owner of the request it decodes to, or the HLC's own refusal. A SALE_PEEK refused
BAD_ITEM carries no counts (log entry 46). -/
def frameOwner (f : Frame) : State → State × Answer :=
  match decodeRequest f.kind f.tag f.body with
  | .request i => (owner i).getD badItem
  | .badItem => badItem
  | .unknownKind => unknownKind

/-- R194: the oldest frame that waits is taken. -/
def takeWaiting (s : State) : State :=
  match s.hlc.waiting with
  | [] => s
  | f :: rest => takeRequest f.kind f.tag (frameOwner f) (s.setHlc { s.hlc with waiting := rest })

/-- R194: a frame waits and may be taken. -/
def State.canTakeWaiting (s : State) : Bool := s.running && mayTake s.hlc && !s.hlc.waiting.isEmpty

end Sys2Proof.Machine
end

