-- ==== Sys2Proof/Machine/Time.lean ====
section
/-! DEFINITION. The passing of time: the clock's advance (R69), the model's tick, and the events that fall due by the
state and the time base alone, which the part takes when no command waits (log entry 7). -/

namespace Sys2Proof.Machine

/-! ## The clock -/

/-- The events of the clock that the model can take now: the clock is set. -/
def State.clockRuns (s : State) : Bool := s.sup.main || s.sup.backup

/-- R69: the end of day 65535: the clock stops and its flag is cleared. No clock event is then due (R81). -/
def stopClock (c : Clk) : Clk :=
  { c with day := 65535, sec := 86399, frac := 255, isSet := false, settleDue := false, bandDue := none }

/-- R76: the rollover of the current night is due at the hour. -/
def State.rolloverDue (s : State) : Bool := s.clk.isSet && !s.clk.catchUpDue && decide (s.clk.lastRoll < s.night)

/-- R76: ROLLOVER: the rollover at the hour, when it is due. -/
def hourRollover (s : State) : State := if s.rolloverDue then rollOver .hour s.now s.night s else s

/-- R79: SETTLEMENT_INTERVAL, while the clock is set. -/
def settlementInterval (s : State) : State := if s.clk.isSet then settlementEvent s else s

/-- R80: BAND_BOUNDARY, while the clock is set. The band each meter takes is the one of the present time (R64). -/
def bandBoundary (_begins : Band) (s : State) : State := if s.clk.isSet then bandEvent s else s

/-- R79, R80: the clock events of a second the clock has advanced onto, while it is set. At the settlement timer's second
its event is due and the timer is computed afresh. -/
def markEvents (c : Clk) : Clk :=
  if c.isSet then
    { c with
      settleDue := c.settleDue || decide (c.sec = c.settleTimer)
      settleTimer := if c.sec = c.settleTimer then nextInterval c.interval c.sec else c.settleTimer
      bandDue :=
        if c.sec = c.dayHour * 3600 then some .day else if c.sec = c.nightHour * 3600 then some .night else c.bandDue }
  else c

/-- R69: the clock advances by 1/256 s; `events` while the part runs. -/
def advanceClock (events : Bool) (c : Clk) : Clk :=
  let mark := fun c => if events then markEvents c else c
  if c.frac < 255 then { c with frac := c.frac + 1 }
  else if c.sec < 86399 then mark { c with frac := 0, sec := c.sec + 1 }
  else if c.day < 65535 then mark { c with frac := 0, sec := 0, day := c.day + 1 }
  else stopClock c

/-- R200: the backup supply as it reads while main power is present: once absent, it may have returned at any moment (log
entry 40). -/
def readBackup (u : Supply) : Supply :=
  if u.main && !u.backup then { u with backup := Config.backupReturned u.backupReads, backupReads := u.backupReads + 1 }
  else u

/-- The model's tick: 1/256 s passes, and an absent backup supply is read again. The clock advances while either supply is there, and the time base while the part
runs. -/
def tick (s : State) : State :=
  let c := if s.clockRuns then advanceClock s.running s.clk else s.clk
  { s with sup := readBackup s.sup, clk := { c with uptime := if s.running then c.uptime + 1 else c.uptime } }

/-! ## What is due -/

/-- Ticks since a moment are at least a number of seconds. -/
def State.past (s : State) (since secs : Nat) : Bool := decide (since + secs * 256 ≤ s.uptime)

/-- A running timer has reached its time. -/
def State.timerOut (s : State) (t : Option Timer) : Bool := (t.map fun x => s.past x.since x.secs).getD false

/-- A moment that is present lies a number of seconds back. -/
def State.sinceOut (s : State) (since : Option Nat) (secs : Nat) : Bool := (since.map fun x => s.past x secs).getD false

/-- What the blocks' own hand-overs leave to be taken (R78, R155, R167, R177, R182). -/
def State.dueWork (s : State) : Option Instr :=
  if !s.fdc.ready then some .fdcStart
  else if s.clk.catchUpDue then some .catchUp
  else if s.bal.arrivals ≠ [] then some .autoArrive
  else if s.gtc.fuel.offer.isSome then some .selfServeOffer
  else s.gtc.keyEvents.head?.map fun e => .keyEvent e.1 e.2

/-- The restart that is awaited and may begin (R199). -/
def State.dueRestart (s : State) : Option Instr :=
  match s.hlc.restart with
  | none => none
  | some t =>
    if s.hlc.slot.isNone then some (.restartBegin s.sup.spa s.sup.spb)
    else if s.past t 1 then some (.restartTimeout s.sup.spa s.sup.spb)
    else none

/-- The clock events that are due (R76, R79, R80). -/
def State.dueClock (s : State) : Option Instr :=
  if s.rolloverDue then some .rollover
  else if s.clk.isSet && s.clk.settleDue then some .settlementInterval
  else if s.clk.isSet then s.clk.bandDue.map .bandBoundary
  else none

/-- The pedestal line's and the feeder arbiter's timers (R97, R131). -/
def State.dueLine (s : State) : Option Instr :=
  match s.far.sockets.find? fun e => (e.2.holdOffEnd.map fun t => decide (t ≤ s.uptime)).getD false with
  | some e => some (.holdOffExpiry e.1)
  | none =>
    match s.pdl.runs.find? fun e => (e.2.map fun r => s.past r.since (r.limit * 60) || s.past r.flowSince 300).getD false with
    | some e =>
      some (if (e.2.map fun r => s.past r.since (r.limit * 60)).getD false then .tapRunLimit e.1 else .tapNoFlow e.1)
    | none => none

/-- The fuel dock's timers (R150). -/
def State.dueFuel (s : State) : Option Instr :=
  match s.fdc.hoses.find? fun e => s.sinceOut e.2.authSince (s.hoseCfg e.1).authTimeout with
  | some e => some (.authTimeout e.1)
  | none => (s.fdc.hoses.find? fun e => s.sinceOut e.2.flowSince (s.hoseCfg e.1).noFlowTimeout).map fun e => .noFlow e.1

/-- The doors' timers (R176). -/
def State.dueDoor (s : State) : Option Instr :=
  match s.gtc.gates.find? fun e => s.timerOut e.2.releaseTimer with
  | some e => some (.releaseTimeout e.1)
  | none => (s.gtc.gates.find? fun e => s.timerOut e.2.heldTimer).map fun e => .heldTimeout e.1

/-- The seconds a pending card's window runs at a terminal (R170, R181, R182). -/
def State.cardSecs (s : State) (terminal : Nat) : Nat := if terminal = 7 then windowSecs s.gtc.fuel.window else 10

/-- The terminals' timers (R168 to R170, R182, R183). -/
def State.dueTerminal (s : State) : Option Instr :=
  match s.gtc.terminals.find? fun e => s.sinceOut e.2.keySince 10 with
  | some e => some (.interKeyTimeout e.1)
  | none =>
    match s.gtc.terminals.find? fun e => s.sinceOut e.2.lockoutSince lockoutSecs with
    | some e => some (.lockoutExpiry e.1)
    | none =>
      match s.gtc.terminals.find? fun e => s.sinceOut (e.2.card.map (·.since)) (s.cardSecs e.1) with
      | some e => some (if e.1 = 7 then .fuelWindowExpiry else .cardWindowExpiry e.1)
      | none => if s.sinceOut (lampSince s.gtc.fuel.lamp) lampSecs then some .lampExpiry else none

/-- The first of a list of events that is due. -/
def firstDue : List (Option Instr) → Option Instr
  | [] => none
  | some i :: _ => some i
  | none :: rest => firstDue rest

/-- The event the part takes next of its own, while it runs. -/
def State.due (s : State) : Option Instr :=
  if s.running then firstDue [s.dueWork, s.dueRestart, s.dueClock, s.dueLine, s.dueFuel, s.dueDoor, s.dueTerminal] else none

/-- What the part does when no command waits and no event is due: it takes a frame that waits, or 1/256 s passes. -/
def idle (s : State) : State := if s.canTakeWaiting then pump (takeWaiting s) else tick s

end Sys2Proof.Machine
end

