-- ==== Sys2Proof/Machine/BookingCommands.lean ====
section
/-! DEFINITION. The meanings of the berth, booking, account and tariff commands: one
definition for each row of the opcode table. -/

namespace Sys2Proof.Machine

/-- R32, R177: the BAL takes the oldest arrival request handed to it. -/
def takeArrival (s : State) : State :=
  match s.bal.arrivals with
  | [] => s
  | a :: rest => autoArrive a (s.setArrivals rest)

/-- BERTH_PUT (R2). -/
def execBerthPut (tag start : Nat) (rows : List (PutItem BerthRow)) (s : State) : Host.Outcome State Fault Refusal :=
  .next (request (.berthPut tag start rows) (berthPut start rows) s)

/-- BERTH_GET (R4). -/
def execBerthGet (tag : Nat) (query : BerthQuery) (s : State) : Host.Outcome State Fault Refusal :=
  .next (request (.berthGet tag query) (berthGet query) s)

/-- TIDE_PUT (R6). -/
def execTidePut (tag : Nat) (rows : List (PutItem TideRow)) (s : State) : Host.Outcome State Fault Refusal :=
  .next (request (.tidePut tag rows) (tidePut rows) s)

/-- TIDE_GET (R7). -/
def execTideGet (tag start count : Nat) (s : State) : Host.Outcome State Fault Refusal :=
  .next (request (.tideGet tag start count) (tideGet start count) s)

/-- BOOK_ALLOC (R17). -/
def execBookAlloc (tag : Nat) (new : NewBooking) (preference : Nat) (s : State) : Host.Outcome State Fault Refusal :=
  .next (request (.bookAlloc tag new preference) (bookAlloc new preference) s)

/-- BOOK_FIXED (R18). -/
def execBookFixed (tag : Nat) (new : NewBooking) (berth : Nat) (force : Bool) (s : State) : Host.Outcome State Fault Refusal :=
  .next (request (.bookFixed tag new berth force) (bookFixed new berth force) s)

/-- BOOK_FIXED_INDEX (R19). -/
def execBookFixedIndex (tag booking berth : Nat) (force : Bool) (s : State) : Host.Outcome State Fault Refusal :=
  .next (request (.bookFixedIndex tag booking berth force) (bookFixedIndex booking berth force) s)

/-- BOOK_PLACE (R20). -/
def execBookPlace (tag booking preference : Nat) (s : State) : Host.Outcome State Fault Refusal :=
  .next (request (.bookPlace tag booking preference) (bookPlace booking preference) s)

/-- BOOK_ARRIVE (R29). -/
def execBookArrive (tag booking : Nat) (s : State) : Host.Outcome State Fault Refusal :=
  .next (request (.bookArrive tag booking) (bookArrive booking) s)

/-- BOOK_CHANGE (R33). -/
def execBookChange (tag booking dep : Nat) (s : State) : Host.Outcome State Fault Refusal :=
  .next (request (.bookChange tag booking dep) (bookChange booking dep) s)

/-- BOOK_DEPART (R34). -/
def execBookDepart (tag booking : Nat) (s : State) : Host.Outcome State Fault Refusal :=
  .next (request (.bookDepart tag booking) (bookDepart booking) s)

/-- BOOK_CANCEL (R36). -/
def execBookCancel (tag booking : Nat) (s : State) : Host.Outcome State Fault Refusal :=
  .next (request (.bookCancel tag booking) (bookCancel booking) s)

/-- BOOK_GET (R26). -/
def execBookGet (tag start count : Nat) (s : State) : Host.Outcome State Fault Refusal :=
  .next (request (.bookGet tag start count) (bookGet start count) s)

/-- ACCT_OPEN (R52). -/
def execAcctOpen (tag account limit : Nat) (s : State) : Host.Outcome State Fault Refusal :=
  .next (request (.acctOpen tag account limit) (acctOpen account limit) s)

/-- ACCT_PAY (R53). -/
def execAcctPay (tag account : Nat) (amount : Int) (s : State) : Host.Outcome State Fault Refusal :=
  .next (request (.acctPay tag account amount) (acctPay account amount) s)

/-- ACCT_LIMIT (R54). -/
def execAcctLimit (tag account limit : Nat) (s : State) : Host.Outcome State Fault Refusal :=
  .next (request (.acctLimit tag account limit) (acctLimit account limit) s)

/-- ACCT_CLOSE (R55). -/
def execAcctClose (tag account : Nat) (s : State) : Host.Outcome State Fault Refusal :=
  .next (request (.acctClose tag account) (acctClose account) s)

/-- ACCT_GET (R56). -/
def execAcctGet (tag start count : Nat) (s : State) : Host.Outcome State Fault Refusal :=
  .next (request (.acctGet tag start count) (acctGet start count) s)

/-- TARIFF_PUT (R61). -/
def execTariffPut (tag start : Nat) (rows : List (PutItem TariffRow)) (s : State) : Host.Outcome State Fault Refusal :=
  .next (request (.tariffPut tag start rows) (tariffPut start rows) s)

/-- TARIFF_GET (R61). -/
def execTariffGet (tag start count : Nat) (s : State) : Host.Outcome State Fault Refusal :=
  .next (request (.tariffGet tag start count) (tariffGet start count) s)

/-- AUTO_ARRIVE (R32). -/
def execAutoArrive (s : State) : Host.Outcome State Fault Refusal :=
  .next (event takeArrival s)

end Sys2Proof.Machine
end

