-- ==== Sys2Proof/Machine/FuelCommands.lean ====
section
/-! DEFINITION. The meanings of the fuel dock commands: one
definition for each row of the opcode table. -/

namespace Sys2Proof.Machine

/-- HOSE_PUT (R135). -/
def execHosePut (tag start : Nat) (rows : List (PutItem HoseRow)) (s : State) : Host.Outcome State Fault Refusal :=
  .next (request (.hosePut tag start rows) (hosePut start rows) s)

/-- HOSE_GET (R135). -/
def execHoseGet (tag start count : Nat) (s : State) : Host.Outcome State Fault Refusal :=
  .next (request (.hoseGet tag start count) (hoseGet start count) s)

/-- HOSE_AUTH (R141). -/
def execHoseAuth (tag : Nat) (auth : AuthRequest) (s : State) : Host.Outcome State Fault Refusal :=
  .next (request (.hoseAuth tag auth) (hoseAuth auth) s)

/-- HOSE_STOP (R151). -/
def execHoseStop (tag hose : Nat) (s : State) : Host.Outcome State Fault Refusal :=
  .next (request (.hoseStop tag hose) (hoseStop hose) s)

/-- PRICE_PUT (R136). -/
def execPricePut (tag start : Nat) (rows : List (PutItem Nat)) (s : State) : Host.Outcome State Fault Refusal :=
  .next (request (.pricePut tag start rows) (pricePut start rows) s)

/-- PRICE_GET (R136). -/
def execPriceGet (tag : Nat) (s : State) : Host.Outcome State Fault Refusal :=
  .next (request (.priceGet tag) priceGet s)

/-- SALE_PEEK (R139). -/
def execSalePeek (tag : Nat) (number : Option Nat) (s : State) : Host.Outcome State Fault Refusal :=
  .next (request (.salePeek tag number) (salePeek number) s)

/-- SALE_TAKE (R140). -/
def execSaleTake (tag : Nat) (number : Option Nat) (s : State) : Host.Outcome State Fault Refusal :=
  .next (request (.saleTake tag number) (saleTake number) s)

/-- NOZZLE_LIFT (R146): the switch is read; before the FDC's start processing is complete it is only read (R155). -/
def execNozzleLift (hose : Nat) (s : State) : Host.Outcome State Fault Refusal :=
  .next (event (fun s => if s.fdc.ready then nozzleLift hose s else keepNozzle hose true s) (s.setNozzle hose true))

/-- NOZZLE_HANG (R146): the switch is read; before the FDC's start processing is complete it is only read (R155). -/
def execNozzleHang (hose : Nat) (s : State) : Host.Outcome State Fault Refusal :=
  .next (event (fun s => if s.fdc.ready then nozzleHang hose s else keepNozzle hose false s) (s.setNozzle hose false))

/-- PULSE (R148). -/
def execPulse (hose : Nat) (s : State) : Host.Outcome State Fault Refusal :=
  .next (event (pulse hose) s)

/-- AUTH_TIMEOUT (R150). -/
def execAuthTimeout (hose : Nat) (s : State) : Host.Outcome State Fault Refusal :=
  .next (event (authTimeout hose) s)

/-- NO_FLOW (R150). -/
def execNoFlow (hose : Nat) (s : State) : Host.Outcome State Fault Refusal :=
  .next (event (noFlow hose) s)

/-- SELF_SERVE_OFFER (R145). -/
def execSelfServeOffer (s : State) : Host.Outcome State Fault Refusal :=
  .next (event selfServeOffer s)

end Sys2Proof.Machine
end

