-- ==== Sys2Proof/Machine/GateCommands.lean ====
section
/-! DEFINITION. The meanings of the credential, gate and terminal commands: one
definition for each row of the opcode table. -/

namespace Sys2Proof.Machine

/-- CRED_PUT (R158). -/
def execCredPut (tag start : Nat) (rows : List (PutItem CredRow)) (s : State) : Host.Outcome State Fault Refusal :=
  .next (request (.credPut tag start rows) (credPut start rows) s)

/-- CRED_GET (R159). -/
def execCredGet (tag : Nat) (query : CredQuery) (s : State) : Host.Outcome State Fault Refusal :=
  .next (request (.credGet tag query) (credGet query) s)

/-- CRED_SUSPEND (R160). -/
def execCredSuspend (tag cred : Nat) (s : State) : Host.Outcome State Fault Refusal :=
  .next (request (.credSuspend tag cred) (credSuspend cred) s)

/-- CRED_RESUME (R160). -/
def execCredResume (tag cred : Nat) (s : State) : Host.Outcome State Fault Refusal :=
  .next (request (.credResume tag cred) (credResume cred) s)

/-- CRED_FREE (R160). -/
def execCredFree (tag cred : Nat) (s : State) : Host.Outcome State Fault Refusal :=
  .next (request (.credFree tag cred) (credFree cred) s)

/-- GATE_PUT (R162). -/
def execGatePut (tag start : Nat) (rows : List (PutItem GateRow)) (s : State) : Host.Outcome State Fault Refusal :=
  .next (request (.gatePut tag start rows) (gatePut start rows) s)

/-- GATE_GET (R165). -/
def execGateGet (tag start count : Nat) (s : State) : Host.Outcome State Fault Refusal :=
  .next (request (.gateGet tag start count) (gateGet start count) s)

/-- GATE_MODE (R164). -/
def execGateMode (tag gate mode : Nat) (s : State) : Host.Outcome State Fault Refusal :=
  .next (request (.gateMode tag gate mode) (gateMode gate mode) s)

/-- GATE_PULSE (R178). -/
def execGatePulse (tag gate : Nat) (s : State) : Host.Outcome State Fault Refusal :=
  .next (request (.gatePulse tag gate) (gatePulse gate) s)

/-- KEY_EVENT (R168). -/
def execKeyEvent (terminal key : Nat) (s : State) : Host.Outcome State Fault Refusal :=
  .next (event (keyEvent terminal key) s)

/-- INTER_KEY_TIMEOUT (R168). -/
def execInterKeyTimeout (terminal : Nat) (s : State) : Host.Outcome State Fault Refusal :=
  .next (event (interKeyTimeout terminal) s)

/-- LOCKOUT_EXPIRY (R169). -/
def execLockoutExpiry (terminal : Nat) (s : State) : Host.Outcome State Fault Refusal :=
  .next (event (lockoutExpiry terminal) s)

/-- CARD_READ (R170). -/
def execCardRead (terminal : Nat) (exitReader : Bool) (token : Nat) (s : State) : Host.Outcome State Fault Refusal :=
  .next (event (cardRead terminal exitReader token) s)

/-- CARD_WINDOW_EXPIRY (R170). -/
def execCardWindowExpiry (gate : Nat) (s : State) : Host.Outcome State Fault Refusal :=
  .next (event (cardWindowExpiry gate) s)

/-- DOOR_CONTACT (R176, R179): the contact changes. -/
def execDoorContact (gate : Nat) (opens : Bool) (s : State) : Host.Outcome State Fault Refusal :=
  .next (event (fun s => if opens then doorOpens gate s else doorCloses gate s) (s.setContact gate opens))

/-- RELEASE_TIMEOUT (R176). -/
def execReleaseTimeout (gate : Nat) (s : State) : Host.Outcome State Fault Refusal :=
  .next (event (releaseTimeout gate) s)

/-- HELD_TIMEOUT (R176). -/
def execHeldTimeout (gate : Nat) (s : State) : Host.Outcome State Fault Refusal :=
  .next (event (heldTimeout gate) s)

/-- EXIT_BUTTON (R178). -/
def execExitButton (gate : Nat) (s : State) : Host.Outcome State Fault Refusal :=
  .next (event (exitButton gate) s)

/-- FUEL_WINDOW_EXPIRY (R182). -/
def execFuelWindowExpiry (s : State) : Host.Outcome State Fault Refusal :=
  .next (event fuelWindowExpiry s)

/-- LAMP_EXPIRY (R183). -/
def execLampExpiry (s : State) : Host.Outcome State Fault Refusal :=
  .next (event lampExpiry s)

/-- KEYPAD_FULL_SCAN (R167). -/
def execKeypadFullScan (terminal : Nat) (reading : KeyReading) (s : State) : Host.Outcome State Fault Refusal :=
  .next (event (fullScan terminal reading) s)

end Sys2Proof.Machine
end

