-- ==== Sys2Proof/Machine/LinkCommands.lean ====
section
/-! DEFINITION. The meanings of the supply, link, clock and site commands: one
definition for each row of the opcode table. -/

namespace Sys2Proof.Machine

/-- POWER_ON (R200). -/
def execPowerOn (spa spb backup : Bool) (s : State) : Host.Outcome State Fault Refusal :=
  .next (pump (powerOn spa spb backup s))

/-- POWER_FAIL (R200): the outputs, which follow the running part, are de-energised. -/
def execPowerFail (s : State) : Host.Outcome State Fault Refusal :=
  .next (powerFail s)

/-- RESET_PIN_ASSERT (R200). -/
def execResetPinAssert (s : State) : Host.Outcome State Fault Refusal :=
  .next (resetPinAssert s)

/-- RESET_PIN_RELEASE (R200). -/
def execResetPinRelease (spa spb : Bool) (s : State) : Host.Outcome State Fault Refusal :=
  .next (pump (resetPinRelease spa spb s))

/-- RESTART_BEGIN (R199). -/
def execRestartBegin (spa spb : Bool) (s : State) : Host.Outcome State Fault Refusal :=
  .next (pump (restartBegin spa spb s))

/-- RESTART_TIMEOUT (R199). -/
def execRestartTimeout (spa spb : Bool) (s : State) : Host.Outcome State Fault Refusal :=
  .next (pump (restartTimeout spa spb s))

/-- CATCH_UP (R78). -/
def execCatchUp (s : State) : Host.Outcome State Fault Refusal :=
  .next (event (fun s => if s.clk.catchUpDue then catchUpRun s else s) s)

/-- FDC_START (R155). -/
def execFdcStart (s : State) : Host.Outcome State Fault Refusal :=
  .next (event (fun s => if s.fdc.ready then s else fdcStart s) s)

/-- HOST_BYTE_RECEIVED (R188). -/
def execHostByteReceived (byte : Byte) (stopError : Bool) (s : State) : Host.Outcome State Fault Refusal :=
  .next (event (fun s => s.setHlc (hostByte byte stopError s.hlc)) s)

/-- FRAME_GAP_TIMEOUT (R189). -/
def execFrameGapTimeout (s : State) : Host.Outcome State Fault Refusal :=
  .next (event (fun s => s.setHlc (dropReception s.hlc)) s)

/-- HOST_CTS_CHANGE (R193, R195): the pin changes, and transmission begins where it may. -/
def execHostCtsChange (asserted : Bool) (s : State) : Host.Outcome State Fault Refusal :=
  .next (event (fun s => s) { s with sup := { s.sup with hostCts := asserted } })

/-- TRANSMIT_FRAME_DONE (R195). -/
def execTransmitFrameDone (s : State) : Host.Outcome State Fault Refusal :=
  .next (event (fun s => s.setHlc (frameSent s.hlc)) s)

/-- REQUEST_UNKNOWN_KIND (R190). -/
def execRequestUnknownKind (kind tag : Nat) (s : State) : Host.Outcome State Fault Refusal :=
  .next (request (.requestUnknownKind kind tag) unknownKind s)

/-- STATUS (R197). -/
def execStatus (tag : Nat) (s : State) : Host.Outcome State Fault Refusal :=
  .next (request (.status tag) statusRead s)

/-- RESTART (R199). -/
def execRestart (tag : Nat) (s : State) : Host.Outcome State Fault Refusal :=
  .next (request (.restart tag) restartArm s)

/-- SITE_PUT (R198). -/
def execSitePut (tag : Nat) (items : List (PutItem SiteItem)) (s : State) : Host.Outcome State Fault Refusal :=
  .next (request (.sitePut tag items) (sitePut items) s)

/-- SITE_GET (R198). -/
def execSiteGet (tag : Nat) (params : List Nat) (s : State) : Host.Outcome State Fault Refusal :=
  .next (request (.siteGet tag params) (siteGet params) s)

/-- CLOCK_SET (R72). -/
def execClockSet (tag day sec : Nat) (s : State) : Host.Outcome State Fault Refusal :=
  .next (request (.clockSet tag day sec) (clockSet day sec) s)

/-- CLOCK_GET (R75). -/
def execClockGet (tag : Nat) (s : State) : Host.Outcome State Fault Refusal :=
  .next (request (.clockGet tag) clockGet s)

/-- ROLLOVER (R76). -/
def execRollover (s : State) : Host.Outcome State Fault Refusal :=
  .next (event hourRollover s)

/-- SETTLEMENT_INTERVAL (R79). -/
def execSettlementInterval (s : State) : Host.Outcome State Fault Refusal :=
  .next (event settlementInterval s)

/-- BAND_BOUNDARY (R80). -/
def execBandBoundary (begins : Band) (s : State) : Host.Outcome State Fault Refusal :=
  .next (event (bandBoundary begins) s)

/-- CLOCK_STOP (R69), while either supply runs the clock. -/
def execClockStop (s : State) : Host.Outcome State Fault Refusal :=
  .next (pump (if s.clockRuns then s.setClk (stopClock s.clk) else s))

/-- BACKUP_SUPPLY_FAIL (R200). -/
def execBackupSupplyFail (s : State) : Host.Outcome State Fault Refusal :=
  .next (backupSupplyFail s)

end Sys2Proof.Machine
end

