-- ==== Sys2Proof/Machine/PowerCommands.lean ====
section
/-! DEFINITION. The meanings of the pedestal line and feeder commands: one
definition for each row of the opcode table. -/

namespace Sys2Proof.Machine

/-- PEDESTAL_PUT (R84). -/
def execPedestalPut (tag start : Nat) (rows : List (PutItem PedestalRow)) (s : State) : Host.Outcome State Fault Refusal :=
  .next (request (.pedestalPut tag start rows) (pedestalPut start rows) s)

/-- PEDESTAL_GET (R101). -/
def execPedestalGet (tag start count : Nat) (s : State) : Host.Outcome State Fault Refusal :=
  .next (request (.pedestalGet tag start count) (pedestalGet start count) s)

/-- SOCKET_PUT (R99). -/
def execSocketPut (tag start : Nat) (rows : List (PutItem SocketRow)) (s : State) : Host.Outcome State Fault Refusal :=
  .next (request (.socketPut tag start rows) (socketPut start rows) s)

/-- TAP_PUT (R100). -/
def execTapPut (tag start : Nat) (rows : List (PutItem TapRow)) (s : State) : Host.Outcome State Fault Refusal :=
  .next (request (.tapPut tag start rows) (tapPut start rows) s)

/-- TAP_CLOSE (R100). -/
def execTapClose (tag tap : Nat) (s : State) : Host.Outcome State Fault Refusal :=
  .next (request (.tapClose tag tap) (tapClose tap) s)

/-- FEEDER_PUT (R108). -/
def execFeederPut (tag start : Nat) (rows : List (PutItem FeederRow)) (s : State) : Host.Outcome State Fault Refusal :=
  .next (request (.feederPut tag start rows) (feederPut start rows) s)

/-- FEEDER_GET (R109). -/
def execFeederGet (tag start count : Nat) (s : State) : Host.Outcome State Fault Refusal :=
  .next (request (.feederGet tag start count) (feederGet start count) s)

/-- FEEDER_BOTTOM (R114). -/
def execFeederBottom (tag feeder cls socket : Nat) (s : State) : Host.Outcome State Fault Refusal :=
  .next (request (.feederBottom tag feeder cls socket) (feederBottom feeder cls socket) s)

/-- FEEDER_POLL (R115). -/
def execFeederPoll (tag feeder : Nat) (s : State) : Host.Outcome State Fault Refusal :=
  .next (request (.feederPoll tag feeder) (feederPoll feeder) s)

/-- FEEDER_SHED (R130). -/
def execFeederShed (tag feeder count : Nat) (s : State) : Host.Outcome State Fault Refusal :=
  .next (request (.feederShed tag feeder count) (feederShed feeder count) s)

/-- SOCKET_RELEASE (R124). -/
def execSocketRelease (tag socket : Nat) (s : State) : Host.Outcome State Fault Refusal :=
  .next (request (.socketRelease tag socket) (socketRelease socket) s)

/-- SOCKET_LOCK (R125). -/
def execSocketLock (tag socket : Nat) (s : State) : Host.Outcome State Fault Refusal :=
  .next (request (.socketLock tag socket) (socketLock socket) s)

/-- SOCKET_UNLOCK (R125). -/
def execSocketUnlock (tag socket : Nat) (s : State) : Host.Outcome State Fault Refusal :=
  .next (request (.socketUnlock tag socket) (socketUnlock socket) s)

/-- SOCKET_REARM (R126). -/
def execSocketRearm (tag socket : Nat) (s : State) : Host.Outcome State Fault Refusal :=
  .next (request (.socketRearm tag socket) (socketRearm socket) s)

/-- POLL_SLOT_END (R85). -/
def execPollSlotEnd (s : State) : Host.Outcome State Fault Refusal :=
  .next (event slotEnd s)

/-- POLL_REPLY (R88). -/
def execPollReply (bytes : List Byte) (inWindow : Bool) (s : State) : Host.Outcome State Fault Refusal :=
  .next (event (pollReply bytes inWindow) s)

/-- HOLD_OFF_EXPIRY (R131). -/
def execHoldOffExpiry (socket : Nat) (s : State) : Host.Outcome State Fault Refusal :=
  .next (event (holdOffEnds socket) s)

/-- TAP_RUN_LIMIT (R97). -/
def execTapRunLimit (tap : Nat) (s : State) : Host.Outcome State Fault Refusal :=
  .next (event (tapLimitReached tap) s)

/-- TAP_NO_FLOW (R97). -/
def execTapNoFlow (tap : Nat) (s : State) : Host.Outcome State Fault Refusal :=
  .next (event (tapFlowStopped tap) s)

end Sys2Proof.Machine
end

