-- ==== Sys2Proof/Machine/Dispatch.lean ====
section
/-! DEFINITION. The dispatch of a command to its meaning, one arm for each constructor of `Instr`. -/

namespace Sys2Proof.Machine

def exec (i : Instr) (s : State) : Host.Outcome State Fault Refusal :=
  match i with
  | .powerOn spa spb backup => Sys2Proof.Machine.execPowerOn spa spb backup s
  | .powerFail => Sys2Proof.Machine.execPowerFail s
  | .resetPinAssert => Sys2Proof.Machine.execResetPinAssert s
  | .resetPinRelease spa spb => Sys2Proof.Machine.execResetPinRelease spa spb s
  | .restartBegin spa spb => Sys2Proof.Machine.execRestartBegin spa spb s
  | .restartTimeout spa spb => Sys2Proof.Machine.execRestartTimeout spa spb s
  | .catchUp => Sys2Proof.Machine.execCatchUp s
  | .fdcStart => Sys2Proof.Machine.execFdcStart s
  | .hostByteReceived byte stopError => Sys2Proof.Machine.execHostByteReceived byte stopError s
  | .frameGapTimeout => Sys2Proof.Machine.execFrameGapTimeout s
  | .hostCtsChange asserted => Sys2Proof.Machine.execHostCtsChange asserted s
  | .transmitFrameDone => Sys2Proof.Machine.execTransmitFrameDone s
  | .requestUnknownKind kind tag => Sys2Proof.Machine.execRequestUnknownKind kind tag s
  | .status tag => Sys2Proof.Machine.execStatus tag s
  | .restart tag => Sys2Proof.Machine.execRestart tag s
  | .sitePut tag items => Sys2Proof.Machine.execSitePut tag items s
  | .siteGet tag params => Sys2Proof.Machine.execSiteGet tag params s
  | .clockSet tag day sec => Sys2Proof.Machine.execClockSet tag day sec s
  | .clockGet tag => Sys2Proof.Machine.execClockGet tag s
  | .berthPut tag start rows => Sys2Proof.Machine.execBerthPut tag start rows s
  | .berthGet tag query => Sys2Proof.Machine.execBerthGet tag query s
  | .tidePut tag rows => Sys2Proof.Machine.execTidePut tag rows s
  | .tideGet tag start count => Sys2Proof.Machine.execTideGet tag start count s
  | .bookAlloc tag new preference => Sys2Proof.Machine.execBookAlloc tag new preference s
  | .bookFixed tag new berth force => Sys2Proof.Machine.execBookFixed tag new berth force s
  | .bookFixedIndex tag booking berth force => Sys2Proof.Machine.execBookFixedIndex tag booking berth force s
  | .bookPlace tag booking preference => Sys2Proof.Machine.execBookPlace tag booking preference s
  | .bookArrive tag booking => Sys2Proof.Machine.execBookArrive tag booking s
  | .bookChange tag booking dep => Sys2Proof.Machine.execBookChange tag booking dep s
  | .bookDepart tag booking => Sys2Proof.Machine.execBookDepart tag booking s
  | .bookCancel tag booking => Sys2Proof.Machine.execBookCancel tag booking s
  | .bookGet tag start count => Sys2Proof.Machine.execBookGet tag start count s
  | .acctOpen tag account limit => Sys2Proof.Machine.execAcctOpen tag account limit s
  | .acctPay tag account amount => Sys2Proof.Machine.execAcctPay tag account amount s
  | .acctLimit tag account limit => Sys2Proof.Machine.execAcctLimit tag account limit s
  | .acctClose tag account => Sys2Proof.Machine.execAcctClose tag account s
  | .acctGet tag start count => Sys2Proof.Machine.execAcctGet tag start count s
  | .tariffPut tag start rows => Sys2Proof.Machine.execTariffPut tag start rows s
  | .tariffGet tag start count => Sys2Proof.Machine.execTariffGet tag start count s
  | .pedestalPut tag start rows => Sys2Proof.Machine.execPedestalPut tag start rows s
  | .pedestalGet tag start count => Sys2Proof.Machine.execPedestalGet tag start count s
  | .socketPut tag start rows => Sys2Proof.Machine.execSocketPut tag start rows s
  | .tapPut tag start rows => Sys2Proof.Machine.execTapPut tag start rows s
  | .tapClose tag tap => Sys2Proof.Machine.execTapClose tag tap s
  | .feederPut tag start rows => Sys2Proof.Machine.execFeederPut tag start rows s
  | .feederGet tag start count => Sys2Proof.Machine.execFeederGet tag start count s
  | .feederBottom tag feeder cls socket => Sys2Proof.Machine.execFeederBottom tag feeder cls socket s
  | .feederPoll tag feeder => Sys2Proof.Machine.execFeederPoll tag feeder s
  | .feederShed tag feeder count => Sys2Proof.Machine.execFeederShed tag feeder count s
  | .socketRelease tag socket => Sys2Proof.Machine.execSocketRelease tag socket s
  | .socketLock tag socket => Sys2Proof.Machine.execSocketLock tag socket s
  | .socketUnlock tag socket => Sys2Proof.Machine.execSocketUnlock tag socket s
  | .socketRearm tag socket => Sys2Proof.Machine.execSocketRearm tag socket s
  | .hosePut tag start rows => Sys2Proof.Machine.execHosePut tag start rows s
  | .hoseGet tag start count => Sys2Proof.Machine.execHoseGet tag start count s
  | .hoseAuth tag auth => Sys2Proof.Machine.execHoseAuth tag auth s
  | .hoseStop tag hose => Sys2Proof.Machine.execHoseStop tag hose s
  | .pricePut tag start rows => Sys2Proof.Machine.execPricePut tag start rows s
  | .priceGet tag => Sys2Proof.Machine.execPriceGet tag s
  | .salePeek tag number => Sys2Proof.Machine.execSalePeek tag number s
  | .saleTake tag number => Sys2Proof.Machine.execSaleTake tag number s
  | .credPut tag start rows => Sys2Proof.Machine.execCredPut tag start rows s
  | .credGet tag query => Sys2Proof.Machine.execCredGet tag query s
  | .credSuspend tag cred => Sys2Proof.Machine.execCredSuspend tag cred s
  | .credResume tag cred => Sys2Proof.Machine.execCredResume tag cred s
  | .credFree tag cred => Sys2Proof.Machine.execCredFree tag cred s
  | .gatePut tag start rows => Sys2Proof.Machine.execGatePut tag start rows s
  | .gateGet tag start count => Sys2Proof.Machine.execGateGet tag start count s
  | .gateMode tag gate mode => Sys2Proof.Machine.execGateMode tag gate mode s
  | .gatePulse tag gate => Sys2Proof.Machine.execGatePulse tag gate s
  | .rollover => Sys2Proof.Machine.execRollover s
  | .settlementInterval => Sys2Proof.Machine.execSettlementInterval s
  | .bandBoundary begins => Sys2Proof.Machine.execBandBoundary begins s
  | .clockStop => Sys2Proof.Machine.execClockStop s
  | .pollSlotEnd => Sys2Proof.Machine.execPollSlotEnd s
  | .pollReply bytes inWindow => Sys2Proof.Machine.execPollReply bytes inWindow s
  | .holdOffExpiry socket => Sys2Proof.Machine.execHoldOffExpiry socket s
  | .tapRunLimit tap => Sys2Proof.Machine.execTapRunLimit tap s
  | .tapNoFlow tap => Sys2Proof.Machine.execTapNoFlow tap s
  | .nozzleLift hose => Sys2Proof.Machine.execNozzleLift hose s
  | .nozzleHang hose => Sys2Proof.Machine.execNozzleHang hose s
  | .pulse hose => Sys2Proof.Machine.execPulse hose s
  | .authTimeout hose => Sys2Proof.Machine.execAuthTimeout hose s
  | .noFlow hose => Sys2Proof.Machine.execNoFlow hose s
  | .keyEvent terminal key => Sys2Proof.Machine.execKeyEvent terminal key s
  | .interKeyTimeout terminal => Sys2Proof.Machine.execInterKeyTimeout terminal s
  | .lockoutExpiry terminal => Sys2Proof.Machine.execLockoutExpiry terminal s
  | .cardRead terminal exitReader token => Sys2Proof.Machine.execCardRead terminal exitReader token s
  | .cardWindowExpiry gate => Sys2Proof.Machine.execCardWindowExpiry gate s
  | .doorContact gate opens => Sys2Proof.Machine.execDoorContact gate opens s
  | .releaseTimeout gate => Sys2Proof.Machine.execReleaseTimeout gate s
  | .heldTimeout gate => Sys2Proof.Machine.execHeldTimeout gate s
  | .exitButton gate => Sys2Proof.Machine.execExitButton gate s
  | .autoArrive => Sys2Proof.Machine.execAutoArrive s
  | .fuelWindowExpiry => Sys2Proof.Machine.execFuelWindowExpiry s
  | .selfServeOffer => Sys2Proof.Machine.execSelfServeOffer s
  | .lampExpiry => Sys2Proof.Machine.execLampExpiry s
  | .keypadFullScan terminal reading => Sys2Proof.Machine.execKeypadFullScan terminal reading s
  | .backupSupplyFail => Sys2Proof.Machine.execBackupSupplyFail s

end Sys2Proof.Machine
end

