-- ==== Sys2Proof/WellFormed.lean ====
section
/-! DEFINITION. Well-formed commands: every operand is one that the line's field (R202) or the pin's number can carry. A
request that is not well-formed is no frame, and a pin event that is not names no pin. -/

namespace Sys2Proof

/-- A number that a field of a given size can carry (R202). -/
def fits (size v : Nat) : Bool := decide (v < 256 ^ size)

/-- A signed number that a field of a given size can carry (R202). -/
def fitsSigned (size : Nat) (v : Int) : Bool :=
  decide (-((256 ^ size / 2 : Nat) : Int) ≤ v) && decide (v < ((256 ^ size / 2 : Nat) : Int))

/-- An optional number, when present, fits its field. -/
def optFits (size : Nat) (v : Option Nat) : Bool := (v.map (fits size)).getD true

/-- A time fits its field (R202). -/
def stampFits (t : Stamp) : Bool := fits 2 t.day && fits 3 t.sec

/-- Every row of a put is well-formed, and there are as many as a body has room for (R190, R191). -/
def rowsFit {α : Type} (most : Nat) (row : α → Bool) (rows : List (PutItem α)) : Bool :=
  within 1 most rows.length && rows.all fun | .row r => row r | .badItem => true

def BerthRow.wf (r : BerthRow) : Bool :=
  fits 1 r.pontoon && fits 1 r.cls && fits 1 r.state && fits 2 r.maxLoa && fits 2 r.maxBeam && fits 2 r.depth && fits 4 r.fee
def TideRow.wf (r : TideRow) : Bool := fits 2 r.day && (r.height.map (fitsSigned 2)).getD true
def TariffRow.wf (r : TariffRow) : Bool := fits 2 r.dayRate && fits 2 r.nightRate && fits 2 r.waterRate
def PedestalRow.wf (r : PedestalRow) : Bool := fits 1 r.feeder
def SocketRow.wf (r : SocketRow) : Bool := optFits 1 r.berth && fits 1 r.rating && fits 1 r.cls && fits 1 r.tariff
def TapRow.wf (r : TapRow) : Bool := optFits 1 r.berth && fits 1 r.tariff && fits 1 r.runLimit
def FeederRow.wf (r : FeederRow) : Bool :=
  fits 2 r.limit && fits 1 r.diversity && fits 1 r.tripCount && fits 1 r.bypassLimit && fits 1 r.retry && fits 1 r.holdOff
def HoseRow.wf (r : HoseRow) : Bool :=
  fits 1 r.grade && fits 2 r.p10 && fits 4 r.slowDown && fits 2 r.authTimeout && fits 2 r.noFlowTimeout && fits 4 r.volumeCap
/-- A PIN as its field carries it: at most 8 digits, each in a half byte (R202). -/
def pinFits (p : List Nat) : Bool := decide (p.length ≤ 8) && p.all fun d => decide (d < 16)
def CredRow.wf (r : CredRow) : Bool :=
  fits 1 r.state && fits 1 r.kind && optFits 4 r.token && (r.pin.map pinFits).getD true && optFits 2 r.booking &&
  optFits 1 r.account && fits 1 r.gateSet && (r.validFrom.map stampFits).getD true &&
  (r.validUntil.map stampFits).getD true && optFits 1 r.location
def GateRow.wf (r : GateRow) : Bool :=
  fits 1 r.pontoon && fits 1 r.antiPassback && fits 1 r.releaseTime && fits 2 r.heldTime
def SiteItem.wf (r : SiteItem) : Bool := within 0 8 r.param && fitsSigned 4 r.value
def NewBooking.wf (n : NewBooking) : Bool :=
  fits 1 n.account && fits 2 n.loa && fits 2 n.beam && fits 2 n.draught && fits 2 n.arr && fits 2 n.dep
def AuthRequest.wf (a : AuthRequest) : Bool :=
  fits 1 a.hose && fits 1 a.mode && optFits 1 a.account && optFits 4 a.prepaid && fits 1 a.presetKind && optFits 4 a.presetValue
def BerthQuery.wf : BerthQuery → Bool
  | .entries start count => fits 1 start && fits 1 count
  | .calendar berth position => fits 1 berth && fits 2 position
def CredQuery.wf : CredQuery → Bool
  | .entries start count => fits 2 start && fits 1 count
  | .token t => fits 4 t
def KeyReading.wf : KeyReading → Bool
  | .none => true
  | .one key => within 0 11 key
  | .multi => true

/-- Every operand of a command is one that the line or the pin can carry. -/
def Instr.wf : Instr → Bool
  | .powerOn _ _ _ => true
  | .powerFail => true
  | .resetPinAssert => true
  | .resetPinRelease _ _ => true
  | .restartBegin _ _ => true
  | .restartTimeout _ _ => true
  | .catchUp => true
  | .fdcStart => true
  | .hostByteReceived _ _ => true
  | .frameGapTimeout => true
  | .hostCtsChange _ => true
  | .transmitFrameDone => true
  | .requestUnknownKind kind tag => fits 1 kind && fits 1 tag && (requestReader kind tag).isNone
  | .status tag => fits 1 tag
  | .restart tag => fits 1 tag
  | .sitePut tag items => fits 1 tag && rowsFit 16 SiteItem.wf items
  | .siteGet tag ps => fits 1 tag && within 0 16 ps.length && ps.all (within 0 8)
  | .clockSet tag day sec => fits 1 tag && fits 2 day && fits 3 sec
  | .clockGet tag => fits 1 tag
  | .berthPut tag start rows => fits 1 tag && fits 1 start && rowsFit 15 BerthRow.wf rows
  | .berthGet tag query => fits 1 tag && query.wf
  | .tidePut tag rows => fits 1 tag && rowsFit 16 TideRow.wf rows
  | .tideGet tag start count => fits 1 tag && fits 2 start && fits 1 count
  | .bookAlloc tag n preference => fits 1 tag && n.wf && fits 1 preference
  | .bookFixed tag n berth _ => fits 1 tag && n.wf && fits 1 berth
  | .bookFixedIndex tag booking berth _ => fits 1 tag && fits 2 booking && fits 1 berth
  | .bookPlace tag booking preference => fits 1 tag && fits 2 booking && fits 1 preference
  | .bookArrive tag booking => fits 1 tag && fits 2 booking
  | .bookChange tag booking dep => fits 1 tag && fits 2 booking && fits 2 dep
  | .bookDepart tag booking => fits 1 tag && fits 2 booking
  | .bookCancel tag booking => fits 1 tag && fits 2 booking
  | .bookGet tag start count => fits 1 tag && fits 2 start && fits 1 count
  | .acctOpen tag account limit => fits 1 tag && fits 1 account && fits 4 limit
  | .acctPay tag account amount => fits 1 tag && fits 1 account && fitsSigned 6 amount
  | .acctLimit tag account limit => fits 1 tag && fits 1 account && fits 4 limit
  | .acctClose tag account => fits 1 tag && fits 1 account
  | .acctGet tag start count => fits 1 tag && fits 1 start && fits 1 count
  | .tariffPut tag start rows => fits 1 tag && fits 1 start && rowsFit 15 TariffRow.wf rows
  | .tariffGet tag start count => fits 1 tag && fits 1 start && fits 1 count
  | .pedestalPut tag start rows => fits 1 tag && fits 1 start && rowsFit 15 PedestalRow.wf rows
  | .pedestalGet tag start count => fits 1 tag && fits 1 start && fits 1 count
  | .socketPut tag start rows => fits 1 tag && fits 1 start && rowsFit 15 SocketRow.wf rows
  | .tapPut tag start rows => fits 1 tag && fits 1 start && rowsFit 15 TapRow.wf rows
  | .tapClose tag tap => fits 1 tag && fits 1 tap
  | .feederPut tag start rows => fits 1 tag && fits 1 start && rowsFit 15 FeederRow.wf rows
  | .feederGet tag start count => fits 1 tag && fits 1 start && fits 1 count
  | .feederBottom tag feeder cls socket => fits 1 tag && fits 1 feeder && fits 1 cls && fits 1 socket
  | .feederPoll tag feeder => fits 1 tag && fits 1 feeder
  | .feederShed tag feeder count => fits 1 tag && fits 1 feeder && fits 1 count
  | .socketRelease tag socket => fits 1 tag && fits 1 socket
  | .socketLock tag socket => fits 1 tag && fits 1 socket
  | .socketUnlock tag socket => fits 1 tag && fits 1 socket
  | .socketRearm tag socket => fits 1 tag && fits 1 socket
  | .hosePut tag start rows => fits 1 tag && fits 1 start && rowsFit 15 HoseRow.wf rows
  | .hoseGet tag start count => fits 1 tag && fits 1 start && fits 1 count
  | .hoseAuth tag auth => fits 1 tag && auth.wf
  | .hoseStop tag hose => fits 1 tag && fits 1 hose
  | .pricePut tag start rows => fits 1 tag && fits 1 start && rowsFit 15 (fits 4) rows
  | .priceGet tag => fits 1 tag
  | .salePeek tag number => fits 1 tag && optFits 2 number
  | .saleTake tag number => fits 1 tag && optFits 2 number
  | .credPut tag start rows => fits 1 tag && fits 2 start && rowsFit 15 CredRow.wf rows
  | .credGet tag query => fits 1 tag && query.wf
  | .credSuspend tag cred => fits 1 tag && fits 2 cred
  | .credResume tag cred => fits 1 tag && fits 2 cred
  | .credFree tag cred => fits 1 tag && fits 2 cred
  | .gatePut tag start rows => fits 1 tag && fits 1 start && rowsFit 15 GateRow.wf rows
  | .gateGet tag start count => fits 1 tag && fits 1 start && fits 1 count
  | .gateMode tag gate mode => fits 1 tag && fits 1 gate && fits 1 mode
  | .gatePulse tag gate => fits 1 tag && fits 1 gate
  | .rollover => true
  | .settlementInterval => true
  | .bandBoundary _ => true
  | .clockStop => true
  | .pollSlotEnd => true
  | .pollReply _ _ => true
  | .holdOffExpiry socket => within 0 255 socket
  | .tapRunLimit tap => within 0 127 tap
  | .tapNoFlow tap => within 0 127 tap
  | .nozzleLift hose => within 1 4 hose
  | .nozzleHang hose => within 1 4 hose
  | .pulse hose => within 1 4 hose
  | .authTimeout hose => within 1 4 hose
  | .noFlow hose => within 1 4 hose
  | .keyEvent terminal key => within 1 7 terminal && within 0 11 key
  | .interKeyTimeout terminal => within 1 7 terminal
  | .lockoutExpiry terminal => within 1 7 terminal
  | .cardRead terminal exitReader token => within 1 7 terminal && (!exitReader || within 1 6 terminal) && fits 4 token
  | .cardWindowExpiry gate => within 1 6 gate
  | .doorContact gate _ => within 1 6 gate
  | .releaseTimeout gate => within 1 6 gate
  | .heldTimeout gate => within 1 6 gate
  | .exitButton gate => within 1 6 gate
  | .autoArrive => true
  | .fuelWindowExpiry => true
  | .selfServeOffer => true
  | .lampExpiry => true
  | .keypadFullScan terminal reading => within 1 7 terminal && reading.wf
  | .backupSupplyFail => true

/-- A command is well-formed. -/
def WellFormed (i : Instr) : Prop := i.wf = true

end Sys2Proof
end

