-- ==== Sys2Proof/Safety.lean ====
section
/-! DEFINITION. The words in which claims about the part are made: which blocks a command leaves as they were, the reply
it places in the slot, the notices it raises, what a start keeps, and the form every reachable state has. -/

namespace Sys2Proof.Machine

/-! ## What stays as it was -/

/-- The blocks of the manual's block table, with the supply and the input pins as a part of their own. -/
inductive Part where
  | supply
  | link
  | clock
  | berths
  | accounts
  | line
  | feeders
  | fuel
  | gates
deriving DecidableEq, Repr

/-- The link but for its transmit side: the receiver, the frames that wait, the start's cause, the speed, and the restart
that may be awaited. -/
structure LinkKept (h k : Hlc) : Prop where
  rxState : k.rxState = h.rxState
  rxBytes : k.rxBytes = h.rxBytes
  waiting : k.waiting = h.waiting
  cause : k.cause = h.cause
  speed : k.speed = h.speed
  restart : k.restart = h.restart

/-- Every block but those listed is as it was, and so is the queue of commands. Every block may raise a notice and every
request is answered, so of the link it is the receiving side that stays, unless the link is listed. -/
structure SameBut (parts : List Part) (s t : State) : Prop where
  pending : t.pending = s.pending
  supply : Part.supply ∈ parts ∨ t.sup = s.sup
  link : Part.link ∈ parts ∨ LinkKept s.hlc t.hlc
  clock : Part.clock ∈ parts ∨ t.clk = s.clk
  berths : Part.berths ∈ parts ∨ t.bal = s.bal
  accounts : Part.accounts ∈ parts ∨ t.acu = s.acu
  line : Part.line ∈ parts ∨ t.pdl = s.pdl
  feeders : Part.feeders ∈ parts ∨ t.far = s.far
  fuel : Part.fuel ∈ parts ∨ t.fdc = s.fdc
  gates : Part.gates ∈ parts ∨ t.gtc = s.gtc

/-- The blocks that the message of an account's change of hold state may reach (R51), with the account unit's own. -/
def holdParts : List Part := [.accounts, .feeders, .line, .gates]

/-! ## Replies and notices -/

/-- A request is taken as soon as its frame has arrived: the part runs, the reply slot is empty, no restart is awaited and
no frame waits before it (R194, R199). -/
def State.takes (s : State) : Bool := s.running && mayTake s.hlc && s.hlc.waiting.isEmpty

/-- The reply in the slot (R194, R206). -/
def State.reply (s : State) : Option Reply := s.hlc.slot.map (·.reply)

/-- A command leads to a state in which a request of a kind and a tag has an answer in the slot. -/
def Replies (i : Instr) (s t : State) (kind tag : Nat) (answer : Answer) : Prop :=
  exec i s = .next t ∧ t.reply = some ⟨kind, tag, answer⟩

/-- The notices that have still to leave, oldest first: the one being sent, and those in the queue (R195, R196). -/
def Hlc.outgoing (h : Hlc) : List Notice :=
  match h.tx with
  | some (.notice n _) => n :: h.notices
  | some (.reply _) => h.notices
  | none => h.notices

/-- A state has, after those another had to send, notices of given reports stamped with the clock of that other, as long
as the queue has room for them (R196). -/
def Raises (bodies : List NoticeBody) (s t : State) : Prop :=
  s.hlc.notices.length + bodies.length ≤ noticeCapacity →
    t.hlc.outgoing = s.hlc.outgoing ++ bodies.map fun b => ⟨s.now, b⟩

/-- A command leaves the part as an operation has left it, but for the reply in the slot and for the frame the transmit path
may have begun since (R194, R195), which takes the oldest notice off the queue and leaves what has still to leave as it
was. -/
structure AsLeft (u t : State) : Prop where
  blocks : t = { u with hlc := t.hlc }
  link : LinkKept u.hlc t.hlc
  outgoing : t.hlc.outgoing = u.hlc.outgoing

/-- A reply that says only that the request was accepted. -/
def okAnswer : Answer := ⟨.ok, 0, []⟩

/-- The answer of a multi-row put all of whose rows were written (R191). -/
def rowsWritten (n : Nat) : Answer := ⟨.ok, n, []⟩

/-! ## Commands in a row -/

/-- The state after commands in order, one that ends in no next state leaving it as it was. -/
def runAll : List Instr → State → State
  | [], s => s
  | i :: rest, s =>
    match exec i s with
    | .next t => runAll rest t
    | .fault _ => runAll rest s
    | .refused _ => runAll rest s

/-! ## Starts -/

/-- The retained domain is as it was (R200): the clock with its site parameters, the BAL's and the ACU's tables, and the
retained fields of the other blocks. -/
structure RetainedKept (s t : State) : Prop where
  clock : t.clk = { s.clk with
    settleTimer := t.clk.settleTimer, catchUpDue := t.clk.catchUpDue, settleDue := t.clk.settleDue,
    bandDue := t.clk.bandDue, uptime := t.clk.uptime }
  berths : t.bal = { s.bal with arrivals := t.bal.arrivals }
  accounts : t.acu = s.acu
  pedestals : t.pdl.pedestals = s.pdl.pedestals
  sockets : t.pdl.sockets = s.pdl.sockets
  taps : t.pdl.taps = s.pdl.taps
  socketMeters : t.pdl.socketMeters = s.pdl.socketMeters
  tapMeters : t.pdl.tapMeters = s.pdl.tapMeters
  feeders : t.far.cfg = s.far.cfg
  hoses : t.fdc.cfg = s.fdc.cfg
  prices : t.fdc.prices = s.fdc.prices
  sales : t.fdc.sales = s.fdc.sales
  nextSale : t.fdc.nextSale = s.fdc.nextSale
  cap : t.fdc.cap = s.fdc.cap
  creds : t.gtc.creds = s.gtc.creds
  gates : t.gtc.cfg = s.gtc.cfg

/-- STARTED of a start of a cause (R201). -/
def startedNotice (cause : Cause) (spa spb backup : Bool) (s : State) : Notice :=
  ⟨s.now, .started cause (speedOf spa spb) s.clk.isSet s.now backup⟩

/-- The notice of a gate whose contact is OPEN at a start: an opening in SECURE, or in OPEN_HOLD (R163, R179; log entry
36). -/
def openGateNotice (s : State) (gate : Nat) : Notice :=
  ⟨s.now, if (s.gateCfg gate).mode = .openHold then .gatePassage gate .none none false else .gateForced gate⟩

/-- A gate at a start, read from its contact (R163, R185). -/
def startedGate (s : State) (gate : Nat) : Gate :=
  if s.contact gate then
    ⟨if (s.gateCfg gate).mode = .openHold then .opened else .forcedAlarm, true, none, none, none, none, false⟩
  else ⟨.secure, false, none, none, none, none, false⟩

/-- A start of a cause with the straps read has been made (R200, R201): the retained domain is as it was, the receiver
hunts, no frame waits, the slot is empty, STARTED is the first notice and those of the gates found open follow, and every
volatile field has its start value; the first scan begins with KEEP (R86, R102), and the hoses and the gates are read from
their pins, the sockets from their static records. -/
structure Started (cause : Cause) (spa spb : Bool) (s t : State) : Prop where
  running : t.running = true
  retained : RetainedKept s t
  supply : t.sup =
    { s.sup with main := true, resetHeld := false, startDue := false, spa, spb, backup := t.sup.backup }
  rxState : t.hlc.rxState = .hunt
  rxBytes : t.hlc.rxBytes = []
  waiting : t.hlc.waiting = []
  slot : t.hlc.slot = none
  dropped : t.hlc.dropped = false
  lastCause : t.hlc.cause = cause
  lineSpeed : t.hlc.speed = speedOf spa spb
  restart : t.hlc.restart = none
  sending : t.hlc.tx =
    if s.sup.hostCts then some (.notice (startedNotice cause spa spb t.sup.backup s) false) else none
  notices : t.hlc.outgoing =
    startedNotice cause spa spb t.sup.backup s :: ([1, 2, 3, 4, 5, 6].filter s.contact).map (openGateNotice s)
  settleTimer : t.clk.settleTimer = nextInterval s.clk.interval s.clk.sec
  catchUp : t.clk.catchUpDue = true
  settleDue : t.clk.settleDue = false
  bandDue : t.clk.bandDue = none
  timeBase : t.clk.uptime = 0
  arrivals : t.bal.arrivals = []
  links : t.pdl.links = []
  reports : t.pdl.reports = []
  runs : t.pdl.runs = []
  acks : t.pdl.acks = []
  poll : t.pdl.poll = s.configuredPedestals.head?.map fun a =>
    ⟨a, [.keep, .keep, .keep, .keep], [false, false], [false, false]⟩
  replied : t.pdl.replied = false
  sockets : t.far.sockets = startSockets s.pdl.sockets
  feeders : t.far.feeders = []
  counter : t.far.counter = 0
  notReady : t.fdc.ready = false
  hoses : ∀ h ∈ [1, 2, 3, 4], t.hose h = if s.nozzle h then startHoseLifted else startHose
  gates : ∀ g ∈ [1, 2, 3, 4, 5, 6], t.gate g = startedGate s g
  relays : ∀ g ∈ [1, 2, 3, 4, 5, 6], t.relayOut g = decide ((s.gateCfg g).mode = .openHold)
  terminals : t.gtc.terminals = []
  dock : t.gtc.fuel = startFuelTerminal
  keys : t.gtc.keyEvents = []

/-! ## Bookings -/

/-- R16, checks 1 to 5: a new booking's fields are within their ranges, its nights begin within a year of the current night,
and its account is OPEN. -/
structure Acceptable (n : NewBooking) (s : State) : Prop where
  clockSet : s.clk.isSet = true
  account : 1 ≤ n.account ∧ n.account ≤ 255
  loa : 20 ≤ n.loa ∧ n.loa ≤ 1000
  beam : 10 ≤ n.beam ∧ n.beam ≤ 300
  draught : 50 ≤ n.draught ∧ n.draught ≤ 1000
  nights : n.arr < n.dep ∧ n.dep ≤ n.arr + 60 ∧ n.dep ≤ 65535
  arrival : s.night ≤ n.arr ∧ n.arr ≤ s.night + 365
  opened : (s.account n.account).state = .opened

/-- A new booking's record on its berth (R17, R18). -/
def newRecord (n : NewBooking) (berth : Nat) : Booking :=
  { state := .confirmed, account := n.account, berth := some berth, loa := n.loa, beam := n.beam, draught := n.draught,
    arr := n.arr, dep := n.dep, arrivedTime := none, departedTime := none, closedTime := none, nightsCharged := 0,
    overstay := 0 }

/-- R30: an arrival judged on a booking takes a case, and that case's test passes. -/
def ArrivesAs (s : State) (booking : Nat) (case : ArriveCase) : Prop :=
  let k := s.booking booking
  let berth := k.berth.getD 0
  match case with
  | .onTime => k.arr ≤ s.night ∧ s.arrivedOn berth = none
  | .morning => s.night + 1 = k.arr ∧ s.clk.day = k.arr ∧ s.arrivedOn berth = none
  | .early => s.night < k.arr ∧ ¬(s.night + 1 = k.arr ∧ s.clk.day = k.arr) ∧
      s.nightsFree berth (some booking) s.night k.arr = true

/-- Only one record of the booking table differs, and nothing else of the BAL. -/
def OnlyBooking (b : Nat) (s t : State) : Prop :=
  t.bal = { s.bal with bookings := t.bal.bookings } ∧ ∀ j, j ≠ b → t.booking j = s.booking j

/-- Only one account differs, and nothing else of the ACU. -/
def OnlyAccount (a : Nat) (s t : State) : Prop :=
  t.acu = { s.acu with accounts := t.acu.accounts } ∧ ∀ j, j ≠ a → t.account j = s.account j

/-! ## Fuel -/

/-- What R152 step 2 leaves of a state in which a sale ends: its charged sum and its M handed to the ACU. -/
def handedOver (x : Sale) (u : State) : State := handToAcu x (min (amountOf x.price x.volume) x.maxAmount) u

/-- A hose's sale has ended with a reason, from a state `u` in which the ending event's own reading is kept: its record is
DONE as R152 gives, no other record differs, the ACU has the charge and the earmark back and has told the other blocks of a
change of hold state, the hose has the state and no sale, and SALE(DONE) is the last notice. -/
structure SaleEnded (hose : Nat) (x : Sale) (reason : EndReason) (state : HoseState) (u t : State) : Prop where
  sales : t.fdc.sales = u.fdc.sales.map fun y => if y.number = x.number then finished x reason u.now else y
  ended : t.hose hose = ⟨state, (u.hose hose).lifted, none, none, none, 0, false⟩
  others : ∀ h, h ≠ hose → t.hose h = u.hose h
  rest : t.fdc = { u.fdc with sales := t.fdc.sales, hoses := t.fdc.hoses }
  parts : SameBut (.fuel :: holdParts) u t
  accounts : t.acu = (handedOver x u).acu
  feeders : t.far = (handedOver x u).far
  line : t.pdl = (handedOver x u).pdl
  gates : t.gtc = (handedOver x u).gtc
  notice : (handedOver x u).hlc.notices.length < noticeCapacity →
    t.hlc.outgoing = (handedOver x u).hlc.outgoing ++ [⟨u.now, saleNotice (finished x reason u.now)⟩]

/-- R147, R148: the fuelling state a volume gives against a volume limit and a slow-down volume. -/
def FlowsAt (volume limit slow : Nat) (state : HoseState) : Prop :=
  (limit ≤ volume ∧ state = .closing) ∨ (volume < limit ∧ limit ≤ volume + slow ∧ state = .slow) ∨
  (volume + slow < limit ∧ state = .fuelling)

/-! ## Checks in the order of their rule -/

/-- The outcome of the first check that fails, if one does. -/
def firstFailed {α : Type} (checks : List (Bool × α)) : Option α := (checks.find? (·.1)).map (·.2)

/-- R141 checks 1 to 7 for a self-serve offer, a cap of 0 refused with a price of 0 (R145), behind R155's: before the start
processing is complete every offer is refused STATE. -/
def offerChecks (s : State) (o : Offer) : List (Bool × Status) :=
  let state := (s.hose o.hose).state
  let a := o.account.getD 0
  let k := s.account a
  [(!s.fdc.ready, .state),
   (decide (o.hose < 1 ∨ 4 < o.hose ∨ o.account = none ∨ 255 < a), .range),
   (decide (state ≠ .idle ∧ state ≠ .calling), .state),
   (decide (s.price (s.hoseCfg o.hose).grade = 0 ∨ s.fdc.cap = 0), .range),
   (decide (16 ≤ s.fdc.sales.length), .full),
   (decide (k.state = .free), .noSuch),
   (decide (k.state = .held), .held),
   (decide (a ≠ 0 ∧ k.balance + k.limit - k.earmark ≤ 0), .credit)]

/-- R173 for a credential without a booking: its window's two ends, and the clock it needs where it has either. -/
def windowChecks (s : State) (c : Cred) : List (Bool × GateRefusal) :=
  [(decide (c.validFrom ≠ none ∨ c.validUntil ≠ none) && !s.clk.isSet, .notYet),
   (c.validFrom.any fun t => decide (s.clk.day < t.day ∨ s.clk.day = t.day ∧ s.clk.sec < t.sec), .notYet),
   (c.validUntil.any fun t => decide (t.day < s.clk.day ∨ t.day = s.clk.day ∧ t.sec ≤ s.clk.sec), .expired)]

/-- R173 for a credential with a booking; one that is FREE or closed is EXPIRED by the model's choice (log entry 30). -/
def bookingChecks (s : State) (k : Booking) : List (Bool × GateRefusal) :=
  [(decide (k.state = .confirmed) && !s.clk.isSet, .notYet),
   (decide (k.state = .confirmed ∧ s.clk.day < k.arr), .notYet),
   (decide (k.state = .confirmed ∧ k.dep ≤ s.night), .expired),
   (decide (k.state = .unplaced), .noBerth),
   (decide (k.state ∈ [BookState.free, .departed, .cancelled, .noShow]), .expired)]

/-- R156, R172 check 6, R181 check 6: the credential's account, its booking's where it has one, is on HOLD. -/
def heldAccount (s : State) (c : Cred) : Bool :=
  match c.booking with
  | some b => decide ((s.account (s.booking b).account).state = .held)
  | none => c.account.any fun a => decide ((s.account a).state = .held)

/-- R172, check by check: the door, LOCKDOWN, SUSPENDED, the validity of R173, the gate set or a berth gate, HOLD, and R174's
HARD mode. -/
def entryChecks (s : State) (gate : Nat) (c : Cred) : List (Bool × GateRefusal) :=
  let berthGate : Bool :=
    c.berthGates && (c.booking.bind fun b => (s.booking b).berth).any fun berth =>
      decide ((s.gateCfg gate).pontoon = (s.berth berth).pontoon)
  [(decide ((s.gate gate).door ≠ .secure), .busy),
   (decide ((s.gateCfg gate).mode = .lockdown), .lockdown),
   (decide (c.state = .suspended), .suspended)] ++
  (match c.booking with
    | some b => bookingChecks s (s.booking b)
    | none => windowChecks s c) ++
  [(!(c.gateSet.testBit (gate - 1) || berthGate), .gate),
   (heldAccount s c, .held),
   (decide ((s.gateCfg gate).antiPassback = .hard ∧ c.location = .pontoon), .passback)]

/-- R181, checks 3 to 6. -/
def dockChecks (s : State) (c : Cred) : List (Bool × GateRefusal) :=
  [(decide (c.state = .suspended), .suspended),
   (!c.fuel || decide (c.booking = none ∧ c.account = none), .gate)] ++
  (if c.booking = none then windowChecks s c else []) ++
  [(heldAccount s c, .held)]

/-! ## The form of every reachable state -/

/-- The clock's fields are within their ranges (R69, R71). -/
def Clk.inRange (c : Clk) : Prop :=
  c.day ≤ 65535 ∧ c.sec ≤ 86399 ∧ c.frac ≤ 255 ∧ c.rollHour ≤ 23 ∧ c.dayHour ≤ 23 ∧ c.nightHour ≤ 23 ∧
  c.dayHour ≠ c.nightHour ∧ c.interval ∈ intervals

/-- An account's balance and limit are within their bounds (R47, R49). -/
def Account.inRange (k : Account) : Prop :=
  -balanceBound ≤ k.balance ∧ k.balance ≤ balanceBound ∧ k.limit ≤ limitMax

/-- What every step keeps: the notice queue holds at most 32 notices (R196), the sale record queue at most 16 records
(R137), the clock's fields and every account's are within their ranges (R47, R69, R71), account 0 is OPEN (R48), and every
residue is below 1000 (R62). -/
structure Inv (s : State) : Prop where
  notices : s.hlc.notices.length ≤ noticeCapacity
  sales : s.fdc.sales.length ≤ 16
  clock : s.clk.inRange
  accounts : ∀ a, (s.account a).inRange
  house : (s.account 0).state = .opened
  residues : ∀ n, (s.socketAcct n).residue < 1000 ∧ s.tapResidue n < 1000

/-- The reservations the sockets on a feeder hold (R106). -/
def State.reservedOn (s : State) (feeder : Nat) : Nat :=
  ((s.far.sockets.filter fun e => decide (s.feederOf e.1 = feeder)).map fun e => e.2.reservation.getD 0).sum

/-- What every step keeps of the feeders: a socket holds a reservation exactly while it is GRANTED or ENERGISED (R103), a
feeder's reserved sum is what its sockets hold (R106) and is within the limit, a feeder's pending set is ascending and holds
PENDING sockets of its own, and its blocking request is one of them (R105, R113), and a PENDING socket shows a plug (R105).
The two tables the sums run over are in their form (log entry 3). -/
structure FeedersSound (s : State) : Prop where
  sockets : tableOk startSocket s.far.sockets = true
  static : tableOk coldSocketCfg s.pdl.sockets = true
  held : ∀ n, (s.socket n).reservation.isSome = (s.socket n).supplied
  reserved : ∀ f, (s.feeder f).reserved = s.reservedOn f
  limit : ∀ f, (s.feeder f).reserved ≤ (s.feederCfg f).limit
  pending : ∀ f n, n ∈ (s.feeder f).pending → (s.socket n).state = .pending ∧ s.feederOf n = f
  ascending : ∀ f, (s.feeder f).pending.Pairwise (· < ·)
  blocking : ∀ f n, (s.feeder f).blocking = some n → n ∈ (s.feeder f).pending
  plugs : ∀ n, (s.socket n).state = .pending → s.plugged n = true

end Sys2Proof.Machine
end

