-- ==== Sys2Proof/Certificates/Slice0/Obligations.lean ====
section
/-! DEFINITION. The statements for the provers, chapter by chapter: the link and the starts, the clock, the berths and
bookings, the accounts, the pedestal line, the feeders, the fuel dock, the gates, and what every step keeps. -/

open Sys2Proof Sys2Proof.Machine

/-! ## The block, its link and its starts -/

/-- The command at the front of the queue is the one a step takes, and it runs on the state with the rest of the queue.
-/
def Obligations.StepTakesTheFrontCommand : Prop :=
  ∀ (c : Instr) (s : State), step { s with pending := c :: s.pending } = exec c s

/-- R190, R202 to R205, R209: the frame in which a request travels fits the line and is judged as that request, with
every operand at every value its field can carry; a frame of another kind is judged as of an unknown kind. The layouts the
encoder and the reader share are log entry 17's. -/
def Obligations.RequestFramesDecodeToTheirRequest : Prop :=
  ∀ (i : Instr) (r : RawRequest), WellFormed i → encodeRequest i = some r →
    r.kind < 256 ∧ r.tag < 256 ∧ (itemBytes r.items).length ≤ 1024 ∧
    decodeRequest r.kind r.tag (itemBytes r.items) =
      match i with
      | .requestUnknownKind _ _ => .unknownKind
      | _ => .request i

/-- R188, R189: the bytes of a good frame that come one after another to a hunting receiver with room for them put the
frame behind those that wait, and the receiver hunts again; nothing but the link changes. -/
def Obligations.GoodFrameJoinsTheReceiveBuffer : Prop :=
  ∀ (kind tag : Nat) (body : List Byte) (s : State),
    kind < 256 → tag < 256 → body.length ≤ 1024 → s.running = true → s.hlc.rxState = .hunt → s.hlc.rxBytes = [] →
    7 + body.length ≤ freeSpace s.hlc →
    let t := runAll ((frameBytes kind tag body).map fun b => .hostByteReceived b false) s
    t.hlc.rxState = .hunt ∧ t.hlc.rxBytes = [] ∧ t.hlc.waiting = s.hlc.waiting ++ [⟨kind, tag, body⟩] ∧
    t.reply = s.reply ∧ t.hlc.outgoing = s.hlc.outgoing ∧ SameBut [.link] s t

/-- R188 (HUNT): with room in the buffer, 0x7B begins a frame and any other byte is discarded. R186, R189: a stop-bit
error or a gap in a frame abandons the frame in reception: no reply, no notice, and nothing changes but the receiver. -/
def Obligations.ReceiverBeginsAndAbandonsFrames : Prop :=
  (∀ (b : Byte) (s : State), s.running = true → s.hlc.rxState = .hunt → 0 < freeSpace s.hlc →
     ∃ t, exec (.hostByteReceived b false) s = .next t ∧ SameBut [.link] s t ∧
       t.hlc.waiting = s.hlc.waiting ∧ t.reply = s.reply ∧ t.hlc.outgoing = s.hlc.outgoing ∧
       (b = 0x7B#8 → t.hlc.rxState = .header ∧ t.hlc.rxBytes = []) ∧
       (b ≠ 0x7B#8 → t.hlc.rxState = .hunt ∧ t.hlc.rxBytes = s.hlc.rxBytes)) ∧
  (∀ (i : Instr) (s : State), i = .frameGapTimeout ∨ (∃ b, i = .hostByteReceived b true) → s.running = true →
     ∃ t, exec i s = .next t ∧ SameBut [.link] s t ∧ t.hlc.rxState = .hunt ∧ t.hlc.rxBytes = [] ∧
       t.hlc.waiting = s.hlc.waiting ∧ t.hlc.restart = s.hlc.restart ∧ t.reply = s.reply ∧
       t.hlc.outgoing = s.hlc.outgoing)

/-- R190, R194: a request's frame that waits alone and may be taken is taken by the next step of an idle part, with the
effect of the request's own command. -/
def Obligations.WaitingFrameActsAsItsCommand : Prop :=
  ∀ (i : Instr) (r : RawRequest) (s : State), WellFormed i → encodeRequest i = some r → s.pending = [] → s.due = none →
    s.running = true → mayTake s.hlc = true → s.hlc.waiting = [⟨r.kind, r.tag, itemBytes r.items⟩] →
    step s = exec i { s with hlc := { s.hlc with waiting := [] } }

/-- R192, R194, R199: while the slot holds a reply or a restart is awaited, a request's frame that the buffer has room
for waits behind the others, and nothing else changes. -/
def Obligations.RequestWaitsForTheSlot : Prop :=
  ∀ (i : Instr) (r : RawRequest) (s : State), encodeRequest i = some r → s.running = true → mayTake s.hlc = false →
    7 + (itemBytes r.items).length ≤ freeSpace s.hlc →
    ∃ t, exec i s = .next t ∧ SameBut [.link] s t ∧ t.hlc.rxState = s.hlc.rxState ∧ t.hlc.rxBytes = s.hlc.rxBytes ∧
      t.hlc.waiting = s.hlc.waiting ++ [⟨r.kind, r.tag, itemBytes r.items⟩] ∧ t.reply = s.reply ∧
      t.hlc.restart = s.hlc.restart ∧ t.hlc.outgoing = s.hlc.outgoing

/-- R193, R195: what the transmit path sends next once it is free, by a frame's end or by the host's clear-to-send. While
the host's clear-to-send is negated it begins nothing; otherwise it begins the reply in the slot when the notices of its
request have left, else the oldest notice with the dropped flag, else nothing; with the slot empty and a restart awaited it
begins nothing (log entry 33). A frame's end takes that frame from what has still to leave, and a reply's empties the slot.
R196: a notice enters the queue
with the clock's day and second, or is discarded with the dropped flag set when the queue holds 32; the first to leave
takes the flag with it. -/
def Obligations.TransmitPathAndNoticeQueue : Prop :=
  let begins (slot : Option Slot) (h : Hlc) : Option Sending :=
    let oldest : Option Sending := h.notices.head?.map fun n => .notice n h.dropped
    match slot with
    | some x => if x.behind = 0 then some (.reply x.reply) else oldest
    | none => if h.restart.isSome then none else oldest
  ((∀ s : State, s.running = true →
     ∃ t, exec .transmitFrameDone s = .next t ∧ SameBut [] s t ∧ t.hlc.outgoing = s.hlc.notices ∧
       (∀ r, s.hlc.tx = some (.reply r) → t.hlc.slot = none ∧
         t.hlc.tx = if s.sup.hostCts then begins none s.hlc else none) ∧
       (∀ n d, s.hlc.tx = some (.notice n d) → t.reply = s.reply ∧
         t.hlc.tx = if s.sup.hostCts then begins s.hlc.slot s.hlc else none)) ∧
   (∀ (a : Bool) (s : State), s.running = true →
     ∃ t, exec (.hostCtsChange a) s = .next t ∧ SameBut [.supply] s t ∧ t.sup = { s.sup with hostCts := a } ∧
       t.reply = s.reply ∧ t.hlc.outgoing = s.hlc.outgoing ∧ (a = false ∨ s.hlc.tx.isSome → t.hlc = s.hlc) ∧
       (a = true → s.hlc.tx = none → t.hlc.tx = begins s.hlc.slot s.hlc))) ∧
  (∀ (b : NoticeBody) (s : State),
     (s.hlc.notices.length < 32 →
       (s.raise b).hlc = { s.hlc with notices := s.hlc.notices ++ [⟨⟨s.clk.day, s.clk.sec⟩, b⟩] }) ∧
     (32 ≤ s.hlc.notices.length → (s.raise b).hlc = { s.hlc with dropped := true }) ∧
     (∀ n rest, s.running = true → s.sup.hostCts = true → s.hlc.tx = none → s.hlc.slot = none → s.hlc.restart = none →
       s.hlc.notices = n :: rest →
       (pump s).hlc = { s.hlc with tx := some (.notice n s.hlc.dropped), notices := rest, dropped := false }))

/-- R200, R201 and the chapters' cold-start values: POWER_ON after the validity mark was lost, with the straps open,
leaves exactly the reset state, whatever the volatile and the retained state held. The pins' readings of the reset state
are the model's choice (log entry 1): nozzles hung, doors shut, clear-to-send asserted; the model's own count of its free
readings of the backup supply goes on (log entry 40). -/
def Obligations.ColdStartGivesTheResetState : Prop :=
  ∀ s : State, s.sup.main = false → s.sup.valid = false → s.sup.resetHeld = false → s.sup.nozzles = [] →
    s.sup.contacts = [] → s.sup.hostCts = true →
    exec (.powerOn false false true) s =
      .next { State.reset with
        pending := s.pending, sup := { State.reset.sup with backupReads := s.sup.backupReads } }

/-- R200, R201: the three causes of a start other than COLD: POWER when main power returns with the mark intact, PIN when
the reset pin is released while main power is present, RESTART when the restart that is awaited begins. Each keeps the
retained domain and gives every volatile field its start value; a gate found open in OPEN_HOLD raises its notice as log
entry 36 reads R163 and R179. -/
def Obligations.StartsKeepTheRetainedDomain : Prop :=
  ∀ (spa spb : Bool) (s : State),
    (∀ backup, s.sup.main = false → s.sup.valid = true → s.sup.resetHeld = false →
      ∃ t, exec (.powerOn spa spb backup) s = .next t ∧ Started .power spa spb s t ∧ t.pending = s.pending ∧
        t.sup.backup = backup) ∧
    (s.sup.main = true → s.sup.resetHeld = true → s.sup.startDue = false →
      ∃ t, exec (.resetPinRelease spa spb) s = .next t ∧ Started .pin spa spb s t ∧ t.pending = s.pending ∧
        t.sup.backup = s.sup.backup) ∧
    (s.running = true → s.hlc.restart.isSome = true →
      (s.hlc.slot = none →
        ∃ t, exec (.restartBegin spa spb) s = .next t ∧ Started .restart spa spb s t ∧ t.pending = s.pending ∧
          t.sup.backup = s.sup.backup) ∧
      ∃ t, exec (.restartTimeout spa spb) s = .next t ∧ Started .restart spa spb s t ∧ t.pending = s.pending ∧
        t.sup.backup = s.sup.backup)

/-- R154, R185, R192, R200: when main power fails, or while the reset pin is held, no valve, door relay or lamp is driven
and the clear-to-send is negated; nothing else changes but the supply's own fields. The mark is lost with main power only
where the backup supply is absent (log entry 12), and the backup supply's failure loses it only while main power is
absent. -/
def Obligations.SupplyFailuresDeEnergiseTheOutputs : Prop :=
  ∀ (i : Instr) (s : State), i = .powerFail ∨ i = .resetPinAssert ∨ i = .backupSupplyFail →
    ∃ t, exec i s = .next t ∧ t = { s with sup := t.sup } ∧
      (i ≠ .backupSupplyFail →
        t.ctsOut = false ∧ t.lampOut = .off ∧ (∀ h, t.mainValveOut h = false ∧ t.slowValveOut h = false) ∧
        ∀ g, t.relayOut g = false) ∧
      (i = .powerFail → t.sup = { s.sup with main := false, startDue := false, valid := s.sup.valid && s.sup.backup }) ∧
      (i = .resetPinAssert → t.sup = { s.sup with resetHeld := true }) ∧
      (i = .backupSupplyFail → t.sup = { s.sup with backup := false, valid := s.sup.valid && s.sup.main })

/-- R190, R197, R199: STATUS and the answer to an unknown kind change nothing; RESTART is accepted, and from then on a
restart is awaited and no further request is taken. -/
def Obligations.LinkRequestsAnswer : Prop :=
  ∀ (tag : Nat) (s : State), s.takes = true →
    (∃ t, Replies (.status tag) s t 0x01 tag
        ⟨.ok, 0, [⟨0x11, [enumField causes s.hlc.cause, .u 1 (if s.clk.isSet then 1 else 0), .u 1 s.hlc.notices.length,
          .u 1 (if s.hlc.dropped then 1 else 0), .u 2 (freeSpace s.hlc), enumField speeds s.hlc.speed,
          .u 1 (if s.sup.backup then 1 else 0)]⟩]⟩ ∧ SameBut [] s t ∧ Raises [] s t) ∧
    (∀ kind, ∃ t, Replies (.requestUnknownKind kind tag) s t kind tag ⟨.unknownKind, 0, []⟩ ∧ SameBut [] s t ∧
      Raises [] s t) ∧
    (∃ t, Replies (.restart tag) s t 0x02 tag okAnswer ∧ SameBut [.link] s t ∧ t.hlc.restart = some s.uptime ∧
      t.hlc.waiting = [] ∧ mayTake t.hlc = false ∧ Raises [] s t)

/-! ## The clock and the site parameters -/

/-- R72: the first set: any time is accepted, the night it falls in counts as rolled over, and the low-water entries of
earlier days are removed; no booking, account or fee is touched. R72 to R74, while the clock is set. A difference of more
than 604,800 s forward is refused. A forward set runs the rollovers of the nights it passes, one by
one, each at the rollover hour of its own day (R77), before the clock takes its new time, so the last rollover day rises to
the new current night when that is later; a backward set leaves it; an equal set sets the fraction to 0 alone.
Each answers the number of rollovers run. -/
def Obligations.ClockSetMovesTheClock : Prop :=
  (∀ (tag day sec : Nat) (s : State), s.takes = true → day ≤ 65535 → sec ≤ 86399 → s.clk.isSet = false →
     let night := nightAt s.clk.rollHour day sec
     ∃ t, Replies (.clockSet tag day sec) s t 0x08 tag ⟨.ok, 0, [⟨0x11, [.u 1 0]⟩]⟩ ∧ SameBut [.clock, .berths] s t ∧
       Raises [] s t ∧
       t.clk = { s.clk with
         day, sec, frac := 0, isSet := true, lastRoll := night, settleTimer := nextInterval s.clk.interval sec } ∧
       t.bal = { s.bal with tides := s.bal.tides.filter fun e => decide (night ≤ e.1) }) ∧
  (∀ (tag day sec : Nat) (s : State), s.takes = true → day ≤ 65535 → sec ≤ 86399 → s.clk.isSet = true →
     let before := s.clk.day * 86400 + s.clk.sec
     let after := day * 86400 + sec
     let night := nightAt s.clk.rollHour day sec
     let set : Clk := { s.clk with day, sec, frac := 0, settleTimer := nextInterval s.clk.interval sec }
     (before + 604800 < after →
       ∃ t, Replies (.clockSet tag day sec) s t 0x08 tag ⟨.range, 0, []⟩ ∧ SameBut [] s t ∧ Raises [] s t) ∧
     (before < after → after ≤ before + 604800 →
       ∃ t, Replies (.clockSet tag day sec) s t 0x08 tag ⟨.ok, 0, [⟨0x11, [.u 1 (night - s.clk.lastRoll)]⟩]⟩ ∧
         SameBut [.clock, .berths, .accounts, .feeders, .line, .gates] s t ∧
         t.clk = { set with lastRoll := max s.clk.lastRoll night } ∧
         let ran := (List.range (night - s.clk.lastRoll)).foldl
           (fun u k => rollOver .set ⟨s.clk.lastRoll + 1 + k, s.clk.rollHour * 3600⟩ (s.clk.lastRoll + 1 + k) u) s
         AsLeft { ran with clk := t.clk } t) ∧
     (after < before →
       ∃ t, Replies (.clockSet tag day sec) s t 0x08 tag ⟨.ok, 0, [⟨0x11, [.u 1 0]⟩]⟩ ∧ SameBut [.clock] s t ∧
         Raises [] s t ∧ t.clk = set) ∧
     (after = before →
       ∃ t, Replies (.clockSet tag day sec) s t 0x08 tag ⟨.ok, 0, [⟨0x11, [.u 1 0]⟩]⟩ ∧ SameBut [.clock] s t ∧
         Raises [] s t ∧ t.clk = { s.clk with frac := 0 }))

/-- R8, R37, R76: a rollover of a day makes it the last rollover day, removes the low-water entries of earlier days, walks
the booking table's 512 records in ascending order, and raises ROLLOVER(DONE) with what the walk counted. R76: the rollover
at the hour is the rollover of the current night, when the clock is set and that night is later than the last rollover day;
it is then not due again. R77, R78: the catch-up run is the rollovers of the days after the last rollover day up to the
current night, each at the rollover hour of its own day, or of the latest seven when more were missed, the skipped ones
reported first. -/
def Obligations.RolloversReachTheCurrentNight : Prop :=
  (∀ (source : RolloverSource) (moment : Stamp) (d : Nat) (s : State),
     let begun : State := { s with
       clk := { s.clk with lastRoll := d },
       bal := { s.bal with tides := s.bal.tides.filter fun e => decide (d ≤ e.1) } }
     let walked := (List.range 512).foldl (fun w b => walkRecord d moment b w) (begun, ⟨0, 0, 0⟩)
     rollOver source moment d s =
       walked.1.raise (.rolloverDone d source walked.2.fees walked.2.noShows walked.2.extended)) ∧
  (∀ s : State, s.running = true → s.clk.isSet = true → s.clk.catchUpDue = false → s.clk.lastRoll < s.night →
     ∃ t, exec .rollover s = .next t ∧ SameBut [.clock, .berths, .accounts, .feeders, .line, .gates] s t ∧
       AsLeft (rollOver .hour s.now s.night s) t ∧ t.reply = s.reply ∧
       t.clk = { s.clk with lastRoll := s.night } ∧ t.rolloverDue = false ∧
       t.bal.tides = s.bal.tides.filter (fun e => decide (s.night ≤ e.1)) ∧ t.bal.berths = s.bal.berths) ∧
  (∀ s : State, s.running = true → s.clk.catchUpDue = true →
     let taken : State := { s with clk := { s.clk with catchUpDue := false } }
     let last := s.clk.lastRoll
     let run (first count : Nat) (u : State) : State :=
       (List.range count).foldl (fun u k => rollOver .catchUp ⟨first + k, s.clk.rollHour * 3600⟩ (first + k) u) u
     ∃ t, exec .catchUp s = .next t ∧ SameBut [.clock, .berths, .accounts, .feeders, .line, .gates] s t ∧
       t.reply = s.reply ∧
       (s.clk.isSet = true → last < s.night →
         t.clk = { s.clk with catchUpDue := false, lastRoll := s.night } ∧
         (s.night ≤ last + 7 → AsLeft (run (last + 1) (s.night - last) taken) t) ∧
         (last + 7 < s.night →
           AsLeft (run (s.night - 6) 7 (taken.raise (.rolloverSkipped (s.night - last - 7) (last + 1) (s.night - 7)))) t)) ∧
       (s.clk.isSet = false ∨ s.night ≤ s.clk.lastRoll →
         t.clk = { s.clk with catchUpDue := false } ∧ SameBut [.clock] s t ∧ Raises [] s t) ∧
       (s.clk.isSet = true → s.clk.lastRoll + 7 < s.night → s.hlc.notices.length < 32 →
         ∃ later, t.hlc.outgoing = s.hlc.outgoing ++
           ⟨s.now, .rolloverSkipped (s.night - s.clk.lastRoll - 7) (s.clk.lastRoll + 1) (s.night - 7)⟩ :: later))

/-- R38 to R41: what the rollover of day `d` does with one booking, and what it counts. A CONFIRMED booking that holds
night `d` - 1, or an ARRIVED one whose nights began by it, is charged one nightly fee at its berth's present fee, counted, a
fee of 0 too (log entry 13); a CONFIRMED or UNPLACED booking past its grace becomes NO_SHOW, off its berth, and its
credentials become FREE; an ARRIVED booking so charged that is overstaying is extended to cover night `d`, the CONFIRMED
bookings that hold the added nights moved first, in calendar order, and its BOOKING(EXTENDED) last; a record that is FREE
or closed, and a CONFIRMED or UNPLACED one whose arrival night the rollover does not close, stay as they are. R22, R23: a move gives a CONFIRMED booking the berth that
placement chooses, or makes it UNPLACED, with its notice; no other booking is moved (log entry 49). -/
def Obligations.RolloverClosesTheNightOfABooking : Prop :=
  (∀ (water : State → Nat → Int) (n : Nat) (s : State),
     let k := s.booking n
     let t := moveBooking water n s
     (k.state ≠ .confirmed → t = s) ∧
     ∀ old, k.state = .confirmed → k.berth = some old →
       SameBut [.berths] s t ∧ OnlyBooking n s t ∧
       match s.place (water s) (boatOf n k) (s.berth old).pontoon (some old) with
       | some new => t.booking n = { k with berth := some new } ∧ Raises [.bookingMoved n old new] s t
       | none => t.booking n = { k with state := .unplaced, berth := none } ∧ Raises [.bookingUnplaced n old] s t) ∧
  ∀ (d b : Nat) (moment : Stamp) (c : WalkCounts) (s : State),
    let k := s.booking b
    let berth := k.berth.getD 0
    let walked := walkRecord d moment b (s, c)
    let t := walked.1
    let charged : State :=
      post k.account (-((s.berth berth).fee : Int)) (s.setBooking b { k with nightsCharged := k.nightsCharged + 1 })
    (k.state ∉ [BookState.confirmed, .arrived, .unplaced] ∨
        (k.state ∈ [BookState.confirmed, .unplaced] ∧ d ≤ k.arr) → walked = (s, c)) ∧
    (k.state = .confirmed → k.arr + 1 ≤ d → d ≤ k.dep → k.nightsCharged < 65535 → d < k.arr + s.bal.grace + 1 →
      walked = (charged, ⟨c.fees + 1, c.noShows, c.extended⟩)) ∧
    (k.state = .arrived → k.arr + 1 ≤ d → d < k.dep → k.nightsCharged < 65535 →
      walked = (charged, ⟨c.fees + 1, c.noShows, c.extended⟩)) ∧
    (k.state = .arrived → k.arr + 1 ≤ d → k.dep ≤ d → k.nightsCharged < 65535 →
      let held := (charged.calendar berth).filter fun e => decide (e.1 ≠ b ∧ e.2.arr ≤ d ∧ k.dep < e.2.dep)
      let moved := held.foldl (fun u e => moveBooking (fun v => v.lowWaterFrom d) e.1 u) charged
      let dep := min (d + 1) 65535
      let overstay := k.overstay + (dep - k.dep)
      overstay ≤ 65535 →
        let after : Booking := { k with nightsCharged := k.nightsCharged + 1, dep, overstay }
        walked = ((moved.setBooking b after).raise (.bookingExtended b berth dep),
          ⟨c.fees + 1, c.noShows, c.extended + 1⟩) ∧
        t.booking b = after ∧ ∀ j, j ≠ b → (∀ e ∈ held, e.1 ≠ j) → t.booking j = s.booking j) ∧
    (k.state = .confirmed ∨ k.state = .unplaced → k.arr + s.bal.grace + 1 ≤ d →
      (t.booking b).state = .noShow ∧ (t.booking b).berth = none ∧ (t.booking b).closedTime = some moment ∧
      (∀ e ∈ t.gtc.creds, e.2.state ≠ .free → e.2.booking ≠ some b) ∧
      SameBut [.berths, .accounts, .feeders, .line, .gates] s t ∧ (∀ j, j ≠ b → t.booking j = s.booking j) ∧
      walked.2 = ⟨if k.state = .confirmed ∧ d ≤ k.dep then c.fees + 1 else c.fees, c.noShows + 1, c.extended⟩ ∧
      (k.state = .unplaced ∨ k.dep < d → Raises [.bookingNoShow b k.berth] s t))

/-- R79, R80, R66: a settlement-interval event settles every socket meter and every tap meter and sets the settlement
timer afresh; a band-boundary event settles every socket meter, which takes the present band: each by the settlement of its
meter (R63), the sockets in ascending order and then the taps. No baseline moves. -/
def Obligations.ClockEventsSettleTheMeters : Prop :=
  ∀ s : State, s.running = true → s.clk.isSet = true →
    let sockets := (List.range 256).foldl (fun u n => settleSocket n u) s
    let taps := (List.range 128).foldl (fun u n => settleTap n u) sockets
    (∃ t, exec .settlementInterval s = .next t ∧ SameBut [.clock, .accounts, .feeders, .line, .gates] s t ∧
      AsLeft { taps with clk := t.clk } t ∧ t.reply = s.reply ∧
      t.clk = { s.clk with settleDue := false, settleTimer := nextInterval s.clk.interval s.clk.sec } ∧
      (∀ n < 256, t.socketMeter n = { s.socketMeter n with unsettled := 0 }) ∧
      (∀ n < 128, t.tapMeter n = { s.tapMeter n with unsettled := 0 })) ∧
    (∀ begins, ∃ t, exec (.bandBoundary begins) s = .next t ∧ SameBut [.clock, .accounts, .feeders, .line, .gates] s t ∧
      AsLeft { sockets with clk := t.clk } t ∧ t.reply = s.reply ∧
      t.clk = { s.clk with bandDue := none } ∧
      ∀ n < 256, t.socketMeter n = { s.socketMeter n with unsettled := 0 } ∧ (t.socketAcct n).band = s.band)

/-- R69: the clock's advance by 1/256 s: the fraction counts to 255, the second to 86399, the day to 65535; while the
clock is set, a second that is the settlement timer's or a band hour's makes its event due, and the timer is then computed
afresh (R79, R80). R69, R81: when the last second of day 65535 ends the clock stands there, unset, and no event of the clock
is due. That a due event is marked until it is taken, and that CLOCK_STOP acts at any clock reading, is log entry 8's choice;
that no event is marked while the part does not run is log entry 45's. -/
def Obligations.ClockAdvancesAndStops : Prop :=
  (∀ (events : Bool) (c : Clk), c.sec ≤ 86399 → c.frac ≤ 255 → c.day ≤ 65535 →
     let t := advanceClock events c
     (c.frac < 255 → t = { c with frac := c.frac + 1 }) ∧
     (c.frac = 255 → c.day < 65535 ∨ c.sec < 86399 →
       t.frac = 0 ∧ t.day * 86400 + t.sec = c.day * 86400 + c.sec + 1 ∧ t.sec ≤ 86399 ∧ t.isSet = c.isSet ∧
       t.lastRoll = c.lastRoll ∧
       t.settleTimer =
         (if events = true ∧ c.isSet = true ∧ t.sec = c.settleTimer then nextInterval c.interval t.sec else c.settleTimer) ∧
       t.settleDue = (c.settleDue || (events && c.isSet && decide (t.sec = c.settleTimer))) ∧
       (events = true → c.isSet = true → t.sec = c.dayHour * 3600 → t.bandDue = some .day) ∧
       (events = true → c.isSet = true → c.dayHour ≠ c.nightHour → t.sec = c.nightHour * 3600 → t.bandDue = some .night)) ∧
     (c.frac = 255 → c.day = 65535 → c.sec = 86399 →
       t.day = 65535 ∧ t.sec = 86399 ∧ t.frac = 255 ∧ t.isSet = false)) ∧
  (∀ s : State, s.sup.main = true ∨ s.sup.backup = true →
     ∃ t, exec .clockStop s = .next t ∧ SameBut [.clock] s t ∧ Raises [] s t ∧ t.dueClock = none ∧
       t.clk = { s.clk with
         day := 65535, sec := 86399, frac := 255, isSet := false, settleDue := false, bandDue := none })

/-- R198: a site parameter written by an item within its range reads back at its value, and the others as before; the
band hours' item writes both hours. Only the rollover hour reaches further: where its change takes the current night above
the last rollover day, that night's rollover runs in the same step (R71), and otherwise nothing more happens; a rollover
that was due before the change is left to its own run (log entry 23). -/
def Obligations.SitePutWritesOneParameter : Prop :=
  ∀ (tag p : Nat) (v : Int) (s : State), s.takes = true →
    let put : Instr := .sitePut tag [.row ⟨p, v⟩]
    let done (t : State) : Prop := Replies put s t 0x03 tag (rowsWritten 1) ∧ t.siteValue p = v
    (p = 0 → -300 ≤ v → v ≤ 800 → ∃ t, done t ∧ SameBut [.berths] s t ∧ t.bal = { s.bal with lowWater := v }) ∧
    (p = 1 → 0 ≤ v → v ≤ 300 → ∃ t, done t ∧ SameBut [.berths] s t ∧ t.bal = { s.bal with margin := v.toNat }) ∧
    (p = 2 → 0 ≤ v → v ≤ 3 → ∃ t, done t ∧ SameBut [.berths] s t ∧ t.bal = { s.bal with grace := v.toNat }) ∧
    (p = 3 → 0 ≤ v → v ≤ 23 →
      let written : State := { s with clk := { s.clk with rollHour := v.toNat } }
      let night := nightAt v.toNat s.clk.day s.clk.sec
      ∃ t, done t ∧ SameBut [.clock, .berths, .accounts, .feeders, .line, .gates] s t ∧
        (∀ q, q ≠ 3 → t.siteValue q = s.siteValue q) ∧
        (s.clk.isSet = true ∧ s.night ≤ s.clk.lastRoll ∧ s.clk.lastRoll < night →
          AsLeft (rollOver .site s.now night written) t ∧
          t.clk = { s.clk with rollHour := v.toNat, lastRoll := night }) ∧
        (s.clk.isSet = false ∨ s.clk.lastRoll < s.night ∨ night ≤ s.clk.lastRoll →
          SameBut [.clock] s t ∧ Raises [] s t ∧ t.clk = { s.clk with rollHour := v.toNat })) ∧
    (p = 4 → v ∈ [5, 10, 15, 20, 30, 60] →
      ∃ t, done t ∧ SameBut [.clock] s t ∧
        t.clk = { s.clk with interval := v.toNat, settleTimer := nextInterval v.toNat s.clk.sec }) ∧
    (p = 5 → 0 ≤ v → v ≤ 23 → v.toNat ≠ s.clk.nightHour →
      ∃ t, done t ∧ SameBut [.clock] s t ∧ t.clk = { s.clk with dayHour := v.toNat }) ∧
    (p = 6 → 0 ≤ v → v ≤ 23 → v.toNat ≠ s.clk.dayHour →
      ∃ t, done t ∧ SameBut [.clock] s t ∧ t.clk = { s.clk with nightHour := v.toNat }) ∧
    (∀ d n : Nat, p = 7 → v = d * 256 + n → d ≤ 23 → n ≤ 23 → d ≠ n →
      ∃ t, done t ∧ SameBut [.clock] s t ∧ t.clk = { s.clk with dayHour := d, nightHour := n }) ∧
    (p = 8 → 0 ≤ v → v ≤ 100000 → ∃ t, done t ∧ SameBut [.fuel] s t ∧ t.fdc = { s.fdc with cap := v.toNat })

/-! ## Reading -/

/-- R4, R26, R56, R61, R101, R109, R135, R159, R165, R206: a get of a table answers OK with the number of entries and
their records in order, from the start to the count, the table's end or the reply's room, and changes nothing. R4, R7,
R75, R115, R136, R139, R159, R198: the other reads, each with the fields of its rule; none changes anything. Every reply of
SALE_PEEK carries the counts, the refused ones too. The fields' sizes, the layouts of the items 0x42 to 0x46, FEEDER_POLL's
fields and how many records a reply holds (three feeders, two pedestals) are log entry 17's choice, and the day of the next
rollover moment after day 65535 is free (log entry 50). -/
def Obligations.ReadsReturnTheRecords : Prop :=
  (∀ (tag start count : Nat) (s : State), s.takes = true → 1 ≤ count →
     let reads (i : Instr) (kind n : Nat) (items : Nat → List Item) : Prop :=
       ∃ t, Replies i s t kind tag
           ⟨.ok, 0, ⟨0x11, [.u 1 n]⟩ :: (List.range n).flatMap fun k => items (start + k)⟩ ∧
         SameBut [] s t ∧ Raises [] s t
     (start ≤ 511 → count ≤ 16 →
       reads (.bookGet tag start count) 0x1B (min (min count (512 - start)) 14) fun n => [bookingItem s n]) ∧
     (start ≤ 255 → count ≤ 16 →
       reads (.acctGet tag start count) 0x24 (min (min count (256 - start)) 14) fun n => [accountItem s n]) ∧
     (start ≤ 3 → count ≤ 4 →
       reads (.tariffGet tag start count) 0x26 (min (min count (4 - start)) 14) fun n => [tariffItem s n]) ∧
     (1 ≤ start → start ≤ 64 → count ≤ 8 →
       reads (.pedestalGet tag start count) 0x29 (min (min count (65 - start)) 2) fun a =>
         pedestalItem s a :: (socketsOf a).map (socketItem s) ++ (tapsOf a).map (tapItem s)) ∧
     (1 ≤ start → start ≤ 8 → count ≤ 8 →
       reads (.feederGet tag start count) 0x31 (min (min count (9 - start)) 3) fun f => [feederItem s f]) ∧
     (1 ≤ start → start ≤ 4 → count ≤ 4 →
       reads (.hoseGet tag start count) 0x41 (min (min count (5 - start)) 14) fun h => [hoseItem s h]) ∧
     (start ≤ 1023 → count ≤ 16 →
       reads (.credGet tag (.entries start count)) 0x51 (min (min count (1024 - start)) 14) fun n => [credItem s n]) ∧
     (1 ≤ start → start ≤ 7 → count ≤ 7 →
       reads (.gateGet tag start count) 0x56 (min (min count (8 - start)) 14) fun n =>
         [if n = 7 then fuelTerminalItem s else gateItem s n])) ∧
  (∀ (tag : Nat) (s : State), s.takes = true →
     let reads (i : Instr) (kind : Nat) (items : List Item) : Prop :=
       ∃ t, Replies i s t kind tag ⟨.ok, 0, items⟩ ∧ SameBut [] s t ∧ Raises [] s t
     let counts : List Field :=
       [.u 1 (s.fdc.sales.filter fun x => !x.done).length, .u 1 (s.fdc.sales.filter fun x => x.done).length]
     reads (.siteGet tag []) 0x04 ((List.range 9).map (siteParamItem s)) ∧
     reads (.clockGet tag) 0x09
       [⟨0x11, [.u 2 s.clk.day, .u 3 s.clk.sec, .u 1 s.clk.frac, .u 1 (if s.clk.isSet then 1 else 0), .u 2 s.clk.lastRoll,
         .u 2 s.night, enumField bands s.band,
         .u 2 (if 65535 ≤ max s.clk.lastRoll s.night then Config.nextRolloverPastRange (max s.clk.lastRoll s.night)
           else max s.clk.lastRoll s.night + 1),
         .u 3 (s.clk.rollHour * 3600),
         .u 3 (if s.clk.isSet then s.clk.settleTimer else nextInterval s.clk.interval s.clk.sec)]⟩] ∧
     (∀ start count, start ≤ 255 → 1 ≤ count → count ≤ 16 →
       let l := (List.range (min (min count (256 - start)) 14)).map (start + ·)
       reads (.berthGet tag (.entries start count)) 0x11
         (⟨0x11, .u 1 l.length :: l.map fun i => .u 4 (s.berth i).fee⟩ :: l.map (berthItem s))) ∧
     (∀ berth position, berth ≤ 255 →
       let l := ((s.calendar berth).drop position).take 16
       reads (.berthGet tag (.calendar berth position)) 0x11
         [⟨0x11, .u 1 l.length :: l.flatMap fun e => [.u 2 e.1, .u 2 e.2.arr, .u 2 e.2.dep]⟩]) ∧
     (∀ start count, start ≤ 65535 → 1 ≤ count → count ≤ 16 →
       let l := (s.bal.tides.filter fun e => decide (start ≤ e.1)).take (min count 14)
       reads (.tideGet tag start count) 0x13
         (⟨0x11, [.u 1 l.length, .u 1 s.bal.tides.length, .i 2 s.bal.lowWater]⟩ :: l.map tideItem)) ∧
     (∀ f, 1 ≤ f → f ≤ 8 → reads (.feederPoll tag f) 0x33 [⟨0x11, pollFields f s⟩]) ∧
     reads (.priceGet tag) 0x45 [⟨0x46, [.u 1 1, .u 4 (s.price 1)]⟩, ⟨0x46, [.u 1 2, .u 4 (s.price 2)]⟩] ∧
     reads (.salePeek tag none) 0x46 (⟨0x11, counts⟩ :: ((s.fdc.sales.find? fun x => x.done).map saleItem).toList) ∧
     (∀ n x, 1 ≤ n → n ≤ 65535 → s.sale n = some x → reads (.salePeek tag (some n)) 0x46 [⟨0x11, counts⟩, saleItem x]) ∧
     (∀ n code, (code = .range ∧ (n < 1 ∨ 65535 < n)) ∨ (code = .noSuch ∧ 1 ≤ n ∧ n ≤ 65535 ∧ s.sale n = none) →
       ∃ t, Replies (.salePeek tag (some n)) s t 0x46 tag ⟨code, 0, [⟨0x11, counts⟩]⟩ ∧ SameBut [] s t ∧ Raises [] s t) ∧
     (∀ token n, s.credByToken token = some n →
       reads (.credGet tag (.token token)) 0x51 [⟨0x11, [.u 1 1]⟩, credItem s n]))

/-! ## Berths and bookings -/

/-- R2, R3, R21: a row within its ranges, whose class and state its berth's calendar allows, is written whole, visitor-ok
kept for a RESIDENT berth alone; a berth written BLOCKED keeps no CONFIRMED booking. Beyond the BAL it reaches other
blocks only when the berth becomes SERVICE or ceases to be. -/
def Obligations.BerthPutWritesTheRow : Prop :=
  ∀ (tag i : Nat) (r : BerthRow) (cls : BerthClass) (state : BerthState) (s : State), s.takes = true → i ≤ 255 →
    1 ≤ r.pontoon ∧ r.pontoon ≤ 8 → 20 ≤ r.maxLoa ∧ r.maxLoa ≤ 1000 → 10 ≤ r.maxBeam ∧ r.maxBeam ≤ 300 →
    r.depth ≤ 2000 → r.fee ≤ 1000000 →
    valueOf berthClasses r.cls = some cls → valueOf berthStates r.state = some state →
    (cls = .service → (s.berth i).cls = .service ∨ s.calendar i = []) → (state = .blocked → s.arrivedOn i = none) →
    tableOk coldBooking s.bal.bookings = true →
    ∃ t, Replies (.berthPut tag i [.row r]) s t 0x10 tag (rowsWritten 1) ∧ SameBut (.berths :: holdParts) s t ∧
      t.berth i =
        { pontoon := r.pontoon, cls, visitorOk := r.visitorOk && decide (cls = .resident), state, maxLoa := r.maxLoa,
          maxBeam := r.maxBeam, depth := r.depth, fee := r.fee } ∧
      (∀ j, j ≠ i → t.berth j = s.berth j) ∧
      (state = .blocked → ∀ e ∈ t.bal.bookings, ¬(e.2.state = .confirmed ∧ e.2.berth = some i)) ∧
      (state = .inService → t.bal.bookings = s.bal.bookings) ∧
      ((cls = .service ↔ (s.berth i).cls = .service) → SameBut [.berths] s t)

/-- R5, R6: a row with a height sets its day's low water, in place of the oldest entry when the table is full and that
entry is of an earlier day; a row without one leaves its day the default. -/
def Obligations.TidePutSetsTheDay : Prop :=
  ∀ (tag day : Nat) (h : Int) (s : State), s.takes = true → s.clk.lastRoll ≤ day → day ≤ 65535 →
    (-300 ≤ h → h ≤ 800 → ((∃ e ∈ s.bal.tides, e.1 = day) ∨ s.bal.tides.length < 64) →
      ∃ t, Replies (.tidePut tag [.row ⟨day, some h⟩]) s t 0x12 tag (rowsWritten 1) ∧ SameBut [.berths] s t ∧
        t.bal = { s.bal with tides := t.bal.tides } ∧ Raises [] s t ∧
        ∀ j, t.lowWaterOf j = if j = day then h else s.lowWaterOf j) ∧
    (∀ oldest height rest, -300 ≤ h → h ≤ 800 → s.bal.tides = (oldest, height) :: rest → s.bal.tides.length = 64 →
      (∀ e ∈ s.bal.tides, e.1 ≠ day) → (∀ e ∈ rest, e.1 ≠ oldest) → oldest < day →
      ∃ t, Replies (.tidePut tag [.row ⟨day, some h⟩]) s t 0x12 tag (rowsWritten 1) ∧ SameBut [.berths] s t ∧
        t.bal = { s.bal with tides := t.bal.tides } ∧ t.bal.tides.length = 64 ∧
        ∀ j, t.lowWaterOf j = if j = day then h else if j = oldest then s.bal.lowWater else s.lowWaterOf j) ∧
    (∃ t, Replies (.tidePut tag [.row ⟨day, none⟩]) s t 0x12 tag (rowsWritten 1) ∧ SameBut [.berths] s t ∧
      t.bal = { s.bal with tides := t.bal.tides } ∧ Raises [] s t ∧
      ∀ j, t.lowWaterOf j = if j = day then s.bal.lowWater else s.lowWaterOf j)

/-- R13, R14: a berth is a candidate when it is IN_SERVICE, its class admits the boat, the boat fits it, it is not the berth
being left, no other booking on it holds a night of the stay, and on every day of the stay, the departure's included, the
water over its depth leaves the boat's draught the margin; a day's low water is its entry, or the default. R15: placement
answers NO_BERTH exactly when no berth is a candidate, and otherwise the candidate that stands before every other by length,
beam, preferred pontoon and index, in that order. -/
def Obligations.PlacementChoosesTheTightestBerth : Prop :=
  (∀ (water : Nat → Int) (boat : Boat) (left : Option Nat) (b : Nat) (s : State), boat.arr ≤ boat.dep →
    let x := s.berth b
    (s.candidate water boat left b = true ↔
      x.state = .inService ∧ (x.cls = .visitor ∨ x.cls = .resident ∧ x.visitorOk = true) ∧ boat.loa ≤ x.maxLoa ∧
      boat.beam ≤ x.maxBeam ∧ left ≠ some b ∧
      (∀ e ∈ s.bal.bookings, e.2.state = .confirmed ∨ e.2.state = .arrived → e.2.berth = some b → boat.self ≠ some e.1 →
        e.2.dep ≤ boat.arr ∨ boat.dep ≤ e.2.arr) ∧
      ∀ day, boat.arr ≤ day → day ≤ boat.dep → (boat.draught : Int) + s.bal.margin ≤ x.depth + water day)) ∧
  (∀ (day : Nat) (s : State),
    s.lowWaterOf day =
      match s.bal.tides.find? fun e => decide (e.1 = day) with
      | some e => e.2
      | none => s.bal.lowWater) ∧
  ∀ (water : Nat → Int) (boat : Boat) (preference : Nat) (left : Option Nat) (s : State),
    (s.place water boat preference left = none ↔ ∀ b < 256, s.candidate water boat left b = false) ∧
    ∀ b, s.place water boat preference left = some b ↔
      b < 256 ∧ s.candidate water boat left b = true ∧
      ∀ c < 256, s.candidate water boat left c = true → c ≠ b →
        let x := s.berth b
        let y := s.berth c
        let off (z : Berth) : Nat := if preference = 0 ∨ z.pontoon = preference then 0 else 1
        x.maxLoa < y.maxLoa ∨ (x.maxLoa = y.maxLoa ∧ (x.maxBeam < y.maxBeam ∨ (x.maxBeam = y.maxBeam ∧
          (off x < off y ∨ (off x = off y ∧ b < c)))))

/-- R27: a new booking takes the FREE record of the lowest index, else the closed one with the oldest closed time, the lowest
index first; there is none when every record is open. R13, R14: a named berth's nights are free when no other booking on it
holds one, and it fits the boat when its class admits it, it is long, wide and, on every day of the stay, deep enough. R17,
R18: BOOK_ALLOC makes the booking on the berth placement chooses, BOOK_FIXED on the berth named, in the record of R27; no
other booking, and nothing beyond the booking table, changes. R19, R20: an UNPLACED booking whose stay is not
over takes the berth named, or the one placement chooses, and is CONFIRMED; no other booking, and nothing beyond the
booking table, changes. -/
def Obligations.BookingTakesItsBerth : Prop :=
  (∀ s : State,
    let open_ (i : Nat) : Prop := (s.booking i).state ∈ [BookState.confirmed, .arrived, .unplaced]
    let closed (i : Nat) : Prop := (s.booking i).state ∈ [BookState.departed, .cancelled, .noShow]
    let moment (i : Nat) : Stamp := (s.booking i).closedTime.getD ⟨0, 0⟩
    let before (i j : Nat) : Prop :=
      (moment i).day < (moment j).day ∨ ((moment i).day = (moment j).day ∧
        ((moment i).sec < (moment j).sec ∨ ((moment i).sec = (moment j).sec ∧ i < j)))
    (s.recordFor = none ↔ ∀ i < 512, open_ i) ∧
    ∀ r, s.recordFor = some r ↔
      r < 512 ∧
      (((s.booking r).state = .free ∧ ∀ i < r, (s.booking i).state ≠ .free) ∨
        ((∀ i < 512, (s.booking i).state ≠ .free) ∧ closed r ∧ ∀ i < 512, closed i → i ≠ r → before r i))) ∧
  (∀ (berth : Nat) (self : Option Nat) (a z : Nat) (s : State),
    s.nightsFree berth self a z = true ↔
      ∀ e ∈ s.bal.bookings, e.2.state = .confirmed ∨ e.2.state = .arrived → e.2.berth = some berth → self ≠ some e.1 →
        e.2.dep ≤ a ∨ z ≤ e.2.arr) ∧
  (∀ (water : Nat → Int) (berth : Nat) (boat : Boat) (s : State), boat.arr ≤ boat.dep →
    let x := s.berth berth
    (s.fitsBoat water berth boat = true ↔
      (x.cls = .visitor ∨ x.cls = .resident ∧ x.visitorOk = true) ∧ boat.loa ≤ x.maxLoa ∧ boat.beam ≤ x.maxBeam ∧
      ∀ day, boat.arr ≤ day → day ≤ boat.dep → (boat.draught : Int) + s.bal.margin ≤ x.depth + water day)) ∧
  (∀ (tag r berth : Nat) (n : NewBooking) (s : State), s.takes = true → Acceptable n s → s.recordFor = some r →
     let made (i : Instr) (kind : Nat) : Prop :=
       ∃ t, Replies i s t kind tag ⟨.ok, 0, [⟨0x11, [.u 2 r, .u 1 berth]⟩]⟩ ∧ SameBut [.berths] s t ∧ Raises [] s t ∧
         OnlyBooking r s t ∧ t.booking r = newRecord n berth
     (∀ preference ≤ 8, s.place s.lowWaterOf (boatOfNew n) preference none = some berth →
       made (.bookAlloc tag n preference) 0x14) ∧
     (∀ force, berth ≤ 255 → (s.berth berth).state = .inService → (s.berth berth).cls ≠ .service →
       s.nightsFree berth none n.arr n.dep = true →
       (force = true ∨ s.fitsBoat s.lowWaterOf berth (boatOfNew n) = true) → made (.bookFixed tag n berth force) 0x15)) ∧
  (∀ (tag b berth : Nat) (s : State), s.takes = true → s.clk.isSet = true → b ≤ 511 → (s.booking b).state = .unplaced →
     s.night < (s.booking b).dep →
     let k := s.booking b
     let placed (i : Instr) (kind : Nat) : Prop :=
       ∃ t, Replies i s t kind tag ⟨.ok, 0, [⟨0x11, [.u 1 berth]⟩]⟩ ∧ SameBut [.berths] s t ∧ Raises [] s t ∧
         OnlyBooking b s t ∧ t.booking b = { k with state := .confirmed, berth := some berth }
     (∀ force, berth ≤ 255 → (s.berth berth).state = .inService → (s.berth berth).cls ≠ .service →
       s.nightsFree berth (some b) k.arr k.dep = true →
       (force = true ∨ s.fitsBoat s.lowWaterOf berth (boatOf b k) = true) →
       placed (.bookFixedIndex tag b berth force) 0x15) ∧
     (∀ preference ≤ 8, s.place s.lowWaterOf (boatOf b k) preference none = some berth →
       placed (.bookPlace tag b preference) 0x16))

/-- R29 to R32: an arrival that passes its checks makes the booking ARRIVED, stamped with the present time, its arrival
night brought forward to the current one when it is EARLY, whether the host asks for it or a passage does; beyond the
booking only the feeders act. R32: a refused arrival request of a passage changes no booking: it is reported with the
code of R29 or R30. -/
def Obligations.ArrivalIsTakenOrReported : Prop :=
  (∀ (b : Nat) (case : ArriveCase) (s : State), s.clk.isSet = true → b ≤ 511 → (s.booking b).state = .confirmed →
     s.night < (s.booking b).dep → ArrivesAs s b case →
     let k := s.booking b
     let arr := if case = .early then s.night else k.arr
     let k' : Booking := { k with state := .arrived, arrivedTime := some s.now, arr }
     (∀ tag, s.takes = true →
       ∃ t, Replies (.bookArrive tag b) s t 0x17 tag ⟨.ok, 0, [⟨0x11, [enumField arriveCases case, .u 2 arr]⟩]⟩ ∧
         SameBut [.berths, .feeders] s t ∧ OnlyBooking b s t ∧ t.booking b = k') ∧
     (∀ cred gate rest, s.running = true → s.bal.arrivals = ⟨b, cred, gate⟩ :: rest →
       ∃ t, exec .autoArrive s = .next t ∧ SameBut [.berths, .feeders] s t ∧ t.bal.arrivals = rest ∧
         t.bal.berths = s.bal.berths ∧ t.booking b = k' ∧ ∀ j, j ≠ b → t.booking j = s.booking j)) ∧
  (∀ (a : Arrival) (rest : List Arrival) (code : Status) (s : State), s.running = true → s.bal.arrivals = a :: rest →
     s.arrivalRefused a.booking = some code →
     ∃ t, exec .autoArrive s = .next t ∧ SameBut [.berths] s t ∧ t.bal = { s.bal with arrivals := rest } ∧
       Raises [.arriveRefused a.booking a.cred a.gate code] s t)

/-- R33: a change of departure writes the departure night alone, when it lies past the arrival and the current night and,
if it is later, within the stay's length with the added nights free. R28, R34, R35, R36: a departure counts the closing
fee when the arrival night has come, posts it to the booking's account and answers it, one of 0 too (log entry 13); it then
settles the berth's meters, whose charges go to that account while the booking is still ARRIVED, so that of all accounts but
account 0, which a SERVICE berth's tap closed by a hold charges, no other changes; the order of the settlements is log entry
48's; the berth's sockets are released, its tap is closed, and the booking closes. A cancellation closes a CONFIRMED or
UNPLACED booking without a charge. A closed booking has its closed time and no berth, and every credential linked to it is
FREE. -/
def Obligations.BookingChangesAndCloses : Prop :=
  (∀ (tag b dep : Nat) (s : State), s.takes = true → s.clk.isSet = true → b ≤ 511 →
     let k := s.booking b
     k.state = .confirmed ∨ k.state = .arrived → k.arr < dep → s.night < dep →
     (k.dep < dep → dep ≤ k.arr + 60 ∧ dep ≤ 65535 ∧ s.nightsFree (k.berth.getD 0) (some b) k.dep dep = true) →
     ∃ t, Replies (.bookChange tag b dep) s t 0x18 tag ⟨.ok, 0, [⟨0x11, [.u 2 dep]⟩]⟩ ∧ SameBut [.berths] s t ∧
       Raises [] s t ∧ OnlyBooking b s t ∧ t.booking b = { k with dep }) ∧
  (∀ (tag b : Nat) (s : State), s.takes = true → s.clk.isSet = true → b ≤ 511 →
     let k := s.booking b
     let berth := k.berth.getD 0
     let charged := decide (k.arr ≤ s.night)
     let nights := if charged then k.nightsCharged + 1 else k.nightsCharged
     let freed (t : State) : Prop := ∀ e ∈ t.gtc.creds, e.2.state ≠ .free → e.2.booking ≠ some b
     let posted :=
       if charged then
         post k.account (-((s.berth berth).fee : Int)) (s.setBooking b { k with nightsCharged := k.nightsCharged + 1 })
       else s
     let settled := (posted.berthTaps berth).foldl (fun u n => settleTap n u)
       ((posted.berthSockets berth).foldl (fun u n => settleSocket n u) posted)
     let left := closeBerthTaps berth .depart (farDepart berth settled)
     (k.state = .arrived → nights ≤ 65535 →
       ∃ t, Replies (.bookDepart tag b) s t 0x19 tag
           ⟨.ok, 0, [⟨0x11, [.u 1 (if charged then 1 else 0), .u 1 berth, .u 2 nights, .u 2 k.overstay,
             .u 4 (if charged then (s.berth berth).fee else 0)]⟩]⟩ ∧
         SameBut (.berths :: holdParts) s t ∧ OnlyBooking b s t ∧ freed t ∧
         t.acu = left.acu ∧ t.far = left.far ∧ t.pdl = left.pdl ∧ t.hlc.outgoing = left.hlc.outgoing ∧
         ((s.berth berth).cls ≠ .service → s.arrivedOn berth = some b →
           ∀ a, a ≠ k.account → a ≠ 0 → t.account a = s.account a) ∧
         t.booking b = { k with
           state := .departed, berth := none, departedTime := some s.now, closedTime := some s.now,
           nightsCharged := nights }) ∧
     (k.state = .confirmed ∨ k.state = .unplaced →
       ∃ t, Replies (.bookCancel tag b) s t 0x1A tag
           ⟨.ok, 0, [⟨0x11, [.u 1 (if k.berth.isSome then 1 else 0), .u 1 berth]⟩]⟩ ∧
         SameBut [.berths, .gates] s t ∧ Raises [] s t ∧ OnlyBooking b s t ∧ freed t ∧
         t.booking b = { k with state := .cancelled, berth := none, closedTime := some s.now }))

/-- R35, R98, R120: a departure leaves no socket of the berth GRANTED, ENERGISED or PENDING, and no tap of it OPEN: from every
state that meets the two invariants every step keeps. -/
def Obligations.DepartureTakesTheBerthsSupply : Prop :=
  ∀ (b berth : Nat) (s : State), Inv s → FeedersSound s → (s.booking b).state = .arrived →
    (s.booking b).berth = some berth → (s.berth berth).cls ≠ .service →
    let t := (depart b s).1
    (∀ n ∈ s.berthSockets berth, (t.socket n).supplied = false ∧ (t.socket n).state ≠ .pending) ∧
    ∀ n ∈ s.berthTaps berth, t.run n = none

/-! ## Accounts -/

/-- R49, R50: a posting adds to the balance, held within its bounds, and the hold state follows the sign of balance and
limit together, each change with its notice; account 0 is not evaluated; no other account changes. -/
def Obligations.PostingMovesTheBalance : Prop :=
  ∀ (a : Nat) (x : Int) (s : State), x ≠ 0 →
    let k := s.account a
    let sum := k.balance + x
    let balance := if 1000000000000 < sum then 1000000000000 else if sum < -1000000000000 then -1000000000000 else sum
    let state : AcctState :=
      if a = 0 then k.state
      else if k.state = .opened ∧ balance + k.limit < 0 then .held
      else if k.state = .held ∧ 0 ≤ balance + k.limit then .opened
      else k.state
    let t := (postOnly a x s).1
    SameBut [.accounts] s t ∧ OnlyAccount a s t ∧ t.account a = { k with balance, state } ∧
    Raises
      (if state = k.state then []
        else if state = .held then [.accountHold a .held balance k.limit]
        else [.accountClear a .opened balance k.limit]) s t

/-- R52, R55: an account is opened at 0 with the limit given, and closed with its balance reported when no booking is
open on it and nothing is earmarked. Account 0 is neither opened, closed nor given a limit (R48). -/
def Obligations.AccountsOpenAndClose : Prop :=
  ∀ (tag a limit : Nat) (s : State), s.takes = true → a ≤ 255 → limit ≤ 10000000 →
    (a ≠ 0 → (s.account a).state = .free →
      ∃ t, Replies (.acctOpen tag a limit) s t 0x20 tag ⟨.ok, 0, [⟨0x11, [.u 1 a]⟩]⟩ ∧ SameBut [.accounts] s t ∧
        Raises [] s t ∧ OnlyAccount a s t ∧ t.account a = ⟨.opened, 0, limit, 0⟩) ∧
    (a ≠ 0 → (s.account a).state ≠ .free → s.openBookings a = 0 → (s.account a).earmark = 0 →
      ∃ t, Replies (.acctClose tag a) s t 0x23 tag ⟨.ok, 0, [⟨0x11, [.i 6 (s.account a).balance]⟩]⟩ ∧
        SameBut [.accounts, .feeders] s t ∧ OnlyAccount a s t ∧ (t.account a).state = .free) ∧
    (a = 0 → ∀ i kind,
      (i, kind) ∈ [(Instr.acctOpen tag a limit, 0x20), (.acctClose tag a, 0x23), (.acctLimit tag a limit, 0x22)] →
      ∃ t, Replies i s t kind tag ⟨.state, 0, []⟩ ∧ SameBut [] s t ∧ Raises [] s t)

/-- R53, R54: a payment posts its amount and answers the new balance, the state after it and whether a bound was met; a
new limit is written and the hold state follows it. Where the account does not enter HOLD, no other block but the feeders
acts; one that does, stays on HOLD. That a payment answers the balance right after its own posting, whatever a tap closed by
the HOLD adds in the same step, is log entry 41's choice. -/
def Obligations.PaymentsAndLimitsMoveTheHoldState : Prop :=
  ∀ (tag a : Nat) (s : State), s.takes = true → 1 ≤ a → a ≤ 255 → (s.account a).state ≠ .free →
    let k := s.account a
    let after (balance : Int) (limit : Nat) : AcctState := if balance + limit < 0 then .held else .opened
    (∀ x : Int, x ≠ 0 → -1000000000000 ≤ x → x ≤ 1000000000000 →
      let balance := saturate (k.balance + x)
      ∃ t, Replies (.acctPay tag a x) s t 0x21 tag
          ⟨.ok, 0, [⟨0x11, [.i 6 balance, enumField acctStates (after balance k.limit),
            .u 1 (if balance = k.balance + x then 0 else 1)]⟩]⟩ ∧
        SameBut holdParts s t ∧ (t.account a).state = after balance k.limit ∧
        (¬(k.state = .opened ∧ after balance k.limit = .held) →
          SameBut [.accounts, .feeders] s t ∧ OnlyAccount a s t ∧
          t.account a = { k with balance, state := after balance k.limit })) ∧
    (∀ limit ≤ 10000000, -1000000000000 ≤ k.balance →
      ∃ t, Replies (.acctLimit tag a limit) s t 0x22 tag
          ⟨.ok, 0, [⟨0x11, [enumField acctStates (after k.balance limit)]⟩]⟩ ∧
        SameBut holdParts s t ∧ (t.account a).limit = limit ∧ (t.account a).state = after k.balance limit ∧
        (¬(k.state = .opened ∧ after k.balance limit = .held) →
          SameBut [.accounts, .feeders] s t ∧ OnlyAccount a s t ∧
          t.account a = { k with limit, state := after k.balance limit }))

/-- R61: a tariff row is written whole. R135, R136: a hose's row within its ranges is written whole while the hose is
IDLE and the FDC has started; a grade's price at any time. R162: a gate's row within its ranges is written whole, the
mode kept. -/
def Obligations.PlainRowsAreWritten : Prop :=
  (∀ (tag i : Nat) (r : TariffRow) (s : State), s.takes = true → i ≤ 3 → r.dayRate ≤ 65535 → r.nightRate ≤ 65535 →
     r.waterRate ≤ 65535 →
     ∃ t, Replies (.tariffPut tag i [.row r]) s t 0x25 tag (rowsWritten 1) ∧ SameBut [.accounts] s t ∧ Raises [] s t ∧
       t.acu = { s.acu with tariffs := t.acu.tariffs } ∧
       ∀ j, t.tariff j = if j = i then ⟨r.dayRate, r.nightRate, r.waterRate⟩ else s.tariff j) ∧
  (∀ (tag i : Nat) (s : State), s.takes = true →
     (∀ r : HoseRow, 1 ≤ i → i ≤ 4 → s.fdc.ready = true → (s.hose i).state = .idle → 1 ≤ r.grade ∧ r.grade ≤ 2 →
       1000 ≤ r.p10 ∧ r.p10 ≤ 60000 → r.slowDown ≤ 500 → 10 ≤ r.authTimeout ∧ r.authTimeout ≤ 600 →
       10 ≤ r.noFlowTimeout ∧ r.noFlowTimeout ≤ 300 → 100 ≤ r.volumeCap ∧ r.volumeCap ≤ 200000 →
       ∃ t, Replies (.hosePut tag i [.row r]) s t 0x40 tag (rowsWritten 1) ∧ SameBut [.fuel] s t ∧ Raises [] s t ∧
         t.fdc = { s.fdc with cfg := t.fdc.cfg } ∧
         ∀ j, t.hoseCfg j =
           if j = i then ⟨r.grade, r.p10, r.slowDown, r.authTimeout, r.noFlowTimeout, r.volumeCap⟩ else s.hoseCfg j) ∧
     (∀ price ≤ 99999, 1 ≤ i → i ≤ 2 →
       ∃ t, Replies (.pricePut tag i [.row price]) s t 0x44 tag (rowsWritten 1) ∧ SameBut [.fuel] s t ∧ Raises [] s t ∧
         t.fdc = { s.fdc with prices := t.fdc.prices } ∧ ∀ j, t.price j = if j = i then price else s.price j)) ∧
  (∀ (tag i : Nat) (r : GateRow) (passback : Passback) (s : State), s.takes = true → 1 ≤ i → i ≤ 6 → 1 ≤ r.pontoon →
     r.pontoon ≤ 8 → valueOf passbacks r.antiPassback = some passback → 1 ≤ r.releaseTime → r.releaseTime ≤ 30 →
     10 ≤ r.heldTime → r.heldTime ≤ 600 →
     ∃ t, Replies (.gatePut tag i [.row r]) s t 0x55 tag (rowsWritten 1) ∧ SameBut [.gates] s t ∧ Raises [] s t ∧
       t.gtc = { s.gtc with cfg := t.gtc.cfg } ∧
       ∀ j, t.gateCfg j =
         if j = i then ⟨r.pontoon, (s.gateCfg i).mode, passback, r.exitReader, r.releaseTime, r.heldTime⟩
         else s.gateCfg j)

/-- R63 to R65: a meter's settlement empties it, prices its quantity from its residue, a socket's at the rate of its
settlement band and a tap's at the water rate, and posts the charge to the account of the booking ARRIVED on its berth, or
to account 0; a socket meter takes the present band. -/
def Obligations.SettlementChargesTheReceivingAccount : Prop :=
  ∀ (n : Nat) (s : State),
    let receives (berth : Option Nat) : Nat := match berth with
      | none => 0
      | some b =>
        if (s.berth b).cls = .service then 0
        else ((s.arrivedOn b).map fun k => (s.booking k).account).getD 0
    (let m := s.socketMeter n
     let tariff := s.tariff (s.socketCfg n).tariff
     let p := m.unsettled * (if (s.socketAcct n).band = .day then tariff.dayRate else tariff.nightRate) +
       (s.socketAcct n).residue
     settleSocket n s =
       post (receives (s.socketCfg n).berth) (-((p / 1000 : Nat) : Int))
         ((s.setSocketMeter n { m with unsettled := 0 }).setSocketAcct n ⟨p % 1000, s.band⟩)) ∧
    (let m := s.tapMeter n
     let p := m.unsettled * (s.tariff (s.tapCfg n).tariff).waterRate + s.tapResidue n
     settleTap n s =
       post (receives (s.tapCfg n).berth) (-((p / 1000 : Nat) : Int))
         ((s.setTapMeter n { m with unsettled := 0 }).setTapResidue n (p % 1000)))

/-! ## The pedestal line -/

/-- R84: a row that changes nothing a busy pedestal must keep is written whole; a pedestal that leaves the scan forgets
its link and its sockets' reports, and its sockets leave every state that a plug gave them. -/
def Obligations.PedestalPutWritesTheRow : Prop :=
  ∀ (tag a : Nat) (r : PedestalRow) (s : State), s.takes = true → 1 ≤ a → a ≤ 64 → 1 ≤ r.feeder → r.feeder ≤ 8 →
    let old := s.pedestal a
    (r.feeder ≠ old.feeder ∨ (old.configured = true ∧ r.configured = false) → s.pedestalBusy a = false) →
    ∃ t, Replies (.pedestalPut tag a [.row r]) s t 0x28 tag (rowsWritten 1) ∧ SameBut [.line, .feeders] s t ∧
      Raises [] s t ∧ (∀ j, t.pedestal j = if j = a then ⟨r.configured, r.feeder⟩ else s.pedestal j) ∧
      (∀ j, j ≠ a → t.link j = s.link j) ∧
      (old.configured = true → r.configured = false →
        t.link a = { startLink with heard := (s.link a).heard } ∧
        ∀ n ∈ socketsOf a, t.report n = none ∧ (t.socket n).state ∉ [SocketState.waiting, .shed, .tripped]) ∧
      (old.configured = false ∨ r.configured = true → t.link a = s.link a ∧ t.far = s.far ∧ t.pdl.reports = s.pdl.reports)

/-- R67, R99, R100: a socket's or a tap's static row within its ranges is written whole, where its berth has room for it
and a supplied socket keeps its berth and rating. A meter whose berth or tariff set changes is settled first, and its
residue is 0 when the tariff set changes; a tap whose berth changes closes. -/
def Obligations.SocketAndTapPutWriteTheRow : Prop :=
  ∀ (tag i : Nat) (s : State), s.takes = true →
    (∀ r : SocketRow, i ≤ 255 → (∀ b, r.berth = some b → b ≤ 255) → r.rating = 16 ∨ r.rating = 32 ∨ r.rating = 63 →
      r.cls ≤ 3 → r.tariff ≤ 3 →
      let old := s.socketCfg i
      (r.berth ≠ old.berth ∨ r.rating ≠ old.rating → (s.socket i).supplied = false) →
      (∀ b, r.berth = some b → ((s.berthSockets b).filter fun n => decide (n ≠ i)).length < 2) →
      ∃ t, Replies (.socketPut tag i [.row r]) s t 0x2A tag (rowsWritten 1) ∧ SameBut holdParts s t ∧
        (∀ j, t.socketCfg j = if j = i then ⟨r.berth, r.rating, r.cls, r.tariff⟩ else s.socketCfg j) ∧
        (r.berth ≠ old.berth ∨ r.tariff ≠ old.tariff → t.socketMeter i = { s.socketMeter i with unsettled := 0 }) ∧
        (r.tariff ≠ old.tariff → (t.socketAcct i).residue = 0)) ∧
    (∀ r : TapRow, i ≤ 127 → (∀ b, r.berth = some b → b ≤ 255) → r.tariff ≤ 3 → 1 ≤ r.runLimit → r.runLimit ≤ 120 →
      let old := s.tapCfg i
      (∀ b, r.berth = some b → ∀ n ∈ s.berthTaps b, n = i) →
      ∃ t, Replies (.tapPut tag i [.row r]) s t 0x2B tag (rowsWritten 1) ∧ SameBut holdParts s t ∧
        (∀ j, t.tapCfg j = if j = i then ⟨r.berth, r.tariff, r.runLimit⟩ else s.tapCfg j) ∧
        (r.berth ≠ old.berth ∨ r.tariff ≠ old.tariff → t.tapMeter i = { s.tapMeter i with unsettled := 0 }) ∧
        (r.berth ≠ old.berth → t.run i = none) ∧ (r.tariff ≠ old.tariff → t.tapResidue i = 0))

/-- R97, R98, R100: an OPEN tap whose run limit or no-flow time is reached, or that the host closes, becomes CLOSED, its
meter is settled (R63), and TAP(CLOSED) with the cause and the run time follows; where nothing is left to settle, it is the
only notice. TAP_CLOSE answers CLOSED, for a tap already closed too, of which nothing changes. -/
def Obligations.OpenTapCloses : Prop :=
  (∀ (n : Nat) (run : TapRun) (s : State), n ≤ 127 → s.run n = some run →
     let closed (cause : TapCause) (t : State) : Prop :=
       let report : NoticeBody := .tapClosed n cause ((s.uptime - run.since) / 256)
       SameBut holdParts s t ∧ t.run n = none ∧ t.tapMeter n = { s.tapMeter n with unsettled := 0 } ∧
       t.pdl.taps = s.pdl.taps ∧ AsLeft ((settleTap n (s.setRun n none)).raise report) t ∧
       ((s.tapMeter n).unsettled = 0 → s.tapResidue n < 1000 → SameBut [.line, .accounts] s t ∧ Raises [report] s t)
     (s.running = true → ∃ t, exec (.tapRunLimit n) s = .next t ∧ t.reply = s.reply ∧ closed .limit t) ∧
     (s.running = true → ∃ t, exec (.tapNoFlow n) s = .next t ∧ t.reply = s.reply ∧ closed .noFlow t) ∧
     ∀ tag, s.takes = true → ∃ t, Replies (.tapClose tag n) s t 0x2C tag ⟨.ok, 0, [⟨0x11, [.u 1 0]⟩]⟩ ∧ closed .host t) ∧
  (∀ (n : Nat) (s : State), n ≤ 127 → s.run n = none →
     (∀ i, s.running = true → i = .tapRunLimit n ∨ i = .tapNoFlow n →
       ∃ t, exec i s = .next t ∧ t.reply = s.reply ∧ SameBut [] s t ∧ Raises [] s t) ∧
     ∀ tag, s.takes = true →
       ∃ t, Replies (.tapClose tag n) s t 0x2C tag ⟨.ok, 0, [⟨0x11, [.u 1 0]⟩]⟩ ∧ SameBut [] s t ∧ Raises [] s t)

/-- R94: the delta of a meter's count is the 16-bit difference from the baseline, which the count replaces whether or not
it is plausible; a plausible one is added to the unsettled quantity, and METER_JUMP reports another. R87 to R89: a good reply
to the poll in progress, in its window, makes the pedestal ONLINE with no missed poll, with PEDESTAL(RETURN) when it was LOST
(the seconds it carries where no good report came before the loss are free, log entry 22), takes its counts with the limits
of the seconds since the last good report, hands its sockets to the FAR (the whole states for adoption where none was known,
the whole states after a loss, the differences otherwise), replaces the last reports by the reports, takes the latched
presses of its taps and acknowledges them, and restarts the no-flow time of an OPEN tap with a delta above 0; that the press
of position 0 is taken first is log entry 47's choice. R96, R97: a press of a CLOSED tap opens it at a SERVICE berth, or
where a booking is ARRIVED whose account is not on HOLD, with a run from now, and is refused by the first check that fails
otherwise; a press of an OPEN tap closes it. Any other bytes change nothing: those of no good reply, those of another
address, and, as log entry 26 has it, those of a pedestal no longer configured, a second good reply and those that come with
no poll in progress. -/
def Obligations.PollReplyIsTaken : Prop :=
  let delta (m : Meter) (count : Nat) : Nat := (count + 65536 - m.baseline % 65536) % 65536
  (∀ (m : Meter) (limit count : Nat), m.baseline < 65536 → count < 65536 →
     let d := if m.baseline ≤ count then count - m.baseline else count + 65536 - m.baseline
     delta m count = d ∧ (m.take limit count).baseline = count ∧
     (d ≤ limit → (m.take limit count).unsettled = min (m.unsettled + d) 4294967295) ∧
     (limit < d → (m.take limit count).unsettled = m.unsettled)) ∧
  (∀ (n : Nat) (s : State),
     let t := pressTap n s
     let refused (reason : TapRefusal) : Prop := SameBut [] s t ∧ Raises [.tapRefused reason] s t
     let opened (b : Nat) (k : Option Nat) : Prop :=
       SameBut [.line] s t ∧ t.pdl = { s.pdl with runs := t.pdl.runs } ∧ Raises [.tapOpen n b k] s t ∧
       ∀ m, t.run m = if m = n then some ⟨s.uptime, s.uptime, (s.tapCfg n).runLimit⟩ else s.run m
     (s.run n = none →
       ((s.tapCfg n).berth = none → refused .noBerth) ∧
       ∀ b, (s.tapCfg n).berth = some b →
         ((s.berth b).cls = .service → opened b none) ∧
         ((s.berth b).cls ≠ .service → s.arrivedOn b = none → refused .notArrived) ∧
         ∀ k, (s.berth b).cls ≠ .service → s.arrivedOn b = some k →
           ((s.account (s.booking k).account).state = .held → refused .held) ∧
           ((s.account (s.booking k).account).state ≠ .held → opened b (some k))) ∧
     ∀ x, s.run n = some x →
       t = (settleTap n (s.setRun n none)).raise (.tapClosed n .button ((s.uptime - x.since) / 256)) ∧ t.run n = none) ∧
  (∀ (bytes : List Byte) (p : Poll) (s : State), s.running = true → s.pdl.poll = some p →
     (∀ r, goodReply bytes = some r → r.address = p.address → (s.pedestal p.address).configured = true →
       s.pdl.replied = false →
       let l := s.link p.address
       let elapsed := max 1 (match l.lastGood with | some x => (s.uptime - x) / 256 | none => s.uptime / 256)
       let counted := countReport r s
       let handover : Handover :=
         if (s.report ((p.address - 1) * 4)).isNone ∧ (s.report ((p.address - 1) * 4 + 1)).isNone ∧
             (s.report ((p.address - 1) * 4 + 2)).isNone ∧ (s.report ((p.address - 1) * 4 + 3)).isNone then .adoption
         else if l.link = .lost then .afterLoss
         else .differences
       SameBut [.line] s counted ∧
       counted.pdl = { s.pdl with
         links := counted.pdl.links, socketMeters := counted.pdl.socketMeters, tapMeters := counted.pdl.tapMeters } ∧
       (∀ j, counted.link j = if j = p.address then ⟨.online, 0, some s.uptime, true⟩ else s.link j) ∧
       (∀ k x, k < 4 → r.sockets[k]? = some x →
         let n := (p.address - 1) * 4 + k
         counted.socketMeter n = (s.socketMeter n).take (20 * elapsed) x.count) ∧
       (∀ k x, k < 2 → r.taps[k]? = some x →
         let n := (p.address - 1) * 2 + k
         counted.tapMeter n = (s.tapMeter n).take (2 * elapsed) x.count) ∧
       (∀ x0 x1 x2 x3 y0 y1, r.sockets = [x0, x1, x2, x3] → r.taps = [y0, y1] →
         let n := (p.address - 1) * 4
         let k := (p.address - 1) * 2
         let jump (tap : Bool) (limit number : Nat) (m : Meter) (count : Nat) : List NoticeBody :=
           if delta m count ≤ limit then [] else [.meterJump tap number m.baseline count elapsed]
         let returned : List NoticeBody :=
           if l.link = .lost then
             [.pedestalReturn p.address
               (match l.lastGood with | some x => (s.uptime - x) / 256 | none => Config.returnSecondsUnreported s.uptime)]
           else []
         Raises
           (returned ++ jump false (20 * elapsed) n (s.socketMeter n) x0.count ++
             jump false (20 * elapsed) (n + 1) (s.socketMeter (n + 1)) x1.count ++
             jump false (20 * elapsed) (n + 2) (s.socketMeter (n + 2)) x2.count ++
             jump false (20 * elapsed) (n + 3) (s.socketMeter (n + 3)) x3.count ++
             jump true (2 * elapsed) k (s.tapMeter k) y0.count ++
             jump true (2 * elapsed) (k + 1) (s.tapMeter (k + 1)) y1.count)
           s counted) ∧
       ∃ t, exec (.pollReply bytes true) s = .next t ∧ t.reply = s.reply ∧ SameBut holdParts s t ∧ t.pdl.poll = some p ∧
         t.pdl.replied = true ∧
         (∀ x0 x1, r.taps = [x0, x1] →
           let n := (p.address - 1) * 2
           let pressed (m : Nat) (x : TapReading) (u : State) : State :=
             if x.press then (pressTap m u).setAck m true else u
           let after := pressed (n + 1) x1 (pressed n x0 (handReport handover r counted))
           let flows (m : Nat) (x : TapReading) : Prop :=
             0 < delta (s.tapMeter m) x.count ∧ delta (s.tapMeter m) x.count ≤ 2 * elapsed
           t.acu = after.acu ∧ t.far = after.far ∧ t.gtc = after.gtc ∧ t.hlc.outgoing = after.hlc.outgoing ∧
           t.pdl = { after.pdl with runs := t.pdl.runs, acks := t.pdl.acks, replied := true } ∧
           (∀ m,
             (m = n ∧ flows n x0 ∨ m = n + 1 ∧ flows (n + 1) x1 →
               t.run m = (after.run m).map fun u => { u with flowSince := s.uptime }) ∧
             (¬(m = n ∧ flows n x0 ∨ m = n + 1 ∧ flows (n + 1) x1) → t.run m = after.run m)) ∧
           ∀ m,
             (m = n ∧ x0.press = true ∨ m = n + 1 ∧ x1.press = true → t.ack m = true) ∧
             (¬(m = n ∧ x0.press = true ∨ m = n + 1 ∧ x1.press = true) →
               t.ack m =
                 if m = n ∧ p.acks[0]? = some true ∨ m = n + 1 ∧ p.acks[1]? = some true then false else s.ack m)) ∧
         (∀ j, t.link j = if j = p.address then ⟨.online, 0, some s.uptime, true⟩ else s.link j) ∧
         (∀ k x, k < 4 → r.sockets[k]? = some x →
           let n := (p.address - 1) * 4 + k
           (t.socketMeter n).baseline = x.count ∧
           t.report n = some { x.report with current := min x.report.current ((s.socketCfg n).rating * 20) }) ∧
         (∀ k x, k < 2 → r.taps[k]? = some x →
           let n := (p.address - 1) * 2 + k
           (t.tapMeter n).baseline = x.count ∧ (x.press = true → t.ack n = true))) ∧
     (∀ inWindow, inWindow = false ∨ (∀ r, goodReply bytes = some r → r.address ≠ p.address) ∨
         (s.pedestal p.address).configured = false ∨ s.pdl.replied = true →
       ∃ t, exec (.pollReply bytes inWindow) s = .next t ∧ t.reply = s.reply ∧ SameBut [] s t ∧ Raises [] s t)) ∧
  (∀ (bytes : List Byte) (inWindow : Bool) (s : State), s.running = true → s.pdl.poll = none →
     ∃ t, exec (.pollReply bytes inWindow) s = .next t ∧ t.reply = s.reply ∧ SameBut [] s t ∧ Raises [] s t)

/-- R85, R86, R89: when a slot ends, a configured pedestal that gave no good reply counts a missed poll, LOST at the
third; the next configured address above is polled, or, with none above, the scan is complete, which the feeders take (R91),
and the lowest is polled again. A poll carries KEEP for every
socket until the pedestal's first good reply since the start, and then CLOSE for a GRANTED or ENERGISED socket and OPEN
for another; it opens the valves of the OPEN taps. -/
def Obligations.SlotEndPollsTheNextPedestal : Prop :=
  ∀ (p : Poll) (s : State), s.running = true → s.pdl.poll = some p →
    let a := p.address
    let l := s.link a
    let missed := s.pdl.replied = false ∧ (s.pedestal a).configured = true
    let above := s.configuredPedestals.find? fun b => decide (a < b)
    ∃ t, exec .pollSlotEnd s = .next t ∧ SameBut holdParts s t ∧ t.pdl.replied = false ∧
      t.pdl.poll.map (·.address) = above.orElse (fun _ => s.configuredPedestals.head?) ∧
      (let polled := if s.pdl.replied = false ∧ (s.pedestal a).configured = true then missPoll a s else s
       let left := if above = none ∧ s.configuredPedestals ≠ [] then scanComplete polled else polled
       AsLeft { left with pdl := { left.pdl with poll := t.pdl.poll, replied := false } } t) ∧ t.reply = s.reply ∧
      (¬missed → t.link a = l) ∧
      (missed →
        t.link a = { l with miss := min (l.miss + 1) 3, link := if 2 ≤ l.miss then .lost else l.link }) ∧
      (∀ j, j ≠ a → t.link j = s.link j) ∧
      ∀ q, t.pdl.poll = some q →
        q.sockets = (socketsOf q.address).map (fun n =>
          if (t.link q.address).heard then (if (t.socket n).supplied then .closeIt else .openIt) else .keep) ∧
        q.valves = (tapsOf q.address).map (fun n => (t.run n).isSome) ∧ q.acks = (tapsOf q.address).map t.ack

/-! ## Feeders -/

/-- R106, R110, R111: a grant search never passes the limit, and ends with nothing left that a further pass would grant;
only the feeders change. R107, R111: a pass considers the blocking request alone where there is one, and else the pending
sockets by class and, within a class, from the number after its rotation pointer round to the pointer; it grants the first
whose reservation fits, having passed over those before it. R112, R113, R103: a grant makes its socket GRANTED with its
reservation, a new stamp and counts of 0, adds the reservation to the reserved sum, turns the pointer of its class to it,
clears a blocking request that it was, counts a bypass for each socket passed over, the first of which at the bypass limit
becomes the blocking request, and raises SOCKET(GRANTED) with the headroom left; at the grant counter's end the stamps held
are renumbered from 1 in their order. R110: the search is a pass and, after one that grants, the search again. R51, R121,
R123: the PENDING sockets that an account's hold message or a pedestal's loss finds no longer eligible all go to WAITING,
none of them granted by a search that another's leaving runs (log entry 15). -/
def Obligations.GrantSearchFillsTheHeadroom : Prop :=
  let reservation (s : State) (n : Nat) : Nat :=
    ((s.socketCfg n).rating * (s.feederCfg (s.feederOf n)).diversity + 9) / 10
  (∀ (f : Nat) (s : State),
     let fd := s.feeder f
     let fits (n : Nat) : Prop := fd.reserved + reservation s n ≤ (s.feederCfg f).limit
     let ofClass (c : Nat) : List Nat := fd.pending.filter fun n => decide ((s.socketCfg n).cls = c)
     let pointer (c : Nat) : Nat := tableGet 0 fd.pointers c
     let order : List Nat :=
       match fd.blocking with
       | some n => [n]
       | none => [0, 1, 2, 3].flatMap fun c =>
           (ofClass c).filter (fun n => decide (pointer c < n)) ++ (ofClass c).filter (fun n => decide (n ≤ pointer c))
     (s.pass f = none ↔ ∀ n ∈ order, ¬fits n) ∧
     ∀ n skipped,
       s.pass f = some (n, skipped) ↔ fits n ∧ (∀ m ∈ skipped, ¬fits m) ∧ ∃ rest, order = skipped ++ n :: rest) ∧
  (∀ (f n : Nat) (skipped : List Nat) (s : State), FeedersSound s → s.pass f = some (n, skipped) →
     let fd := s.feeder f
     let r := reservation s n
     let t := grant f n skipped s
     let counted (j : Nat) : Socket :=
       if fd.blocking = none ∧ j ∈ skipped then { s.socket j with bypass := min ((s.socket j).bypass + 1) 15 }
       else s.socket j
     let stampOf (u : State) (j : Nat) : Nat := (u.socket j).stamp.getD 0
     SameBut [.feeders] s t ∧
     t.far = { s.far with sockets := t.far.sockets, feeders := t.far.feeders, counter := t.far.counter } ∧
     t.socket n =
       { s.socket n with
         state := .granted, reservation := some r, stamp := some t.far.counter, confirm := some 0, bypass := 0 } ∧
     (s.far.counter < 4294967295 →
       t.far.counter = s.far.counter + 1 ∧ ∀ j, j ≠ n → t.socket j = counted j) ∧
     (4294967295 ≤ s.far.counter →
       t.far.counter = (s.far.sockets.filter fun e => e.2.supplied).length + 1 ∧
       (∀ j, j ≠ n → t.socket j = { counted j with stamp := (t.socket j).stamp } ∧
         ((s.socket j).supplied = false → (t.socket j).stamp = (s.socket j).stamp) ∧
         ((s.socket j).supplied = true → 1 ≤ stampOf t j ∧ stampOf t j < t.far.counter)) ∧
       ∀ j k, (s.socket j).supplied = true → (s.socket k).supplied = true → stampOf s j < stampOf s k →
         stampOf t j < stampOf t k) ∧
     t.feeder f =
       { fd with
         reserved := fd.reserved + r
         pointers := (t.feeder f).pointers
         pending := fd.pending.filter fun m => decide (m ≠ n)
         blocking :=
           if fd.blocking.isSome then none
           else skipped.find? fun m => decide ((s.feederCfg f).bypassLimit ≤ min ((s.socket m).bypass + 1) 15) } ∧
     (∀ c, tableGet 0 (t.feeder f).pointers c = if c = (s.socketCfg n).cls then n else tableGet 0 fd.pointers c) ∧
     (∀ g, g ≠ f → t.feeder g = s.feeder g) ∧
     Raises [.socketGranted n f r ((s.feederCfg f).limit - (fd.reserved + r))] s t) ∧
  (∀ (f : Nat) (s : State),
     (s.pass f = none → grantSearch f s = s) ∧
     ∀ n skipped, FeedersSound s → s.pass f = some (n, skipped) →
       grantSearch f s = grantSearch f (grant f n skipped s)) ∧
  (∀ (f : Nat) (s : State), (s.feeder f).reserved ≤ (s.feederCfg f).limit →
     let t := grantSearch f s
     (t.feeder f).reserved ≤ (t.feederCfg f).limit ∧ (s.feeder f).reserved ≤ (t.feeder f).reserved ∧ t.pass f = none ∧
     SameBut [.feeders] s t) ∧
  (∀ (n : Nat) (s : State), FeedersSound s → (s.socket n).state = .pending → (s.socketCfg n).berth ≠ none →
     ¬(s.entitled n = true ∧ (s.link (n / 4 + 1)).link = .online) →
     (∀ account, s.berthNames (s.socketCfg n).berth account = true →
       ((farHold account s).socket n).state = .waiting ∧ SameBut [.feeders] s (farHold account s)) ∧
     ∀ sockets, n ∈ sockets →
       ((pedestalLostFar sockets s).socket n).state = .waiting ∧ SameBut [.feeders] s (pedestalLostFar sockets s))

/-- R108, R129: a feeder's row within its ranges, its diversity unchanged while a socket is supplied, is written whole; a
limit below the reserved sum sheds until the sum is within it, and no socket is shed when it is within it already. R114:
FEEDER_BOTTOM moves one rotation pointer and nothing else. -/
def Obligations.FeederRowsAndPointers : Prop :=
  (∀ (tag i : Nat) (r : FeederRow) (retry : RetryMode) (s : State), s.takes = true → FeedersSound s → 1 ≤ i → i ≤ 8 →
     r.limit ≤ 25000 → 25 ≤ r.diversity ∧ r.diversity ≤ 100 → 1 ≤ r.tripCount ∧ r.tripCount ≤ 15 →
     1 ≤ r.bypassLimit ∧ r.bypassLimit ≤ 15 → 1 ≤ r.holdOff ∧ r.holdOff ≤ 60 → valueOf retryModes r.retry = some retry →
     (r.diversity ≠ (s.feederCfg i).diversity → s.shedOrder i = []) →
     ∃ t, Replies (.feederPut tag i [.row r]) s t 0x30 tag (rowsWritten 1) ∧ SameBut holdParts s t ∧
       (∀ j, t.feederCfg j =
         if j = i then ⟨r.limit, r.diversity, r.tripCount, r.bypassLimit, retry, r.holdOff⟩ else s.feederCfg j) ∧
       (t.feeder i).reserved ≤ r.limit ∧
       ((s.feeder i).reserved ≤ r.limit →
         SameBut [.feeders] s t ∧ ∀ n, (s.socket n).supplied = true →
           (t.socket n).state = (s.socket n).state ∧ (t.socket n).reservation = (s.socket n).reservation)) ∧
  (∀ (tag f cls n : Nat) (s : State), s.takes = true → 1 ≤ f → f ≤ 8 → cls ≤ 3 → n ≤ 255 →
     ∃ t, Replies (.feederBottom tag f cls n) s t 0x32 tag okAnswer ∧ SameBut [.feeders] s t ∧ Raises [] s t ∧
       t.far = { s.far with feeders := t.far.feeders } ∧ (∀ g, g ≠ f → t.feeder g = s.feeder g) ∧
       t.feeder f = { s.feeder f with pointers := (t.feeder f).pointers } ∧
       ∀ c, tableGet 0 (t.feeder f).pointers c = if c = cls then n else tableGet 0 (s.feeder f).pointers c)

/-- R118, R124, R127, R130: the sockets a request sheds, the one it names or the first of the shed order, are SHED by the
host with no hold-off, their reservations freed and answered; the search that follows grants none of them. -/
def Obligations.HostShedsReleaseTheSockets : Prop :=
  ∀ (tag : Nat) (s : State), s.takes = true → FeedersSound s →
    let shedByHost (n : Nat) (t : State) : Prop :=
      t.socket n = { s.socket n with
        state := .shed, reservation := none, stamp := none, confirm := none, shedSource := some .host,
        holdOffEnd := none, fault := false }
    (∀ n ≤ 255, (s.socket n).supplied = true →
      ∃ t, Replies (.socketRelease tag n) s t 0x35 tag
          ⟨.ok, 0, [⟨0x11, [.u 2 ((s.socket n).reservation.getD 0)]⟩]⟩ ∧
        SameBut holdParts s t ∧ shedByHost n t) ∧
    (∀ f count, 1 ≤ f → f ≤ 8 → 1 ≤ count → count ≤ 16 →
      let heads := (s.shedOrder f).take count
      ∃ t, Replies (.feederShed tag f count) s t 0x34 tag
          ⟨.ok, 0, [⟨0x11, [.u 1 heads.length, .u 2 (heads.map fun n => (s.socket n).reservation.getD 0).sum]⟩]⟩ ∧
        SameBut holdParts s t ∧ ∀ n ∈ heads, shedByHost n t)

/-- R125: a lock takes a socket to LOCKED from any state, releasing what it held, and answers the state it was in; a
socket already LOCKED stays as it is. R104, R105, R125, R126, R131: an unlocked socket, a rearmed one, and one whose
hold-off ends on a feeder in AUTO mode are judged as if IDLE: UNASSIGNED without a berth, IDLE without a plug, WAITING
while not eligible, and otherwise PENDING, from where the search may grant it. In EDGE mode the hold-off ends and the
socket stays SHED. -/
def Obligations.SocketLocksAndReturns : Prop :=
  (∀ (tag n : Nat) (s : State), s.takes = true → FeedersSound s → n ≤ 255 →
     ∃ t, Replies (.socketLock tag n) s t 0x36 tag ⟨.ok, 0, [⟨0x11, [enumField socketStates (s.socket n).state]⟩]⟩ ∧
       SameBut holdParts s t ∧ (t.socket n).state = .locked ∧ (t.socket n).reservation = none ∧
       ((s.socket n).state = .locked → t.far = s.far ∧ Raises [] s t) ∧
       ((s.socket n).state = .shed → (t.socket n).shedSource = none ∧ (t.socket n).holdOffEnd = none)) ∧
  (∀ (n : Nat) (s : State), FeedersSound s → n ≤ 255 →
     let eligible := s.entitled n = true ∧ (s.link (n / 4 + 1)).link = .online
     let judged (t : State) : Prop :=
       SameBut [.feeders] s t ∧ (t.socket n).shedSource = none ∧ (t.socket n).holdOffEnd = none ∧
       (t.socket n).fault = false ∧
       ((s.socketCfg n).berth = none → (t.socket n).state = .unassigned) ∧
       ((s.socketCfg n).berth ≠ none → s.plugged n = false → (t.socket n).state = .idle) ∧
       ((s.socketCfg n).berth ≠ none → s.plugged n = true → ¬eligible → (t.socket n).state = .waiting) ∧
       (s.plugged n = true → eligible → (t.socket n).state = .pending ∨ (t.socket n).state = .granted)
     (∀ tag, s.takes = true → (s.socket n).state = .locked →
       ∃ t, Replies (.socketUnlock tag n) s t 0x37 tag ⟨.ok, 0, [⟨0x11, [enumField socketStates (t.socket n).state]⟩]⟩ ∧
         judged t) ∧
     (∀ tag, s.takes = true → (s.socket n).state = .shed →
       ∃ t, Replies (.socketRearm tag n) s t 0x38 tag ⟨.ok, 0, [⟨0x11, [enumField socketStates (t.socket n).state]⟩]⟩ ∧
         judged t) ∧
     (s.running = true → (s.socket n).state = .shed → (s.socket n).holdOffEnd.isSome = true →
       ∃ t, exec (.holdOffExpiry n) s = .next t ∧
         ((s.feederCfg (s.feederOf n)).retry = .auto → judged t) ∧
         ((s.feederCfg (s.feederOf n)).retry = .edge →
           SameBut [.feeders] s t ∧ ∀ j, t.socket j = if j = n then { s.socket n with holdOffEnd := none } else s.socket j)))

/-- R116, R118, R119: what a report changes of a supplied socket: a plug gone leaves it IDLE, a trip TRIPPED, both
released; a GRANTED socket found closed is ENERGISED, and an ENERGISED one found open is GRANTED again, both keeping
their reservation. R117, R127, R128: at a scan completion a GRANTED socket unconfirmed for the second counted scan is
LOCKED with the fault CONTACTOR; a feeder measured above its limit counts the scan, and at its trip count sheds the head
of its shed order, for its hold-off when it retries of itself. R88, R119, R123, R132: a good reply hands the four sockets of
its pedestal to these in position order: after a loss, and with no differences to take, the whole reported states; at an
adoption each socket is judged, adopted where it is found supplying, eligible and within the headroom, and the search runs
once at the end. That the sockets still WAITING after a loss are then judged again in ascending order, each with its own
search, is log entry 47's choice. R91, R117, R128: a scan completion keeps the measured currents, then counts the GRANTED
sockets whose pedestal answers, then judges each feeder; that each of these goes in ascending order is log entry 25's. -/
def Obligations.ReportsAndScansMoveSuppliedSockets : Prop :=
  (∀ (h : Handover) (r : PollReply) (x0 x1 x2 x3 : SocketReading) (s : State), r.sockets = [x0, x1, x2, x3] →
     let n := (r.address - 1) * 4
     let handed := handSocket h (n + 3) x3.report
       (handSocket h (n + 2) x2.report (handSocket h (n + 1) x1.report (handSocket h n x0.report s)))
     handReport h r s =
       match h with
       | .adoption =>
         if ([n, n + 1, n + 2, n + 3].any fun m => decide ((handed.socket m).state = .pending)) = true then
           grantSearch (s.pedestal r.address).feeder handed
         else handed
       | .afterLoss =>
         [n, n + 1, n + 2, n + 3].foldl (fun u m => if (u.socket m).state = .waiting then reevaluate m u else u) handed
       | .differences => handed) ∧
  (∀ (n : Nat) (x : SocketReport) (s : State),
     let kept := s.setReport n (some { x with current := min x.current ((s.socketCfg n).rating * 20) })
     (∀ old, s.report n = some old →
       handSocket .differences n x s =
         takeChanges n
           ⟨old.plug && !x.plug, !old.trip && x.trip, !old.contactor && x.contactor, old.contactor && !x.contactor,
             !old.plug && x.plug, x.trip⟩ kept) ∧
     handSocket .afterLoss n x s = takeChanges n ⟨!x.plug, x.trip, x.contactor, !x.contactor, x.plug, x.trip⟩ kept ∧
     handSocket .adoption n x s =
       adoptSocket n { x with current := min x.current ((s.socketCfg n).rating * 20) } kept) ∧
  (∀ (n : Nat) (x : SocketReport) (s : State), s.plugged n = x.plug →
     let k := s.socket n
     let f := s.feederOf n
     let r := ((s.socketCfg n).rating * (s.feederCfg f).diversity + 9) / 10
     let supplying := x.plug = true ∧ x.contactor = true
     let eligible := s.entitled n = true ∧ (s.link (n / 4 + 1)).link = .online
     let fits := (s.feeder f).reserved + r ≤ (s.feederCfg f).limit
     let t := adoptSocket n x s
     let moved (state : SocketState) : Prop :=
       (∀ j, t.socket j = if j = n then { k with state } else s.socket j) ∧ t.far.feeders = s.far.feeders ∧ Raises [] s t
     (k.state = .locked → t = s) ∧
     (k.state = .idle ∨ k.state = .unassigned →
       ((s.socketCfg n).berth = none → moved .unassigned) ∧
       ((s.socketCfg n).berth ≠ none →
         (supplying → x.trip = true → moved .tripped) ∧
         (supplying → x.trip = false → eligible → fits →
           (∃ stamp, t.socket n =
             { k with state := .energised, reservation := some r, stamp := some stamp, confirm := none, bypass := 0 }) ∧
           t.feeder f = { s.feeder f with reserved := (s.feeder f).reserved + r } ∧
           (∀ g, g ≠ f → t.feeder g = s.feeder g) ∧ Raises [.socketAdopted n f r] s t) ∧
         (¬(supplying ∧ x.trip = true) → ¬(supplying ∧ eligible ∧ fits) →
           (x.plug = false → moved .idle) ∧ (x.plug = true → ¬eligible → moved .waiting) ∧
           (x.plug = true → eligible →
             (∀ j, t.socket j = if j = n then { k with state := .pending, bypass := 0 } else s.socket j) ∧
             t.feeder f = { s.feeder f with pending := (t.feeder f).pending } ∧
             (∀ m, m ∈ (t.feeder f).pending ↔ m = n ∨ m ∈ (s.feeder f).pending) ∧
             (∀ g, g ≠ f → t.feeder g = s.feeder g) ∧ Raises [] s t))))) ∧
  (∀ (n : Nat) (c : Changes) (s : State), (s.socket n).supplied = false →
     let k := s.socket n
     let t := takeChanges n c s
     (c.plugGone = true →
       (k.state = .pending → SameBut [.feeders] s t ∧ (FeedersSound s → (t.socket n).state = .idle)) ∧
       (k.state ∈ [SocketState.waiting, .shed, .tripped] →
         t = s.setSocket n { k with state := .idle, shedSource := none, holdOffEnd := none }) ∧
       (k.state ∈ [SocketState.unassigned, .idle, .locked] → t = s)) ∧
     (c.plugGone = false → t = if c.plugArrived = true ∧ k.state = .idle then reevaluate n s else s)) ∧
  (∀ s : State,
     let numbers := [1, 2, 3, 4, 5, 6, 7, 8]
     let current (f : Nat) : Nat :=
       ((s.pdl.reports.filter fun e =>
           decide ((s.pedestal (e.1 / 4 + 1)).configured = true ∧ (s.pedestal (e.1 / 4 + 1)).feeder = f)).map
         fun e => (e.2.map fun x => x.current).getD 0).sum
     let measured := numbers.foldl (fun u f => u.setFeeder f { u.feeder f with measured := current f }) s
     let answering := ((s.far.sockets.filter fun e =>
       decide (e.2.state = .granted ∧ (s.link (e.1 / 4 + 1)).link = .online ∧ (s.link (e.1 / 4 + 1)).miss = 0)).map (·.1))
     scanComplete s =
       numbers.foldl (fun u f => judgeFeeder f u) (answering.foldl (fun u n => countScan n u) measured)) ∧
  (∀ (n : Nat) (c : Changes) (s : State), FeedersSound s → (s.socket n).supplied = true →
     let k := s.socket n
     let t := takeChanges n c s
     (c.plugGone = true → (t.socket n).state = .idle ∧ (t.socket n).reservation = none) ∧
     (c.plugGone = false → c.tripAppeared = true →
       (t.socket n).state = .tripped ∧ (t.socket n).reservation = none) ∧
     (c.plugGone = false → c.tripAppeared = false → c.closed = true → c.trip = false → k.state = .granted →
       t.socket n = { k with state := .energised, confirm := none } ∧ (∀ j, j ≠ n → t.socket j = s.socket j) ∧
       t.far.feeders = s.far.feeders ∧ Raises [.socketEnergised n (s.feederOf n)] s t) ∧
     (c.plugGone = false → c.tripAppeared = false → c.closed = false → c.opened = true → k.state = .energised →
       t.socket n = { k with state := .granted, confirm := some 0 } ∧ (∀ j, j ≠ n → t.socket j = s.socket j) ∧
       t.far.feeders = s.far.feeders ∧ Raises [] s t)) ∧
  (∀ s : State, FeedersSound s →
     (∀ n, (s.socket n).state = .granted →
       let t := countScan n s
       ((s.socket n).confirm = some 0 → t.socket n = { s.socket n with confirm := some 1 } ∧ SameBut [.feeders] s t) ∧
       ((s.socket n).confirm = some 1 →
         (t.socket n).state = .locked ∧ (t.socket n).fault = true ∧ (t.socket n).reservation = none)) ∧
     (∀ f,
       let fd := s.feeder f
       let c := s.feederCfg f
       let t := judgeFeeder f s
       (fd.measured ≤ c.limit → (t.feeder f) = { fd with overCount := 0 } ∧ t.far.sockets = s.far.sockets) ∧
       (c.limit < fd.measured → fd.overCount + 1 < c.tripCount →
         (t.feeder f) = { fd with overCount := fd.overCount + 1 } ∧ t.far.sockets = s.far.sockets) ∧
       (c.limit < fd.measured → c.tripCount ≤ fd.overCount + 1 →
         (t.feeder f).overCount = 0 ∧
         ∀ n rest, s.shedOrder f = n :: rest →
           (t.socket n).state = .shed ∧ (t.socket n).shedSource = some .feeder ∧ (t.socket n).reservation = none ∧
           (t.socket n).holdOffEnd = if c.retry = .auto then some (s.uptime + c.holdOff * 60 * 256) else none)))

/-! ## The fuel dock -/

/-- R142: a sale's bounds. M is the least of the amount preset, the prepaid amount, the amount of the volume cap and, on
another account than 0, the available credit. V is the least of the volume preset, the volume limit of M and the cap;
the volume limit of M is the largest volume whose amount is at most M, so V's amount is at most M. -/
def Obligations.SaleBoundsAreTheLargestWithinCredit : Prop :=
  ∀ (a : Auth) (s : State), 0 < s.price (s.hoseCfg a.hose).grade →
    let price := s.price (s.hoseCfg a.hose).grade
    let cap := (s.hoseCfg a.hose).volumeCap
    let amount (v : Nat) : Nat := (v * price + 500) / 1000
    let volMost (m : Nat) : Nat := ((m + 1) * 1000 - 500 + (price - 1)) / price - 1
    let x := newSale a s
    let acct := a.account.getD 0
    let bounds : List Nat :=
      amount cap :: (if a.presetKind = .amount then a.presetValue.toList else []) ++ a.prepaid.toList ++
        (if a.mode = .account ∧ acct ≠ 0 then [(s.account acct).available.toNat] else [])
    let volumes : List Nat :=
      cap :: volMost x.maxAmount :: (if a.presetKind = .volume then a.presetValue.toList else [])
    (x.maxAmount ∈ bounds ∧ ∀ m ∈ bounds, x.maxAmount ≤ m) ∧
    (x.volLimit ∈ volumes ∧ ∀ v ∈ volumes, x.volLimit ≤ v) ∧
    (∀ m v, amount v ≤ m ↔ v ≤ volMost m) ∧ amount x.volLimit ≤ x.maxAmount

/-- R141, R143, R58: an authorisation that no check refuses puts an OPEN record with the next sale number at the queue's
end, earmarks its M on its account, and takes an IDLE hose to AUTHORISED, a CALLING one straight to the fuelling states. R147:
a sale with no volume to deliver goes to CLOSING with the end reason LIMIT. -/
def Obligations.HoseAuthOpensASale : Prop :=
  ∀ (tag : Nat) (r : AuthRequest) (mode : SaleMode) (kind : PresetKind) (s : State), s.takes = true →
    s.fdc.ready = true → 1 ≤ r.hose → r.hose ≤ 4 → valueOf saleModes r.mode = some mode →
    valueOf presetKinds r.presetKind = some kind → modeFields mode r.account r.prepaid = true →
    presetFields kind r.presetValue = true → (s.hose r.hose).state ∈ [HoseState.idle, .calling] →
    0 < s.price (s.hoseCfg r.hose).grade → s.fdc.sales.length < 16 →
    (mode = .account → (s.account (r.account.getD 0)).state = .opened) →
    (mode = .account → r.account.getD 0 ≠ 0 → 0 < (s.account (r.account.getD 0)).available) →
    let a : Auth := ⟨r.hose, mode, r.account, r.prepaid, kind, r.presetValue, none⟩
    let x := newSale a s
    ∃ t state, Replies (.hoseAuth tag r) s t 0x42 tag
        ⟨.ok, 0, [⟨0x11, [.u 2 s.fdc.nextSale, .u 4 x.maxAmount, .u 4 x.volLimit, enumField hoseStates state]⟩]⟩ ∧
      SameBut [.fuel, .accounts] s t ∧ Raises [] s t ∧
      t.fdc = { s.fdc with
        sales := t.fdc.sales, hoses := t.fdc.hoses,
        nextSale := if 65535 ≤ s.fdc.nextSale then 1 else s.fdc.nextSale + 1 } ∧
      (∀ h, h ≠ r.hose → t.hose h = s.hose h) ∧ (t.hose r.hose).state = state ∧
      (t.hose r.hose).sale = some s.fdc.nextSale ∧
      ((s.hose r.hose).state = .idle →
        state = .authorised ∧ (t.hose r.hose).authSince = some s.uptime ∧ t.fdc.sales = s.fdc.sales ++ [x]) ∧
      ((s.hose r.hose).state = .calling →
        FlowsAt 0 x.volLimit (s.hoseCfg r.hose).slowDown state ∧ (t.hose r.hose).flowSince = some s.uptime ∧
        t.fdc.sales = (s.fdc.sales ++ [x]).map fun y =>
          if state = .closing ∧ y.number = x.number then { y with reason := some .limit } else y) ∧
      ∀ j, t.account j =
        if mode = .account ∧ j = r.account.getD 0 then { s.account j with earmark := (s.account j).earmark + x.maxAmount }
        else s.account j

/-- R146, R150, R151: the events that complete a sale: a hang in FUELLING, SLOW or CLOSING; the authorisation timeout and
a stop in AUTHORISED; the no-flow timeout and a stop in CLOSING. The end reason is the one a closure set before, and else
the event's, and a stop answers the sale's number. R152: a completed sale is charged its amount up to M, with the excess
volume as its overrun and what a prepaid sale leaves as its refund; its earmark is given back and its charge posted, to its
account or, for a HOUSE sale, to account 0, and SALE(DONE) follows the notices of that posting. -/
def Obligations.SaleCompletesAndIsCharged : Prop :=
  (∀ (h : Nat) (x : Sale) (s : State), 1 ≤ h → h ≤ 4 → s.running = true → s.fdc.ready = true → s.hoseSale h = some x →
     let ended (reason : EndReason) (state : HoseState) (u t : State) : Prop :=
       t.sup = u.sup ∧ SaleEnded h x (x.reason.getD reason) state u t
     let st := (s.hose h).state
     (st ∈ [HoseState.fuelling, .slow, .closing] →
       let hung := (s.setNozzle h false).setHose h { s.hose h with lifted := false }
       ∃ t, exec (.nozzleHang h) s = .next t ∧ t.reply = s.reply ∧ ended .nozzle .idle hung t) ∧
     (st = .authorised →
       ∃ t, exec (.authTimeout h) s = .next t ∧ t.reply = s.reply ∧ ended .authTimeout .idle s t) ∧
     (st = .closing → ∃ t, exec (.noFlow h) s = .next t ∧ t.reply = s.reply ∧ ended .noFlow .hangWait s t) ∧
     ∀ tag, s.takes = true → st = .authorised ∨ st = .closing →
       ∃ t, Replies (.hoseStop tag h) s t 0x43 tag ⟨.ok, 0, [⟨0x11, [.u 2 x.number]⟩]⟩ ∧
         ended .stop (if st = .authorised then .idle else .hangWait) s t) ∧
  (∀ (x : Sale) (reason : EndReason) (moment : Stamp) (s : State),
     let y := finished x reason moment
     let amount := (x.volume * x.price + 500) / 1000
     y = { x with
       reason := some reason, endTime := some moment, overrun := some (x.volume - x.volLimit), amount := some amount,
       charged := some (min amount x.maxAmount), refund := x.prepaid.map fun p => p - min amount x.maxAmount,
       done := true } ∧
     ∀ charged : Nat,
       (∀ a, x.mode = .account → x.account = some a →
         handToAcu x charged s = post a (-(charged : Int))
           (s.setAccount a { s.account a with earmark := (s.account a).earmark - x.maxAmount })) ∧
       (x.mode = .house → handToAcu x charged s = post 0 (-(charged : Int)) s) ∧
       (x.mode = .prepaid → handToAcu x charged s = s))

/-- R150, R151: a stop or the no-flow timeout in FUELLING or SLOW closes the valves with its end reason, and the sale
stays OPEN in CLOSING with its no-flow timer restarted. -/
def Obligations.StopAndNoFlowCloseTheValves : Prop :=
  ∀ (h : Nat) (x : Sale) (s : State), 1 ≤ h → h ≤ 4 → (s.hose h).state = .fuelling ∨ (s.hose h).state = .slow →
    s.hoseSale h = some x →
    let closes (reason : EndReason) (t : State) : Prop :=
      SameBut [.fuel] s t ∧ Raises [] s t ∧ (∀ j, j ≠ h → t.hose j = s.hose j) ∧
      t.hose h = { s.hose h with
        state := .closing, authSince := none, flowSince := some s.uptime, stray := 0, strayReported := false } ∧
      t.mainValveOut h = false ∧ t.slowValveOut h = false ∧
      t.fdc.sales = s.fdc.sales.map fun y => if y.number = x.number then { y with reason := some reason } else y
    (s.running = true → ∃ t, exec (.noFlow h) s = .next t ∧ closes .noFlow t) ∧
    ∀ tag, s.takes = true → s.fdc.ready = true →
      ∃ t, Replies (.hoseStop tag h) s t 0x43 tag ⟨.ok, 0, [⟨0x11, [optField 2 (s.hose h).sale]⟩]⟩ ∧ closes .stop t

/-- R146, R147: a lift takes an IDLE hose to CALLING with its notice, and an AUTHORISED one into the fuelling states with
its no-flow timer started, CLOSING with the end reason LIMIT where there is no volume to deliver; a hang takes CALLING and HANG_WAIT to IDLE; any other reading is only kept. A new state clears
the stray count. -/
def Obligations.NozzleMovesTheHose : Prop :=
  ∀ (h : Nat) (s : State), 1 ≤ h → h ≤ 4 → s.running = true → s.fdc.ready = true →
    let k := s.hose h
    let lone (t : State) : Prop := SameBut [.supply, .fuel] s t ∧ ∀ j, j ≠ h → t.hose j = s.hose j
    let fresh (state : HoseState) (lifted : Bool) : Hose := ⟨state, lifted, none, none, none, 0, false⟩
    (∃ t, exec (.nozzleLift h) s = .next t ∧ lone t ∧ t.nozzle h = true ∧
      (k.state = .idle → t.hose h = fresh .calling true ∧ Raises [.hoseCalling h (s.hoseCfg h).grade] s t) ∧
      (∀ x, k.state = .authorised → s.hoseSale h = some x →
        ∃ state, FlowsAt 0 x.volLimit (s.hoseCfg h).slowDown state ∧
          t.hose h = ⟨state, true, some x.number, none, some s.uptime, 0, false⟩ ∧
          t.fdc.sales = s.fdc.sales.map fun y =>
            if state = .closing ∧ y.number = x.number then { y with reason := some .limit } else y) ∧
      (k.state ∉ [HoseState.idle, .authorised] → t.hose h = { k with lifted := true } ∧ Raises [] s t)) ∧
    (k.state ∉ [HoseState.fuelling, .slow, .closing] →
      ∃ t, exec (.nozzleHang h) s = .next t ∧ lone t ∧ t.nozzle h = false ∧ Raises [] s t ∧
        t.hose h =
          if k.state = .calling ∨ k.state = .hangWait then fresh .idle false else { k with lifted := false })

/-- R138, R148, R149: a pulse of a fuelling hose counts into its record's pulses and volume, restarts the no-flow timer
and moves the hose as its volume reaches its limits, a closure with the end reason LIMIT; a pulse in another state is stray: it changes no record, and is
reported once in a state. -/
def Obligations.PulseIsCountedOrStray : Prop :=
  ∀ (h : Nat) (s : State), 1 ≤ h → h ≤ 4 → s.running = true →
    let k := s.hose h
    ∃ t, exec (.pulse h) s = .next t ∧ SameBut [.fuel] s t ∧ (∀ j, j ≠ h → t.hose j = s.hose j) ∧
      (∀ x, k.state ∈ [HoseState.fuelling, .slow, .closing] → s.hoseSale h = some x → x.pulses < 4294967295 →
        let volume := (x.pulses + 1) * 1000 / x.p10
        ((t.hose h).state = .closing ∨ (k.state = .slow ∧ volume < x.volLimit ∧ (t.hose h).state = .slow) ∨
          (k.state = .fuelling ∧ FlowsAt volume x.volLimit (s.hoseCfg h).slowDown (t.hose h).state)) ∧
        (k.state ≠ .closing → (t.hose h).state = .closing → x.volLimit ≤ volume) ∧
        (t.hose h).sale = k.sale ∧ (t.hose h).flowSince = some s.uptime ∧ Raises [] s t ∧
        let closes : Prop := k.state ≠ .closing ∧ (t.hose h).state = .closing
        (¬closes → t.fdc.sales = s.fdc.sales.map fun y =>
          if y.number = x.number then { y with pulses := x.pulses + 1, volume } else y) ∧
        (closes → t.fdc.sales = s.fdc.sales.map fun y =>
          if y.number = x.number then { y with pulses := x.pulses + 1, volume, reason := some .limit } else y)) ∧
      (k.state ∉ [HoseState.fuelling, .slow, .closing] →
        t.hose h = { k with stray := min (k.stray + 1) 65535, strayReported := true } ∧ t.fdc.sales = s.fdc.sales ∧
        Raises (if k.strayReported then [] else [.hoseStray h k.state k.sale]) s t)

/-- R140: SALE_TAKE removes the oldest DONE record, or the DONE record of the number named, and returns it with the
counts of those that stay, in their order. With no DONE record to take, the reply is OK without a record and nothing is
removed; a number out of range, of an OPEN record or of none is refused. -/
def Obligations.SaleTakeRemovesTheRecord : Prop :=
  ∀ (tag : Nat) (s : State), s.takes = true →
    let counts (l : List Sale) : Item := ⟨0x11, [.u 1 (l.filter fun y => !y.done).length, .u 1 (l.filter fun y => y.done).length]⟩
    let answered (number : Option Nat) (answer : Answer) (sales : List Sale) : Prop :=
      ∃ t, Replies (.saleTake tag number) s t 0x47 tag answer ∧ SameBut [.fuel] s t ∧ Raises [] s t ∧
        t.fdc = { s.fdc with sales }
    let taken (number : Option Nat) (x : Sale) : Prop :=
      let left := s.fdc.sales.filter fun y => decide (y.number ≠ x.number)
      answered number ⟨.ok, 0, [counts left, saleItem x]⟩ left
    let refused (n : Nat) (code : Status) : Prop := answered (some n) ⟨code, 0, []⟩ s.fdc.sales
    (∀ x, s.fdc.sales.find? (fun y => y.done) = some x → taken none x) ∧
    (s.fdc.sales.find? (fun y => y.done) = none → answered none ⟨.ok, 0, [counts s.fdc.sales]⟩ s.fdc.sales) ∧
    (∀ n, n < 1 ∨ 65535 < n → refused n .range) ∧
    ∀ n, 1 ≤ n → n ≤ 65535 →
      (∀ x, s.sale n = some x → (x.done = true → taken (some n) x) ∧ (x.done = false → refused n .state)) ∧
      (s.sale n = none → refused n .noSuch)

/-- R155: the FDC's start processing completes every OPEN record with the end reason POWER at the present time, by R152, and
keeps every other record, and every record's place and number; each completed sale's charge and earmark go to the ACU, with
its SALE(DONE), in queue order. Each hose is read from its nozzle, and the FDC is then ready. -/
def Obligations.FdcStartCompletesOpenSales : Prop :=
  ∀ s : State, s.running = true → s.fdc.ready = false →
    ∃ t, exec .fdcStart s = .next t ∧ SameBut (.fuel :: holdParts) s t ∧ t.fdc.ready = true ∧
      (∀ x ∈ t.fdc.sales, x.done = true) ∧ t.fdc.sales.map (·.number) = s.fdc.sales.map (·.number) ∧
      t.fdc.sales = s.fdc.sales.map (fun x => if x.done then x else finished x .power s.now) ∧
      (let after := (s.fdc.sales.filter fun x => !x.done).foldl
         (fun u x => (handedOver x u).raise (saleNotice (finished x .power s.now))) s
       t.acu = after.acu ∧ t.far = after.far ∧ t.pdl = after.pdl ∧ t.gtc = after.gtc ∧
         t.hlc.outgoing = after.hlc.outgoing) ∧
      t.fdc.cfg = s.fdc.cfg ∧ t.fdc.prices = s.fdc.prices ∧ t.fdc.nextSale = s.fdc.nextSale ∧
      ∀ h ∈ [1, 2, 3, 4], t.hose h = if s.nozzle h then startHoseLifted else startHose

/-- R145, R141, R155: an offer is refused by the first of its checks that fails. R145, R183: an offer that no check refuses
opens the sale of an authorisation on its account with the self-serve cap as its amount preset, in its credential's name
(R143, R58), lights the lamp GREEN and stamps the credential; a refused one lights it RED and opens none. Each is reported,
and the terminal waits no longer. What becomes of a credential that was freed or rewritten since the offer is log entry 27's.
-/
def Obligations.SelfServeOfferIsDecided : Prop :=
  (∀ (o : Offer) (s : State), s.offerRefused o = firstFailed (offerChecks s o)) ∧
  ∀ (o : Offer) (s : State), s.running = true → s.gtc.fuel.offer = some o →
    ∃ t, exec .selfServeOffer s = .next t ∧ SameBut [.fuel, .accounts, .gates] s t ∧ t.gtc.fuel.offer = none ∧
      (∀ code, s.offerRefused o = some code →
        SameBut [.gates] s t ∧ t.gtc.fuel.lamp = .red s.uptime ∧ t.gtc.creds = s.gtc.creds ∧
        Raises [.gateFuel o.cred o.hose code none] s t) ∧
      (s.offerRefused o = none →
        let x := newSale ⟨o.hose, .account, o.account, none, .amount, some s.fdc.cap, some o.cred⟩ s
        let state := (t.hose o.hose).state
        t.gtc.fuel.lamp = .green s.uptime ∧ (t.hose o.hose).sale = some x.number ∧ x.number = s.fdc.nextSale ∧
        x.cred = some o.cred ∧ x.account = o.account ∧ x.mode = .account ∧ x.presetValue = some s.fdc.cap ∧
        t.fdc.sales = (s.fdc.sales ++ [x]).map (fun y =>
          if state = .closing ∧ y.number = x.number then { y with reason := some .limit } else y) ∧
        t.fdc = { s.fdc with
          sales := t.fdc.sales, hoses := t.fdc.hoses,
          nextSale := if 65535 ≤ s.fdc.nextSale then 1 else s.fdc.nextSale + 1 } ∧
        (∀ h, h ≠ o.hose → t.hose h = s.hose h) ∧
        ((s.hose o.hose).state = .idle → state = .authorised ∧ (t.hose o.hose).authSince = some s.uptime) ∧
        ((s.hose o.hose).state = .calling →
          FlowsAt 0 x.volLimit (s.hoseCfg o.hose).slowDown state ∧ (t.hose o.hose).flowSince = some s.uptime) ∧
        (∀ j, t.account j =
          if o.account = some j then { s.account j with earmark := (s.account j).earmark + x.maxAmount }
          else s.account j) ∧
        (∀ j, t.cred j =
          if j = o.cred ∧ (s.cred j).state ≠ .free then { s.cred j with lastUse := some s.now } else s.cred j) ∧
        Raises [.gateFuel o.cred o.hose .ok (some s.fdc.nextSale)] s t)

/-! ## Gates, keypads and credentials -/

/-- R158, R160: a credential's row that its checks pass is written whole over the record, which keeps its location and
its last use, and every use of the record in progress ends; a record is suspended, resumed, and made FREE with its uses
ended. No other record changes. What the fields of a FREE record read beyond its location is log entry 5's choice. -/
def Obligations.CredentialRecordsAreWritten : Prop :=
  ∀ (tag i : Nat) (s : State), s.takes = true → i ≤ 1023 →
    let old := s.cred i
    let lone (t : State) : Prop := SameBut [.gates] s t ∧ Raises [] s t ∧ ∀ j, j ≠ i → t.cred j = s.cred j
    let unused (t : State) : Prop :=
      (∀ g ∈ [1, 2, 3, 4, 5, 6], (t.gate g).attributed ≠ some i ∧ (t.gate g).door = (s.gate g).door) ∧
      ∀ n ∈ [1, 2, 3, 4, 5, 6, 7], (t.terminal n).card.map (·.cred) ≠ some i
    (∀ (r : CredRow) state kind location, valueOf credStates r.state = some state → state ≠ .free →
      valueOf credKinds r.kind = some kind → locationOf r.location = some location → credInRange i kind r = true →
      (∀ b, r.booking = some b → (s.booking b).state ≠ .free ∧ (s.booking b).isClosed = false) →
      s.credConflict i kind r = false →
      ∃ t, Replies (.credPut tag i [.row r]) s t 0x50 tag (rowsWritten 1) ∧ lone t ∧ unused t ∧
        t.cred i =
          { state, kind, token := r.token, pin := r.pin, booking := r.booking,
            account := if r.booking.isSome then none else r.account, gateSet := r.gateSet, berthGates := r.berthGates,
            fuel := r.fuel, autoArrive := r.autoArrive, validFrom := r.validFrom, validUntil := r.validUntil,
            location := location.getD (if old.state = .free then .unknown else old.location),
            lastUse := if old.state = .free then none else old.lastUse }) ∧
    (old.state = .active →
      ∃ t, Replies (.credSuspend tag i) s t 0x52 tag ⟨.ok, 0, [⟨0x11, [enumField credStates CredState.suspended]⟩]⟩ ∧
        lone t ∧ t.cred i = { old with state := .suspended }) ∧
    (old.state = .suspended →
      ∃ t, Replies (.credResume tag i) s t 0x53 tag ⟨.ok, 0, [⟨0x11, [enumField credStates CredState.active]⟩]⟩ ∧
        lone t ∧ t.cred i = { old with state := .active }) ∧
    (old.state ≠ .free →
      ∃ t, Replies (.credFree tag i) s t 0x54 tag ⟨.ok, 0, [⟨0x11, [enumField credStates CredState.free]⟩]⟩ ∧
        lone t ∧ unused t ∧ t.cred i = coldCred)

/-- R164: a mode is written at once. To OPEN_HOLD the door follows its contact, a release or an alarm ending; from
OPEN_HOLD a door whose contact is open is OPEN with its held timer started, and one that is closed is SECURE; between
NORMAL and LOCKDOWN it stays as it is. That OPEN_HOLD clears the attribution, direction and passback flag of a door that
is OPEN after its passage too is log entry 29's choice. -/
def Obligations.GateModeMovesTheDoor : Prop :=
  ∀ (tag g code : Nat) (mode : GateMode) (s : State), s.takes = true → 1 ≤ g → g ≤ 6 →
    valueOf gateModes code = some mode →
    let old := (s.gateCfg g).mode
    let k := s.gate g
    ∃ t, Replies (.gateMode tag g code) s t 0x57 tag ⟨.ok, 0, [⟨0x11, [enumField doorStates (t.gate g).door]⟩]⟩ ∧
      SameBut [.gates] s t ∧ (∀ j, t.gateCfg j = if j = g then { s.gateCfg g with mode } else s.gateCfg j) ∧
      (∀ j, j ≠ g → t.gate j = s.gate j) ∧ t.gtc.creds = s.gtc.creds ∧ t.gtc.terminals = s.gtc.terminals ∧
      (old = mode ∨ (old ≠ .openHold ∧ mode ≠ .openHold) → t.gate g = k ∧ Raises [] s t) ∧
      (old ≠ .openHold → mode = .openHold →
        t.gate g = ⟨if k.contactOpen then .opened else .secure, k.contactOpen, none, none, none, none, false⟩ ∧
        Raises (if k.door = .heldAlarm ∨ k.door = .forcedAlarm then [.gateCleared g k.door] else []) s t) ∧
      (old = .openHold → mode ≠ .openHold →
        t.gate g =
          ⟨if k.contactOpen then .opened else .secure, k.contactOpen, none, none, none,
            if k.contactOpen then some ⟨s.uptime, (s.gateCfg g).heldTime⟩ else none, false⟩ ∧ Raises [] s t)

/-- R178: GATE_PULSE, the exit button, and a card read at the exit reader release a SECURE door that is not in OPEN_HOLD,
whatever LOCKDOWN, the credential's validity, its gates, its account or its location say; only a card that is unknown or
SUSPENDED is refused. The relay is driven for the release time. That the exit reader serves a CARD_PIN card while the
terminal is locked out is log entry 53's reading of R169 and R178. -/
def Obligations.ExitsReleaseTheDoor : Prop :=
  ∀ (g : Nat) (s : State), 1 ≤ g → g ≤ 6 → (s.gateCfg g).mode ≠ .openHold → (s.gate g).door = .secure →
    let released (cred : Option Nat) (dir : Direction) (t : State) : Prop :=
      SameBut [.gates] s t ∧ Raises [] s t ∧ (∀ j, j ≠ g → t.gate j = s.gate j) ∧
      t.gate g = { s.gate g with
        door := .released, attributed := cred, direction := some dir,
        releaseTimer := some ⟨s.uptime, (s.gateCfg g).releaseTime⟩, passback := false } ∧ t.relayOut g = true
    (∀ tag, s.takes = true → ∃ t, Replies (.gatePulse tag g) s t 0x58 tag okAnswer ∧ released none .none t) ∧
    (s.running = true → ∃ t, exec (.exitButton g) s = .next t ∧ released none .exit t) ∧
    ∀ token, s.running = true → (s.gateCfg g).exitReader = true →
      let refused (cred : Option Nat) (reason : GateRefusal) : Prop :=
        ∃ t, exec (.cardRead g true token) s = .next t ∧ SameBut [.gates] s t ∧ t.gtc.gates = s.gtc.gates ∧
          t.gtc.creds = s.gtc.creds ∧ Raises [.gateRefused g .exit cred reason false] s t
      (s.credByToken token = none → refused none .unknown) ∧
      ∀ n, s.credByToken token = some n →
        ((s.cred n).state = .active →
          ∃ t, exec (.cardRead g true token) s = .next t ∧ released (some n) .exit t ∧
            t.cred n = { s.cred n with lastUse := some s.now } ∧ ∀ j, j ≠ n → t.cred j = s.cred j) ∧
        ((s.cred n).state = .suspended → refused (some n) .suspended)

/-- R176, R177, R179: the door's moves. An opening is a passage from RELEASED, an alarm from SECURE and, in OPEN_HOLD, a
passage of no one; a closing makes the door SECURE, an alarm cleared with its notice; the release time without an opening
secures the door, and the held time with it open raises the alarm. A passage records the side the credential has gone to.
That a release's direction and passback flag stay while the door is OPEN and in HELD_ALARM is log entry 29's choice. -/
def Obligations.DoorFollowsItsContact : Prop :=
  ∀ (g : Nat) (s : State), 1 ≤ g → g ≤ 6 → s.running = true →
    let k := s.gate g
    let dir := k.direction.getD .none
    let rest (t : State) : Prop := (∀ j, j ≠ g → t.gate j = s.gate j) ∧ t.gtc.terminals = s.gtc.terminals
    let settled (door : DoorState) (isOpen : Bool) : Gate := ⟨door, isOpen, none, none, none, none, false⟩
    (∃ t, exec (.doorContact g true) s = .next t ∧ SameBut [.supply, .gates, .berths] s t ∧ rest t ∧
      t.contact g = true ∧
      ((s.gateCfg g).mode = .openHold →
        t.gate g = settled .opened true ∧ Raises [.gatePassage g .none none false] s t ∧ t.gtc.creds = s.gtc.creds) ∧
      ((s.gateCfg g).mode ≠ .openHold → k.door = .secure →
        t.gate g = settled .forcedAlarm true ∧ Raises [.gateForced g] s t ∧ t.gtc.creds = s.gtc.creds) ∧
      ((s.gateCfg g).mode ≠ .openHold → k.door = .released →
        t.gate g = { k with
          door := .opened, contactOpen := true, releaseTimer := none,
          heldTimer := some ⟨s.uptime, (s.gateCfg g).heldTime⟩ } ∧
        Raises [.gatePassage g dir k.attributed k.passback] s t ∧
        (∀ c, k.attributed = some c → (s.cred c).state ≠ .free →
          t.cred c = { s.cred c with
            location := match dir with | .entry => .pontoon | .exit => .land | .none => (s.cred c).location } ∧
          ∀ b, (s.cred c).booking = some b → dir = .entry → (s.cred c).autoArrive = true →
            (s.booking b).state = .confirmed → t.bal.arrivals = s.bal.arrivals ++ [⟨b, c, g⟩]))) ∧
    (∃ t, exec (.doorContact g false) s = .next t ∧ SameBut [.supply, .gates] s t ∧ rest t ∧ t.contact g = false ∧
      t.gtc.creds = s.gtc.creds ∧
      (k.door ∈ [DoorState.opened, .heldAlarm, .forcedAlarm] →
        t.gate g = settled .secure false ∧
        Raises (if k.door = .opened then [] else [.gateCleared g k.door]) s t) ∧
      (k.door ∈ [DoorState.secure, .released] → t.gate g = { k with contactOpen := false } ∧ Raises [] s t)) ∧
    (k.door = .released →
      ∃ t, exec (.releaseTimeout g) s = .next t ∧ SameBut [.gates] s t ∧ rest t ∧ Raises [] s t ∧
        t.gate g = settled .secure k.contactOpen ∧ t.relayOut g = decide ((s.gateCfg g).mode = .openHold)) ∧
    (k.door = .opened → k.heldTimer.isSome = true →
      ∃ t, exec (.heldTimeout g) s = .next t ∧ SameBut [.gates] s t ∧ rest t ∧ Raises [.gateHeld g] s t ∧
        t.gate g = { k with door := .heldAlarm, heldTimer := none })

/-- R172 to R174: a presentation is refused with the reason of the first of its checks that fails; that a credential whose
booking is FREE or closed is EXPIRED is log entry 30's choice. R170 to R175: a card, or a PIN submitted alone, or a card with its PIN, that a gate's checks pass releases the SECURE
door for entry, attributed to its credential and stamped as its use, with the passback flag under SOFT on the pontoon; one
that a check refuses is reported with the first such check's reason and leaves the door as it was. A card with a PIN waits
for it, at a terminal that is locked out it is refused BUSY (R169); with another PIN than its own it is refused UNKNOWN, a
failed submission, the fifth of which locks the terminal out, and the card is dropped. An unknown card is refused UNKNOWN. In
OPEN_HOLD an identified presentation is discarded, a submission clearing the failure count. Which reader the notice of a card
with a PIN names, and the credential in a BUSY refusal, are log entry 18's; that a card alone clears no failure count is
log entry 51's. -/
def Obligations.EntryIsGrantedOrRefused : Prop :=
  (∀ (g : Nat) (c : Cred) (s : State), s.entryRefusal g c = firstFailed (entryChecks s g c)) ∧
  (∀ (g : Nat) (s : State), 1 ≤ g → g ≤ 6 → s.running = true →
    let k := s.terminal g
    let discarded (next : Terminal) (t : State) : Prop :=
      SameBut [.gates] s t ∧ t.gtc.gates = s.gtc.gates ∧ t.gtc.creds = s.gtc.creds ∧ t.terminal g = next ∧
      ∀ j, j ≠ g → t.terminal j = s.terminal j
    (∀ token, s.isRepeat g token = false →
      (s.credByToken token = none →
        ∃ t, exec (.cardRead g false token) s = .next t ∧ discarded { k with buffer := [], keySince := none } t ∧
          Raises [.gateRefused g .entry none .unknown false] s t) ∧
      ∀ n, s.credByToken token = some n →
        ((s.cred n).kind = .cardPin → k.lockoutSince.isSome = true →
          ∃ t, exec (.cardRead g false token) s = .next t ∧ discarded { k with buffer := [], keySince := none } t ∧
            Raises [.gateRefused g .entry (some n) .busy false] s t) ∧
        ((s.cred n).kind = .card → (s.gateCfg g).mode = .openHold →
          ∃ t, exec (.cardRead g false token) s = .next t ∧ discarded { k with buffer := [], keySince := none } t ∧
            Raises [] s t)) ∧
    (∀ c : PendingCard, k.card = some c → k.buffer ≠ [] → k.lockoutSince = none →
      let emptied : Terminal := { k with buffer := [], keySince := none, card := none }
      ((s.cred c.cred).pin ≠ some k.buffer →
        ∃ t, exec (.keyEvent g 11) s = .next t ∧
          Raises [.gateRefused g .entry (some c.cred) .unknown (decide (5 ≤ k.failures + 1))] s t ∧
          discarded
            (if k.failures + 1 < 5 then { emptied with failures := k.failures + 1 }
              else { emptied with failures := 0, lockoutSince := some s.uptime }) t) ∧
      ((s.cred c.cred).pin = some k.buffer → (s.gateCfg g).mode = .openHold →
        ∃ t, exec (.keyEvent g 11) s = .next t ∧ discarded { emptied with failures := 0 } t ∧ Raises [] s t)) ∧
    (∀ n, k.card = none → k.buffer ≠ [] → k.lockoutSince = none → s.credByPin k.buffer = some n →
      (s.gateCfg g).mode = .openHold →
      ∃ t, exec (.keyEvent g 11) s = .next t ∧
        discarded { k with buffer := [], keySince := none, failures := 0 } t ∧ Raises [] s t)) ∧
  ∀ (g n : Nat) (s : State), 1 ≤ g → g ≤ 6 → s.running = true → (s.gateCfg g).mode ≠ .openHold →
    (s.cred n).state ≠ .free →
    let c := s.cred n
    let granted (t : State) : Prop :=
      SameBut [.gates] s t ∧ Raises [] s t ∧ t.relayOut g = true ∧ (∀ j, j ≠ g → t.gate j = s.gate j) ∧
      t.gate g = { s.gate g with
        door := .released, attributed := some n, direction := some .entry,
        releaseTimer := some ⟨s.uptime, (s.gateCfg g).releaseTime⟩,
        passback := decide ((s.gateCfg g).antiPassback = .soft ∧ c.location = .pontoon) } ∧
      t.cred n = { c with lastUse := some s.now } ∧ ∀ j, j ≠ n → t.cred j = s.cred j
    let refused (reader : Reader) (reason : GateRefusal) (t : State) : Prop :=
      SameBut [.gates] s t ∧ Raises [.gateRefused g reader (some n) reason false] s t ∧ t.gtc.gates = s.gtc.gates ∧
      t.gtc.creds = s.gtc.creds
    (∀ token, s.credByToken token = some n → s.isRepeat g token = false →
      (c.kind = .card →
        ∃ t, exec (.cardRead g false token) s = .next t ∧ (t.terminal g).buffer = [] ∧
          (s.entryRefusal g c = none → granted t) ∧ ∀ reason, s.entryRefusal g c = some reason → refused .entry reason t) ∧
      (c.kind = .cardPin → (s.terminal g).lockoutSince = none →
        ∃ t, exec (.cardRead g false token) s = .next t ∧ SameBut [.gates] s t ∧ Raises [] s t ∧
          t.gtc.gates = s.gtc.gates ∧ t.gtc.creds = s.gtc.creds ∧
          t.terminal g = { s.terminal g with buffer := [], keySince := none, card := some ⟨n, s.uptime⟩ })) ∧
    (∀ pin, pin ≠ [] → (s.terminal g).buffer = pin → (s.terminal g).card = none → (s.terminal g).lockoutSince = none →
      s.credByPin pin = some n →
      ∃ t, exec (.keyEvent g 11) s = .next t ∧ (t.terminal g).buffer = [] ∧ (t.terminal g).failures = 0 ∧
        (s.entryRefusal g c = none → granted t) ∧ ∀ reason, s.entryRefusal g c = some reason → refused .keypad reason t) ∧
    (∀ since, c.pin = some (s.terminal g).buffer → (s.terminal g).buffer ≠ [] → (s.terminal g).card = some ⟨n, since⟩ →
      (s.terminal g).lockoutSince = none →
      ∃ t, exec (.keyEvent g 11) s = .next t ∧
        t.terminal g = { s.terminal g with buffer := [], keySince := none, card := none, failures := 0 } ∧
        (s.entryRefusal g c = none → granted t) ∧ ∀ reason, s.entryRefusal g c = some reason → refused .entry reason t)

/-- R167 to R169: a terminal's keys. A digit joins the buffer while it holds fewer than 8 and restarts the inter-key
timer; `*` empties it and drops a pending card; a locked-out terminal discards every key. A PIN that no credential holds
is a failed submission, and the fifth locks the terminal out. A reading seen in three full scans moves the scanner by the
table of R167: one key down gives its event from none or from another key, and only once while it is held; more than one
key silences the scanner until none is down. That the count of equal scans stops at 3 is log entry 52's. -/
def Obligations.KeypadTakesItsKeys : Prop :=
  ∀ (n : Nat) (s : State), 1 ≤ n → n ≤ 7 → s.running = true →
    let k := s.terminal n
    let lone (t : State) : Prop :=
      SameBut [.gates] s t ∧ (∀ j, j ≠ n → t.terminal j = s.terminal j) ∧ t.gtc.gates = s.gtc.gates ∧
      t.gtc.creds = s.gtc.creds
    (k.lockoutSince = none → (n = 7 → s.gtc.fuel.offer = none) →
      (∀ d < 10, ∃ t, exec (.keyEvent n d) s = .next t ∧ lone t ∧ Raises [] s t ∧
        t.terminal n = { k with
          buffer := if k.buffer.length < 8 then k.buffer ++ [d] else k.buffer, keySince := some s.uptime }) ∧
      (∃ t, exec (.keyEvent n 10) s = .next t ∧ lone t ∧ Raises [] s t ∧
        t.terminal n = { k with buffer := [], keySince := none, card := none } ∧
        (n = 7 → t.gtc.fuel.window = .none)) ∧
      (n ≤ 6 → k.card = none → k.buffer ≠ [] → s.credByPin k.buffer = none →
        ∃ t, exec (.keyEvent n 11) s = .next t ∧ lone t ∧
          Raises [.gateRefused n .keypad none .unknown (decide (5 ≤ k.failures + 1))] s t ∧
          t.terminal n =
            if k.failures + 1 < 5 then { k with buffer := [], keySince := none, failures := k.failures + 1 }
            else { k with buffer := [], keySince := none, failures := 0, lockoutSince := some s.uptime })) ∧
    (k.lockoutSince.isSome = true → ∀ key < 12, ∃ t, exec (.keyEvent n key) s = .next t ∧ lone t ∧ Raises [] s t ∧
      t.terminal n = k) ∧
    ∀ reading, ∃ t, exec (.keypadFullScan n reading) s = .next t ∧ lone t ∧ Raises [] s t ∧
      let moves (next : Scanner) (events : List Nat) : Prop :=
        t.terminal n = { k with equalScans := 3, scanner := next } ∧
        t.gtc.keyEvents = s.gtc.keyEvents ++ events.map fun key => (n, key)
      (reading ≠ k.reading → t.terminal n = { k with reading, equalScans := 1 } ∧ t.gtc.keyEvents = s.gtc.keyEvents) ∧
      (reading = k.reading → k.equalScans < 2 →
        t.terminal n = { k with equalScans := k.equalScans + 1 } ∧ t.gtc.keyEvents = s.gtc.keyEvents) ∧
      (reading = k.reading → 2 ≤ k.equalScans →
        (∀ key, reading = .one key →
          (k.scanner = .idle → moves (.key key) [key]) ∧
          (∀ j, k.scanner = .key j → moves (.key key) (if key = j then [] else [key])) ∧
          (k.scanner = .multi → moves .multi [])) ∧
        (reading = .none → moves .idle []) ∧
        (reading = .multi → moves .multi []))

/-- R181: a card at the dock is refused with the reason of the first of its checks that fails. R181, R182: the fuel dock's
terminal. A card that passes its checks opens the HOSE window, a card with a PIN the PIN window; one that a check refuses, or
that no credential holds, lights the lamp RED and is reported, and while the terminal is locked out or an offer is pending
any card is refused BUSY. In the PIN window the card's own PIN opens the HOSE window, and another is a failed submission: the
card is dropped, the window closes, the lamp shows RED, and the fifth locks the terminal out (R169); in the HOSE window a
digit 1 to 4 offers the card to that hose, and another submission changes nothing but the buffer, as any does in no window.
The reader the notices name, and the credential in a BUSY refusal, are log entry 18's. -/
def Obligations.DockTerminalOpensItsWindows : Prop :=
  (∀ (c : Cred) (s : State), s.dockRefusal c = firstFailed (dockChecks s c)) ∧
  (∀ (token : Nat) (s : State), s.running = true →
    (s.terminal 7).lockoutSince.isSome = true ∨ s.gtc.fuel.offer.isSome = true →
    ∃ t, exec (.cardRead 7 false token) s = .next t ∧ SameBut [.gates] s t ∧ t.gtc.creds = s.gtc.creds ∧
      t.terminal 7 = { s.terminal 7 with buffer := [], keySince := none } ∧
      t.gtc.fuel = { s.gtc.fuel with lamp := .red s.uptime } ∧
      Raises [.gateRefused 7 .entry (s.credByToken token) .busy false] s t) ∧
  ∀ (s : State), s.running = true → (s.terminal 7).lockoutSince = none → s.gtc.fuel.offer = none →
    (∀ token, s.credByToken token = none →
      ∃ t, exec (.cardRead 7 false token) s = .next t ∧ SameBut [.gates] s t ∧ t.gtc.creds = s.gtc.creds ∧
        t.terminal 7 = { s.terminal 7 with buffer := [], keySince := none, card := none } ∧
        t.gtc.fuel = { s.gtc.fuel with window := .none, lamp := .red s.uptime } ∧
        Raises [.gateRefused 7 .entry none .unknown false] s t) ∧
    (s.gtc.fuel.window = .none → (s.terminal 7).buffer ≠ [] →
      ∃ t, exec (.keyEvent 7 11) s = .next t ∧ SameBut [.gates] s t ∧ t.gtc.creds = s.gtc.creds ∧
        t.terminal 7 = { s.terminal 7 with buffer := [], keySince := none } ∧ t.gtc.fuel = s.gtc.fuel ∧ Raises [] s t) ∧
    (∀ token n, s.credByToken token = some n →
      ∃ t, exec (.cardRead 7 false token) s = .next t ∧ SameBut [.gates] s t ∧ (t.terminal 7).buffer = [] ∧
        t.gtc.creds = s.gtc.creds ∧
        (s.dockRefusal (s.cred n) = none →
          (t.terminal 7).card = some ⟨n, s.uptime⟩ ∧
          t.gtc.fuel = { s.gtc.fuel with window := if (s.cred n).kind = .card then .hose else .pin } ∧ Raises [] s t) ∧
        ∀ reason, s.dockRefusal (s.cred n) = some reason →
          (t.terminal 7).card = none ∧ t.gtc.fuel = { s.gtc.fuel with window := .none, lamp := .red s.uptime } ∧
          Raises [.gateRefused 7 .entry (some n) reason false] s t) ∧
    (∀ c : PendingCard, (s.terminal 7).card = some c → (s.terminal 7).buffer ≠ [] →
      ∃ t, exec (.keyEvent 7 11) s = .next t ∧ SameBut [.gates] s t ∧ (t.terminal 7).buffer = [] ∧
        t.gtc.creds = s.gtc.creds ∧
        (s.gtc.fuel.window = .pin → (s.cred c.cred).pin = some (s.terminal 7).buffer →
          (t.terminal 7).card = some ⟨c.cred, s.uptime⟩ ∧ (t.terminal 7).failures = 0 ∧
          t.gtc.fuel = { s.gtc.fuel with window := .hose } ∧ Raises [] s t) ∧
        (s.gtc.fuel.window = .pin → (s.cred c.cred).pin ≠ some (s.terminal 7).buffer →
          let k := s.terminal 7
          let emptied : Terminal := { k with buffer := [], keySince := none, card := none }
          t.terminal 7 =
            (if k.failures + 1 < 5 then { emptied with failures := k.failures + 1 }
              else { emptied with failures := 0, lockoutSince := some s.uptime }) ∧
          t.gtc.fuel = { s.gtc.fuel with window := .none, lamp := .red s.uptime } ∧
          Raises [.gateRefused 7 .entry (some c.cred) .unknown (decide (5 ≤ k.failures + 1))] s t) ∧
        (∀ d, s.gtc.fuel.window = .hose → (s.terminal 7).buffer = [d] → 1 ≤ d → d ≤ 4 →
          (t.terminal 7).card = none ∧
          t.gtc.fuel = { s.gtc.fuel with
            window := .none, offer := some ⟨c.cred, d, s.credAccount (s.cred c.cred)⟩ } ∧ Raises [] s t) ∧
        (s.gtc.fuel.window = .hose → (∀ d, (s.terminal 7).buffer = [d] → d < 1 ∨ 4 < d) →
          (t.terminal 7).card = some c ∧ t.gtc.fuel = s.gtc.fuel ∧ Raises [] s t))

/-- R168 to R170, R182, R183: a terminal's timers: the inter-key time empties the buffer, the lockout's end lets keys in
again, a window's end drops the pending card, and the lamp goes off. Nothing else changes, and nothing is reported. -/
def Obligations.TerminalTimersEnd : Prop :=
  ∀ (n : Nat) (s : State), 1 ≤ n → n ≤ 7 → s.running = true →
    let k := s.terminal n
    let lone (t : State) : Prop :=
      SameBut [.gates] s t ∧ Raises [] s t ∧ (∀ j, j ≠ n → t.terminal j = s.terminal j) ∧ t.gtc.gates = s.gtc.gates ∧
      t.gtc.creds = s.gtc.creds
    (k.keySince.isSome = true →
      ∃ t, exec (.interKeyTimeout n) s = .next t ∧ lone t ∧ t.terminal n = { k with buffer := [], keySince := none } ∧
        t.gtc.fuel = s.gtc.fuel) ∧
    (∃ t, exec (.lockoutExpiry n) s = .next t ∧ lone t ∧ t.terminal n = { k with lockoutSince := none } ∧
      t.gtc.fuel = s.gtc.fuel) ∧
    (n ≤ 6 → k.card.isSome = true →
      ∃ t, exec (.cardWindowExpiry n) s = .next t ∧ lone t ∧
        t.terminal n = { k with buffer := [], keySince := none, card := none } ∧ t.gtc.fuel = s.gtc.fuel) ∧
    (n = 7 → s.gtc.fuel.window ≠ .none →
      ∃ t, exec .fuelWindowExpiry s = .next t ∧ lone t ∧
        t.terminal 7 = { k with buffer := [], keySince := none, card := none } ∧
        t.gtc.fuel = { s.gtc.fuel with window := .none }) ∧
    ∃ t, exec .lampExpiry s = .next t ∧ SameBut [.gates] s t ∧ Raises [] s t ∧
      t.gtc = { s.gtc with fuel := { s.gtc.fuel with lamp := .off } }

/-! ## What every step keeps -/

/-- The invariant of R47 to R49, R62, R69, R71, R137 and R196 holds of the reset state, and so does the feeders'. -/
def Obligations.ResetStateMeetsTheInvariants : Prop :=
  Inv State.reset ∧ FeedersSound State.reset

/-- R47 to R49, R62, R69, R71, R137, R196: from every state with at most 32 notices and 16 sale records, the clock, the
accounts and the residues within their ranges and account 0 OPEN, every step leads to such a state. -/
def Obligations.EveryStepKeepsTheInvariant : Prop :=
  ∀ s t : State, Inv s → step s = .next t → Inv t

/-- R103, R106, R107, R113: from every state whose feeders' reserved sums are what their sockets hold and within the
limit, every step leads to such a state: no feeder's reservations ever pass its limit. -/
def Obligations.EveryStepKeepsFeedersWithinTheirLimit : Prop :=
  ∀ s t : State, FeedersSound s → step s = .next t → FeedersSound t
end

