-- ==== Sys2Proof/Laws/State.lean ====
section
/-! SUPPORT. What one write of one table of the state leaves as it was: one lemma for each field and each write, true by
unfolding the record. -/

namespace Sys2Proof.Machine

@[simp] theorem State.setBerth_sup (s : State) (i : Nat) (x : Berth) : (s.setBerth i x).sup = s.sup := rfl
@[simp] theorem State.setBerth_hlc (s : State) (i : Nat) (x : Berth) : (s.setBerth i x).hlc = s.hlc := rfl
@[simp] theorem State.setBerth_clk (s : State) (i : Nat) (x : Berth) : (s.setBerth i x).clk = s.clk := rfl
@[simp] theorem State.setBerth_bal_bookings (s : State) (i : Nat) (x : Berth) :
    (s.setBerth i x).bal.bookings = s.bal.bookings := rfl
@[simp] theorem State.setBerth_bal_tides (s : State) (i : Nat) (x : Berth) : (s.setBerth i x).bal.tides = s.bal.tides := rfl
@[simp] theorem State.setBerth_bal_lowWater (s : State) (i : Nat) (x : Berth) :
    (s.setBerth i x).bal.lowWater = s.bal.lowWater := rfl
@[simp] theorem State.setBerth_bal_margin (s : State) (i : Nat) (x : Berth) : (s.setBerth i x).bal.margin = s.bal.margin :=
  rfl
@[simp] theorem State.setBerth_bal_grace (s : State) (i : Nat) (x : Berth) : (s.setBerth i x).bal.grace = s.bal.grace := rfl
@[simp] theorem State.setBerth_bal_arrivals (s : State) (i : Nat) (x : Berth) :
    (s.setBerth i x).bal.arrivals = s.bal.arrivals := rfl
@[simp] theorem State.setBerth_acu (s : State) (i : Nat) (x : Berth) : (s.setBerth i x).acu = s.acu := rfl
@[simp] theorem State.setBerth_pdl (s : State) (i : Nat) (x : Berth) : (s.setBerth i x).pdl = s.pdl := rfl
@[simp] theorem State.setBerth_far (s : State) (i : Nat) (x : Berth) : (s.setBerth i x).far = s.far := rfl
@[simp] theorem State.setBerth_fdc (s : State) (i : Nat) (x : Berth) : (s.setBerth i x).fdc = s.fdc := rfl
@[simp] theorem State.setBerth_gtc (s : State) (i : Nat) (x : Berth) : (s.setBerth i x).gtc = s.gtc := rfl
@[simp] theorem State.setBerth_pending (s : State) (i : Nat) (x : Berth) : (s.setBerth i x).pending = s.pending := rfl

@[simp] theorem State.setBooking_sup (s : State) (i : Nat) (x : Booking) : (s.setBooking i x).sup = s.sup := rfl
@[simp] theorem State.setBooking_hlc (s : State) (i : Nat) (x : Booking) : (s.setBooking i x).hlc = s.hlc := rfl
@[simp] theorem State.setBooking_clk (s : State) (i : Nat) (x : Booking) : (s.setBooking i x).clk = s.clk := rfl
@[simp] theorem State.setBooking_bal_berths (s : State) (i : Nat) (x : Booking) :
    (s.setBooking i x).bal.berths = s.bal.berths := rfl
@[simp] theorem State.setBooking_bal_tides (s : State) (i : Nat) (x : Booking) : (s.setBooking i x).bal.tides = s.bal.tides :=
  rfl
@[simp] theorem State.setBooking_bal_lowWater (s : State) (i : Nat) (x : Booking) :
    (s.setBooking i x).bal.lowWater = s.bal.lowWater := rfl
@[simp] theorem State.setBooking_bal_margin (s : State) (i : Nat) (x : Booking) :
    (s.setBooking i x).bal.margin = s.bal.margin := rfl
@[simp] theorem State.setBooking_bal_grace (s : State) (i : Nat) (x : Booking) : (s.setBooking i x).bal.grace = s.bal.grace :=
  rfl
@[simp] theorem State.setBooking_bal_arrivals (s : State) (i : Nat) (x : Booking) :
    (s.setBooking i x).bal.arrivals = s.bal.arrivals := rfl
@[simp] theorem State.setBooking_acu (s : State) (i : Nat) (x : Booking) : (s.setBooking i x).acu = s.acu := rfl
@[simp] theorem State.setBooking_pdl (s : State) (i : Nat) (x : Booking) : (s.setBooking i x).pdl = s.pdl := rfl
@[simp] theorem State.setBooking_far (s : State) (i : Nat) (x : Booking) : (s.setBooking i x).far = s.far := rfl
@[simp] theorem State.setBooking_fdc (s : State) (i : Nat) (x : Booking) : (s.setBooking i x).fdc = s.fdc := rfl
@[simp] theorem State.setBooking_gtc (s : State) (i : Nat) (x : Booking) : (s.setBooking i x).gtc = s.gtc := rfl
@[simp] theorem State.setBooking_pending (s : State) (i : Nat) (x : Booking) : (s.setBooking i x).pending = s.pending := rfl

@[simp] theorem State.setTides_sup (s : State) (x : List (Nat × Int)) : (s.setTides x).sup = s.sup := rfl
@[simp] theorem State.setTides_hlc (s : State) (x : List (Nat × Int)) : (s.setTides x).hlc = s.hlc := rfl
@[simp] theorem State.setTides_clk (s : State) (x : List (Nat × Int)) : (s.setTides x).clk = s.clk := rfl
@[simp] theorem State.setTides_bal_berths (s : State) (x : List (Nat × Int)) : (s.setTides x).bal.berths = s.bal.berths :=
  rfl
@[simp] theorem State.setTides_bal_bookings (s : State) (x : List (Nat × Int)) : (s.setTides x).bal.bookings = s.bal.bookings :=
  rfl
@[simp] theorem State.setTides_bal_lowWater (s : State) (x : List (Nat × Int)) : (s.setTides x).bal.lowWater = s.bal.lowWater :=
  rfl
@[simp] theorem State.setTides_bal_margin (s : State) (x : List (Nat × Int)) : (s.setTides x).bal.margin = s.bal.margin :=
  rfl
@[simp] theorem State.setTides_bal_grace (s : State) (x : List (Nat × Int)) : (s.setTides x).bal.grace = s.bal.grace := rfl
@[simp] theorem State.setTides_bal_arrivals (s : State) (x : List (Nat × Int)) : (s.setTides x).bal.arrivals = s.bal.arrivals :=
  rfl
@[simp] theorem State.setTides_acu (s : State) (x : List (Nat × Int)) : (s.setTides x).acu = s.acu := rfl
@[simp] theorem State.setTides_pdl (s : State) (x : List (Nat × Int)) : (s.setTides x).pdl = s.pdl := rfl
@[simp] theorem State.setTides_far (s : State) (x : List (Nat × Int)) : (s.setTides x).far = s.far := rfl
@[simp] theorem State.setTides_fdc (s : State) (x : List (Nat × Int)) : (s.setTides x).fdc = s.fdc := rfl
@[simp] theorem State.setTides_gtc (s : State) (x : List (Nat × Int)) : (s.setTides x).gtc = s.gtc := rfl
@[simp] theorem State.setTides_pending (s : State) (x : List (Nat × Int)) : (s.setTides x).pending = s.pending := rfl

@[simp] theorem State.setArrivals_sup (s : State) (x : List Arrival) : (s.setArrivals x).sup = s.sup := rfl
@[simp] theorem State.setArrivals_hlc (s : State) (x : List Arrival) : (s.setArrivals x).hlc = s.hlc := rfl
@[simp] theorem State.setArrivals_clk (s : State) (x : List Arrival) : (s.setArrivals x).clk = s.clk := rfl
@[simp] theorem State.setArrivals_bal_berths (s : State) (x : List Arrival) : (s.setArrivals x).bal.berths = s.bal.berths :=
  rfl
@[simp] theorem State.setArrivals_bal_bookings (s : State) (x : List Arrival) :
    (s.setArrivals x).bal.bookings = s.bal.bookings := rfl
@[simp] theorem State.setArrivals_bal_tides (s : State) (x : List Arrival) : (s.setArrivals x).bal.tides = s.bal.tides := rfl
@[simp] theorem State.setArrivals_bal_lowWater (s : State) (x : List Arrival) :
    (s.setArrivals x).bal.lowWater = s.bal.lowWater := rfl
@[simp] theorem State.setArrivals_bal_margin (s : State) (x : List Arrival) : (s.setArrivals x).bal.margin = s.bal.margin :=
  rfl
@[simp] theorem State.setArrivals_bal_grace (s : State) (x : List Arrival) : (s.setArrivals x).bal.grace = s.bal.grace := rfl
@[simp] theorem State.setArrivals_acu (s : State) (x : List Arrival) : (s.setArrivals x).acu = s.acu := rfl
@[simp] theorem State.setArrivals_pdl (s : State) (x : List Arrival) : (s.setArrivals x).pdl = s.pdl := rfl
@[simp] theorem State.setArrivals_far (s : State) (x : List Arrival) : (s.setArrivals x).far = s.far := rfl
@[simp] theorem State.setArrivals_fdc (s : State) (x : List Arrival) : (s.setArrivals x).fdc = s.fdc := rfl
@[simp] theorem State.setArrivals_gtc (s : State) (x : List Arrival) : (s.setArrivals x).gtc = s.gtc := rfl
@[simp] theorem State.setArrivals_pending (s : State) (x : List Arrival) : (s.setArrivals x).pending = s.pending := rfl

@[simp] theorem State.setAccount_sup (s : State) (i : Nat) (x : Account) : (s.setAccount i x).sup = s.sup := rfl
@[simp] theorem State.setAccount_hlc (s : State) (i : Nat) (x : Account) : (s.setAccount i x).hlc = s.hlc := rfl
@[simp] theorem State.setAccount_clk (s : State) (i : Nat) (x : Account) : (s.setAccount i x).clk = s.clk := rfl
@[simp] theorem State.setAccount_bal (s : State) (i : Nat) (x : Account) : (s.setAccount i x).bal = s.bal := rfl
@[simp] theorem State.setAccount_acu_tariffs (s : State) (i : Nat) (x : Account) :
    (s.setAccount i x).acu.tariffs = s.acu.tariffs := rfl
@[simp] theorem State.setAccount_acu_sockets (s : State) (i : Nat) (x : Account) :
    (s.setAccount i x).acu.sockets = s.acu.sockets := rfl
@[simp] theorem State.setAccount_acu_taps (s : State) (i : Nat) (x : Account) : (s.setAccount i x).acu.taps = s.acu.taps :=
  rfl
@[simp] theorem State.setAccount_pdl (s : State) (i : Nat) (x : Account) : (s.setAccount i x).pdl = s.pdl := rfl
@[simp] theorem State.setAccount_far (s : State) (i : Nat) (x : Account) : (s.setAccount i x).far = s.far := rfl
@[simp] theorem State.setAccount_fdc (s : State) (i : Nat) (x : Account) : (s.setAccount i x).fdc = s.fdc := rfl
@[simp] theorem State.setAccount_gtc (s : State) (i : Nat) (x : Account) : (s.setAccount i x).gtc = s.gtc := rfl
@[simp] theorem State.setAccount_pending (s : State) (i : Nat) (x : Account) : (s.setAccount i x).pending = s.pending := rfl

@[simp] theorem State.setTariff_sup (s : State) (i : Nat) (x : Tariff) : (s.setTariff i x).sup = s.sup := rfl
@[simp] theorem State.setTariff_hlc (s : State) (i : Nat) (x : Tariff) : (s.setTariff i x).hlc = s.hlc := rfl
@[simp] theorem State.setTariff_clk (s : State) (i : Nat) (x : Tariff) : (s.setTariff i x).clk = s.clk := rfl
@[simp] theorem State.setTariff_bal (s : State) (i : Nat) (x : Tariff) : (s.setTariff i x).bal = s.bal := rfl
@[simp] theorem State.setTariff_acu_accounts (s : State) (i : Nat) (x : Tariff) :
    (s.setTariff i x).acu.accounts = s.acu.accounts := rfl
@[simp] theorem State.setTariff_acu_sockets (s : State) (i : Nat) (x : Tariff) :
    (s.setTariff i x).acu.sockets = s.acu.sockets := rfl
@[simp] theorem State.setTariff_acu_taps (s : State) (i : Nat) (x : Tariff) : (s.setTariff i x).acu.taps = s.acu.taps := rfl
@[simp] theorem State.setTariff_pdl (s : State) (i : Nat) (x : Tariff) : (s.setTariff i x).pdl = s.pdl := rfl
@[simp] theorem State.setTariff_far (s : State) (i : Nat) (x : Tariff) : (s.setTariff i x).far = s.far := rfl
@[simp] theorem State.setTariff_fdc (s : State) (i : Nat) (x : Tariff) : (s.setTariff i x).fdc = s.fdc := rfl
@[simp] theorem State.setTariff_gtc (s : State) (i : Nat) (x : Tariff) : (s.setTariff i x).gtc = s.gtc := rfl
@[simp] theorem State.setTariff_pending (s : State) (i : Nat) (x : Tariff) : (s.setTariff i x).pending = s.pending := rfl

@[simp] theorem State.setSocketAcct_sup (s : State) (i : Nat) (x : SocketAcct) : (s.setSocketAcct i x).sup = s.sup := rfl
@[simp] theorem State.setSocketAcct_hlc (s : State) (i : Nat) (x : SocketAcct) : (s.setSocketAcct i x).hlc = s.hlc := rfl
@[simp] theorem State.setSocketAcct_clk (s : State) (i : Nat) (x : SocketAcct) : (s.setSocketAcct i x).clk = s.clk := rfl
@[simp] theorem State.setSocketAcct_bal (s : State) (i : Nat) (x : SocketAcct) : (s.setSocketAcct i x).bal = s.bal := rfl
@[simp] theorem State.setSocketAcct_acu_accounts (s : State) (i : Nat) (x : SocketAcct) :
    (s.setSocketAcct i x).acu.accounts = s.acu.accounts := rfl
@[simp] theorem State.setSocketAcct_acu_tariffs (s : State) (i : Nat) (x : SocketAcct) :
    (s.setSocketAcct i x).acu.tariffs = s.acu.tariffs := rfl
@[simp] theorem State.setSocketAcct_acu_taps (s : State) (i : Nat) (x : SocketAcct) :
    (s.setSocketAcct i x).acu.taps = s.acu.taps := rfl
@[simp] theorem State.setSocketAcct_pdl (s : State) (i : Nat) (x : SocketAcct) : (s.setSocketAcct i x).pdl = s.pdl := rfl
@[simp] theorem State.setSocketAcct_far (s : State) (i : Nat) (x : SocketAcct) : (s.setSocketAcct i x).far = s.far := rfl
@[simp] theorem State.setSocketAcct_fdc (s : State) (i : Nat) (x : SocketAcct) : (s.setSocketAcct i x).fdc = s.fdc := rfl
@[simp] theorem State.setSocketAcct_gtc (s : State) (i : Nat) (x : SocketAcct) : (s.setSocketAcct i x).gtc = s.gtc := rfl
@[simp] theorem State.setSocketAcct_pending (s : State) (i : Nat) (x : SocketAcct) :
    (s.setSocketAcct i x).pending = s.pending := rfl

@[simp] theorem State.setTapResidue_sup (s : State) (i : Nat) (x : Nat) : (s.setTapResidue i x).sup = s.sup := rfl
@[simp] theorem State.setTapResidue_hlc (s : State) (i : Nat) (x : Nat) : (s.setTapResidue i x).hlc = s.hlc := rfl
@[simp] theorem State.setTapResidue_clk (s : State) (i : Nat) (x : Nat) : (s.setTapResidue i x).clk = s.clk := rfl
@[simp] theorem State.setTapResidue_bal (s : State) (i : Nat) (x : Nat) : (s.setTapResidue i x).bal = s.bal := rfl
@[simp] theorem State.setTapResidue_acu_accounts (s : State) (i : Nat) (x : Nat) :
    (s.setTapResidue i x).acu.accounts = s.acu.accounts := rfl
@[simp] theorem State.setTapResidue_acu_tariffs (s : State) (i : Nat) (x : Nat) :
    (s.setTapResidue i x).acu.tariffs = s.acu.tariffs := rfl
@[simp] theorem State.setTapResidue_acu_sockets (s : State) (i : Nat) (x : Nat) :
    (s.setTapResidue i x).acu.sockets = s.acu.sockets := rfl
@[simp] theorem State.setTapResidue_pdl (s : State) (i : Nat) (x : Nat) : (s.setTapResidue i x).pdl = s.pdl := rfl
@[simp] theorem State.setTapResidue_far (s : State) (i : Nat) (x : Nat) : (s.setTapResidue i x).far = s.far := rfl
@[simp] theorem State.setTapResidue_fdc (s : State) (i : Nat) (x : Nat) : (s.setTapResidue i x).fdc = s.fdc := rfl
@[simp] theorem State.setTapResidue_gtc (s : State) (i : Nat) (x : Nat) : (s.setTapResidue i x).gtc = s.gtc := rfl
@[simp] theorem State.setTapResidue_pending (s : State) (i : Nat) (x : Nat) : (s.setTapResidue i x).pending = s.pending :=
  rfl

@[simp] theorem State.setPedestal_sup (s : State) (i : Nat) (x : PedestalCfg) : (s.setPedestal i x).sup = s.sup := rfl
@[simp] theorem State.setPedestal_hlc (s : State) (i : Nat) (x : PedestalCfg) : (s.setPedestal i x).hlc = s.hlc := rfl
@[simp] theorem State.setPedestal_clk (s : State) (i : Nat) (x : PedestalCfg) : (s.setPedestal i x).clk = s.clk := rfl
@[simp] theorem State.setPedestal_bal (s : State) (i : Nat) (x : PedestalCfg) : (s.setPedestal i x).bal = s.bal := rfl
@[simp] theorem State.setPedestal_acu (s : State) (i : Nat) (x : PedestalCfg) : (s.setPedestal i x).acu = s.acu := rfl
@[simp] theorem State.setPedestal_pdl_links (s : State) (i : Nat) (x : PedestalCfg) :
    (s.setPedestal i x).pdl.links = s.pdl.links := rfl
@[simp] theorem State.setPedestal_pdl_sockets (s : State) (i : Nat) (x : PedestalCfg) :
    (s.setPedestal i x).pdl.sockets = s.pdl.sockets := rfl
@[simp] theorem State.setPedestal_pdl_taps (s : State) (i : Nat) (x : PedestalCfg) :
    (s.setPedestal i x).pdl.taps = s.pdl.taps := rfl
@[simp] theorem State.setPedestal_pdl_socketMeters (s : State) (i : Nat) (x : PedestalCfg) :
    (s.setPedestal i x).pdl.socketMeters = s.pdl.socketMeters := rfl
@[simp] theorem State.setPedestal_pdl_tapMeters (s : State) (i : Nat) (x : PedestalCfg) :
    (s.setPedestal i x).pdl.tapMeters = s.pdl.tapMeters := rfl
@[simp] theorem State.setPedestal_pdl_reports (s : State) (i : Nat) (x : PedestalCfg) :
    (s.setPedestal i x).pdl.reports = s.pdl.reports := rfl
@[simp] theorem State.setPedestal_pdl_runs (s : State) (i : Nat) (x : PedestalCfg) :
    (s.setPedestal i x).pdl.runs = s.pdl.runs := rfl
@[simp] theorem State.setPedestal_pdl_acks (s : State) (i : Nat) (x : PedestalCfg) :
    (s.setPedestal i x).pdl.acks = s.pdl.acks := rfl
@[simp] theorem State.setPedestal_pdl_poll (s : State) (i : Nat) (x : PedestalCfg) :
    (s.setPedestal i x).pdl.poll = s.pdl.poll := rfl
@[simp] theorem State.setPedestal_pdl_replied (s : State) (i : Nat) (x : PedestalCfg) :
    (s.setPedestal i x).pdl.replied = s.pdl.replied := rfl
@[simp] theorem State.setPedestal_far (s : State) (i : Nat) (x : PedestalCfg) : (s.setPedestal i x).far = s.far := rfl
@[simp] theorem State.setPedestal_fdc (s : State) (i : Nat) (x : PedestalCfg) : (s.setPedestal i x).fdc = s.fdc := rfl
@[simp] theorem State.setPedestal_gtc (s : State) (i : Nat) (x : PedestalCfg) : (s.setPedestal i x).gtc = s.gtc := rfl
@[simp] theorem State.setPedestal_pending (s : State) (i : Nat) (x : PedestalCfg) : (s.setPedestal i x).pending = s.pending :=
  rfl

@[simp] theorem State.setLink_sup (s : State) (i : Nat) (x : PedestalLink) : (s.setLink i x).sup = s.sup := rfl
@[simp] theorem State.setLink_hlc (s : State) (i : Nat) (x : PedestalLink) : (s.setLink i x).hlc = s.hlc := rfl
@[simp] theorem State.setLink_clk (s : State) (i : Nat) (x : PedestalLink) : (s.setLink i x).clk = s.clk := rfl
@[simp] theorem State.setLink_bal (s : State) (i : Nat) (x : PedestalLink) : (s.setLink i x).bal = s.bal := rfl
@[simp] theorem State.setLink_acu (s : State) (i : Nat) (x : PedestalLink) : (s.setLink i x).acu = s.acu := rfl
@[simp] theorem State.setLink_pdl_pedestals (s : State) (i : Nat) (x : PedestalLink) :
    (s.setLink i x).pdl.pedestals = s.pdl.pedestals := rfl
@[simp] theorem State.setLink_pdl_sockets (s : State) (i : Nat) (x : PedestalLink) :
    (s.setLink i x).pdl.sockets = s.pdl.sockets := rfl
@[simp] theorem State.setLink_pdl_taps (s : State) (i : Nat) (x : PedestalLink) : (s.setLink i x).pdl.taps = s.pdl.taps :=
  rfl
@[simp] theorem State.setLink_pdl_socketMeters (s : State) (i : Nat) (x : PedestalLink) :
    (s.setLink i x).pdl.socketMeters = s.pdl.socketMeters := rfl
@[simp] theorem State.setLink_pdl_tapMeters (s : State) (i : Nat) (x : PedestalLink) :
    (s.setLink i x).pdl.tapMeters = s.pdl.tapMeters := rfl
@[simp] theorem State.setLink_pdl_reports (s : State) (i : Nat) (x : PedestalLink) :
    (s.setLink i x).pdl.reports = s.pdl.reports := rfl
@[simp] theorem State.setLink_pdl_runs (s : State) (i : Nat) (x : PedestalLink) : (s.setLink i x).pdl.runs = s.pdl.runs :=
  rfl
@[simp] theorem State.setLink_pdl_acks (s : State) (i : Nat) (x : PedestalLink) : (s.setLink i x).pdl.acks = s.pdl.acks :=
  rfl
@[simp] theorem State.setLink_pdl_poll (s : State) (i : Nat) (x : PedestalLink) : (s.setLink i x).pdl.poll = s.pdl.poll :=
  rfl
@[simp] theorem State.setLink_pdl_replied (s : State) (i : Nat) (x : PedestalLink) :
    (s.setLink i x).pdl.replied = s.pdl.replied := rfl
@[simp] theorem State.setLink_far (s : State) (i : Nat) (x : PedestalLink) : (s.setLink i x).far = s.far := rfl
@[simp] theorem State.setLink_fdc (s : State) (i : Nat) (x : PedestalLink) : (s.setLink i x).fdc = s.fdc := rfl
@[simp] theorem State.setLink_gtc (s : State) (i : Nat) (x : PedestalLink) : (s.setLink i x).gtc = s.gtc := rfl
@[simp] theorem State.setLink_pending (s : State) (i : Nat) (x : PedestalLink) : (s.setLink i x).pending = s.pending := rfl

@[simp] theorem State.setSocketCfg_sup (s : State) (i : Nat) (x : SocketCfg) : (s.setSocketCfg i x).sup = s.sup := rfl
@[simp] theorem State.setSocketCfg_hlc (s : State) (i : Nat) (x : SocketCfg) : (s.setSocketCfg i x).hlc = s.hlc := rfl
@[simp] theorem State.setSocketCfg_clk (s : State) (i : Nat) (x : SocketCfg) : (s.setSocketCfg i x).clk = s.clk := rfl
@[simp] theorem State.setSocketCfg_bal (s : State) (i : Nat) (x : SocketCfg) : (s.setSocketCfg i x).bal = s.bal := rfl
@[simp] theorem State.setSocketCfg_acu (s : State) (i : Nat) (x : SocketCfg) : (s.setSocketCfg i x).acu = s.acu := rfl
@[simp] theorem State.setSocketCfg_pdl_pedestals (s : State) (i : Nat) (x : SocketCfg) :
    (s.setSocketCfg i x).pdl.pedestals = s.pdl.pedestals := rfl
@[simp] theorem State.setSocketCfg_pdl_links (s : State) (i : Nat) (x : SocketCfg) :
    (s.setSocketCfg i x).pdl.links = s.pdl.links := rfl
@[simp] theorem State.setSocketCfg_pdl_taps (s : State) (i : Nat) (x : SocketCfg) :
    (s.setSocketCfg i x).pdl.taps = s.pdl.taps := rfl
@[simp] theorem State.setSocketCfg_pdl_socketMeters (s : State) (i : Nat) (x : SocketCfg) :
    (s.setSocketCfg i x).pdl.socketMeters = s.pdl.socketMeters := rfl
@[simp] theorem State.setSocketCfg_pdl_tapMeters (s : State) (i : Nat) (x : SocketCfg) :
    (s.setSocketCfg i x).pdl.tapMeters = s.pdl.tapMeters := rfl
@[simp] theorem State.setSocketCfg_pdl_reports (s : State) (i : Nat) (x : SocketCfg) :
    (s.setSocketCfg i x).pdl.reports = s.pdl.reports := rfl
@[simp] theorem State.setSocketCfg_pdl_runs (s : State) (i : Nat) (x : SocketCfg) :
    (s.setSocketCfg i x).pdl.runs = s.pdl.runs := rfl
@[simp] theorem State.setSocketCfg_pdl_acks (s : State) (i : Nat) (x : SocketCfg) :
    (s.setSocketCfg i x).pdl.acks = s.pdl.acks := rfl
@[simp] theorem State.setSocketCfg_pdl_poll (s : State) (i : Nat) (x : SocketCfg) :
    (s.setSocketCfg i x).pdl.poll = s.pdl.poll := rfl
@[simp] theorem State.setSocketCfg_pdl_replied (s : State) (i : Nat) (x : SocketCfg) :
    (s.setSocketCfg i x).pdl.replied = s.pdl.replied := rfl
@[simp] theorem State.setSocketCfg_far (s : State) (i : Nat) (x : SocketCfg) : (s.setSocketCfg i x).far = s.far := rfl
@[simp] theorem State.setSocketCfg_fdc (s : State) (i : Nat) (x : SocketCfg) : (s.setSocketCfg i x).fdc = s.fdc := rfl
@[simp] theorem State.setSocketCfg_gtc (s : State) (i : Nat) (x : SocketCfg) : (s.setSocketCfg i x).gtc = s.gtc := rfl
@[simp] theorem State.setSocketCfg_pending (s : State) (i : Nat) (x : SocketCfg) : (s.setSocketCfg i x).pending = s.pending :=
  rfl

@[simp] theorem State.setTapCfg_sup (s : State) (i : Nat) (x : TapCfg) : (s.setTapCfg i x).sup = s.sup := rfl
@[simp] theorem State.setTapCfg_hlc (s : State) (i : Nat) (x : TapCfg) : (s.setTapCfg i x).hlc = s.hlc := rfl
@[simp] theorem State.setTapCfg_clk (s : State) (i : Nat) (x : TapCfg) : (s.setTapCfg i x).clk = s.clk := rfl
@[simp] theorem State.setTapCfg_bal (s : State) (i : Nat) (x : TapCfg) : (s.setTapCfg i x).bal = s.bal := rfl
@[simp] theorem State.setTapCfg_acu (s : State) (i : Nat) (x : TapCfg) : (s.setTapCfg i x).acu = s.acu := rfl
@[simp] theorem State.setTapCfg_pdl_pedestals (s : State) (i : Nat) (x : TapCfg) :
    (s.setTapCfg i x).pdl.pedestals = s.pdl.pedestals := rfl
@[simp] theorem State.setTapCfg_pdl_links (s : State) (i : Nat) (x : TapCfg) : (s.setTapCfg i x).pdl.links = s.pdl.links :=
  rfl
@[simp] theorem State.setTapCfg_pdl_sockets (s : State) (i : Nat) (x : TapCfg) :
    (s.setTapCfg i x).pdl.sockets = s.pdl.sockets := rfl
@[simp] theorem State.setTapCfg_pdl_socketMeters (s : State) (i : Nat) (x : TapCfg) :
    (s.setTapCfg i x).pdl.socketMeters = s.pdl.socketMeters := rfl
@[simp] theorem State.setTapCfg_pdl_tapMeters (s : State) (i : Nat) (x : TapCfg) :
    (s.setTapCfg i x).pdl.tapMeters = s.pdl.tapMeters := rfl
@[simp] theorem State.setTapCfg_pdl_reports (s : State) (i : Nat) (x : TapCfg) :
    (s.setTapCfg i x).pdl.reports = s.pdl.reports := rfl
@[simp] theorem State.setTapCfg_pdl_runs (s : State) (i : Nat) (x : TapCfg) : (s.setTapCfg i x).pdl.runs = s.pdl.runs := rfl
@[simp] theorem State.setTapCfg_pdl_acks (s : State) (i : Nat) (x : TapCfg) : (s.setTapCfg i x).pdl.acks = s.pdl.acks := rfl
@[simp] theorem State.setTapCfg_pdl_poll (s : State) (i : Nat) (x : TapCfg) : (s.setTapCfg i x).pdl.poll = s.pdl.poll := rfl
@[simp] theorem State.setTapCfg_pdl_replied (s : State) (i : Nat) (x : TapCfg) :
    (s.setTapCfg i x).pdl.replied = s.pdl.replied := rfl
@[simp] theorem State.setTapCfg_far (s : State) (i : Nat) (x : TapCfg) : (s.setTapCfg i x).far = s.far := rfl
@[simp] theorem State.setTapCfg_fdc (s : State) (i : Nat) (x : TapCfg) : (s.setTapCfg i x).fdc = s.fdc := rfl
@[simp] theorem State.setTapCfg_gtc (s : State) (i : Nat) (x : TapCfg) : (s.setTapCfg i x).gtc = s.gtc := rfl
@[simp] theorem State.setTapCfg_pending (s : State) (i : Nat) (x : TapCfg) : (s.setTapCfg i x).pending = s.pending := rfl

@[simp] theorem State.setSocketMeter_sup (s : State) (i : Nat) (x : Meter) : (s.setSocketMeter i x).sup = s.sup := rfl
@[simp] theorem State.setSocketMeter_hlc (s : State) (i : Nat) (x : Meter) : (s.setSocketMeter i x).hlc = s.hlc := rfl
@[simp] theorem State.setSocketMeter_clk (s : State) (i : Nat) (x : Meter) : (s.setSocketMeter i x).clk = s.clk := rfl
@[simp] theorem State.setSocketMeter_bal (s : State) (i : Nat) (x : Meter) : (s.setSocketMeter i x).bal = s.bal := rfl
@[simp] theorem State.setSocketMeter_acu (s : State) (i : Nat) (x : Meter) : (s.setSocketMeter i x).acu = s.acu := rfl
@[simp] theorem State.setSocketMeter_pdl_pedestals (s : State) (i : Nat) (x : Meter) :
    (s.setSocketMeter i x).pdl.pedestals = s.pdl.pedestals := rfl
@[simp] theorem State.setSocketMeter_pdl_links (s : State) (i : Nat) (x : Meter) :
    (s.setSocketMeter i x).pdl.links = s.pdl.links := rfl
@[simp] theorem State.setSocketMeter_pdl_sockets (s : State) (i : Nat) (x : Meter) :
    (s.setSocketMeter i x).pdl.sockets = s.pdl.sockets := rfl
@[simp] theorem State.setSocketMeter_pdl_taps (s : State) (i : Nat) (x : Meter) :
    (s.setSocketMeter i x).pdl.taps = s.pdl.taps := rfl
@[simp] theorem State.setSocketMeter_pdl_tapMeters (s : State) (i : Nat) (x : Meter) :
    (s.setSocketMeter i x).pdl.tapMeters = s.pdl.tapMeters := rfl
@[simp] theorem State.setSocketMeter_pdl_reports (s : State) (i : Nat) (x : Meter) :
    (s.setSocketMeter i x).pdl.reports = s.pdl.reports := rfl
@[simp] theorem State.setSocketMeter_pdl_runs (s : State) (i : Nat) (x : Meter) :
    (s.setSocketMeter i x).pdl.runs = s.pdl.runs := rfl
@[simp] theorem State.setSocketMeter_pdl_acks (s : State) (i : Nat) (x : Meter) :
    (s.setSocketMeter i x).pdl.acks = s.pdl.acks := rfl
@[simp] theorem State.setSocketMeter_pdl_poll (s : State) (i : Nat) (x : Meter) :
    (s.setSocketMeter i x).pdl.poll = s.pdl.poll := rfl
@[simp] theorem State.setSocketMeter_pdl_replied (s : State) (i : Nat) (x : Meter) :
    (s.setSocketMeter i x).pdl.replied = s.pdl.replied := rfl
@[simp] theorem State.setSocketMeter_far (s : State) (i : Nat) (x : Meter) : (s.setSocketMeter i x).far = s.far := rfl
@[simp] theorem State.setSocketMeter_fdc (s : State) (i : Nat) (x : Meter) : (s.setSocketMeter i x).fdc = s.fdc := rfl
@[simp] theorem State.setSocketMeter_gtc (s : State) (i : Nat) (x : Meter) : (s.setSocketMeter i x).gtc = s.gtc := rfl
@[simp] theorem State.setSocketMeter_pending (s : State) (i : Nat) (x : Meter) : (s.setSocketMeter i x).pending = s.pending :=
  rfl

@[simp] theorem State.setTapMeter_sup (s : State) (i : Nat) (x : Meter) : (s.setTapMeter i x).sup = s.sup := rfl
@[simp] theorem State.setTapMeter_hlc (s : State) (i : Nat) (x : Meter) : (s.setTapMeter i x).hlc = s.hlc := rfl
@[simp] theorem State.setTapMeter_clk (s : State) (i : Nat) (x : Meter) : (s.setTapMeter i x).clk = s.clk := rfl
@[simp] theorem State.setTapMeter_bal (s : State) (i : Nat) (x : Meter) : (s.setTapMeter i x).bal = s.bal := rfl
@[simp] theorem State.setTapMeter_acu (s : State) (i : Nat) (x : Meter) : (s.setTapMeter i x).acu = s.acu := rfl
@[simp] theorem State.setTapMeter_pdl_pedestals (s : State) (i : Nat) (x : Meter) :
    (s.setTapMeter i x).pdl.pedestals = s.pdl.pedestals := rfl
@[simp] theorem State.setTapMeter_pdl_links (s : State) (i : Nat) (x : Meter) : (s.setTapMeter i x).pdl.links = s.pdl.links :=
  rfl
@[simp] theorem State.setTapMeter_pdl_sockets (s : State) (i : Nat) (x : Meter) :
    (s.setTapMeter i x).pdl.sockets = s.pdl.sockets := rfl
@[simp] theorem State.setTapMeter_pdl_taps (s : State) (i : Nat) (x : Meter) : (s.setTapMeter i x).pdl.taps = s.pdl.taps :=
  rfl
@[simp] theorem State.setTapMeter_pdl_socketMeters (s : State) (i : Nat) (x : Meter) :
    (s.setTapMeter i x).pdl.socketMeters = s.pdl.socketMeters := rfl
@[simp] theorem State.setTapMeter_pdl_reports (s : State) (i : Nat) (x : Meter) :
    (s.setTapMeter i x).pdl.reports = s.pdl.reports := rfl
@[simp] theorem State.setTapMeter_pdl_runs (s : State) (i : Nat) (x : Meter) : (s.setTapMeter i x).pdl.runs = s.pdl.runs :=
  rfl
@[simp] theorem State.setTapMeter_pdl_acks (s : State) (i : Nat) (x : Meter) : (s.setTapMeter i x).pdl.acks = s.pdl.acks :=
  rfl
@[simp] theorem State.setTapMeter_pdl_poll (s : State) (i : Nat) (x : Meter) : (s.setTapMeter i x).pdl.poll = s.pdl.poll :=
  rfl
@[simp] theorem State.setTapMeter_pdl_replied (s : State) (i : Nat) (x : Meter) :
    (s.setTapMeter i x).pdl.replied = s.pdl.replied := rfl
@[simp] theorem State.setTapMeter_far (s : State) (i : Nat) (x : Meter) : (s.setTapMeter i x).far = s.far := rfl
@[simp] theorem State.setTapMeter_fdc (s : State) (i : Nat) (x : Meter) : (s.setTapMeter i x).fdc = s.fdc := rfl
@[simp] theorem State.setTapMeter_gtc (s : State) (i : Nat) (x : Meter) : (s.setTapMeter i x).gtc = s.gtc := rfl
@[simp] theorem State.setTapMeter_pending (s : State) (i : Nat) (x : Meter) : (s.setTapMeter i x).pending = s.pending := rfl

@[simp] theorem State.setReport_sup (s : State) (i : Nat) (x : Option SocketReport) : (s.setReport i x).sup = s.sup := rfl
@[simp] theorem State.setReport_hlc (s : State) (i : Nat) (x : Option SocketReport) : (s.setReport i x).hlc = s.hlc := rfl
@[simp] theorem State.setReport_clk (s : State) (i : Nat) (x : Option SocketReport) : (s.setReport i x).clk = s.clk := rfl
@[simp] theorem State.setReport_bal (s : State) (i : Nat) (x : Option SocketReport) : (s.setReport i x).bal = s.bal := rfl
@[simp] theorem State.setReport_acu (s : State) (i : Nat) (x : Option SocketReport) : (s.setReport i x).acu = s.acu := rfl
@[simp] theorem State.setReport_pdl_pedestals (s : State) (i : Nat) (x : Option SocketReport) :
    (s.setReport i x).pdl.pedestals = s.pdl.pedestals := rfl
@[simp] theorem State.setReport_pdl_links (s : State) (i : Nat) (x : Option SocketReport) :
    (s.setReport i x).pdl.links = s.pdl.links := rfl
@[simp] theorem State.setReport_pdl_sockets (s : State) (i : Nat) (x : Option SocketReport) :
    (s.setReport i x).pdl.sockets = s.pdl.sockets := rfl
@[simp] theorem State.setReport_pdl_taps (s : State) (i : Nat) (x : Option SocketReport) :
    (s.setReport i x).pdl.taps = s.pdl.taps := rfl
@[simp] theorem State.setReport_pdl_socketMeters (s : State) (i : Nat) (x : Option SocketReport) :
    (s.setReport i x).pdl.socketMeters = s.pdl.socketMeters := rfl
@[simp] theorem State.setReport_pdl_tapMeters (s : State) (i : Nat) (x : Option SocketReport) :
    (s.setReport i x).pdl.tapMeters = s.pdl.tapMeters := rfl
@[simp] theorem State.setReport_pdl_runs (s : State) (i : Nat) (x : Option SocketReport) :
    (s.setReport i x).pdl.runs = s.pdl.runs := rfl
@[simp] theorem State.setReport_pdl_acks (s : State) (i : Nat) (x : Option SocketReport) :
    (s.setReport i x).pdl.acks = s.pdl.acks := rfl
@[simp] theorem State.setReport_pdl_poll (s : State) (i : Nat) (x : Option SocketReport) :
    (s.setReport i x).pdl.poll = s.pdl.poll := rfl
@[simp] theorem State.setReport_pdl_replied (s : State) (i : Nat) (x : Option SocketReport) :
    (s.setReport i x).pdl.replied = s.pdl.replied := rfl
@[simp] theorem State.setReport_far (s : State) (i : Nat) (x : Option SocketReport) : (s.setReport i x).far = s.far := rfl
@[simp] theorem State.setReport_fdc (s : State) (i : Nat) (x : Option SocketReport) : (s.setReport i x).fdc = s.fdc := rfl
@[simp] theorem State.setReport_gtc (s : State) (i : Nat) (x : Option SocketReport) : (s.setReport i x).gtc = s.gtc := rfl
@[simp] theorem State.setReport_pending (s : State) (i : Nat) (x : Option SocketReport) :
    (s.setReport i x).pending = s.pending := rfl

@[simp] theorem State.setRun_sup (s : State) (i : Nat) (x : Option TapRun) : (s.setRun i x).sup = s.sup := rfl
@[simp] theorem State.setRun_hlc (s : State) (i : Nat) (x : Option TapRun) : (s.setRun i x).hlc = s.hlc := rfl
@[simp] theorem State.setRun_clk (s : State) (i : Nat) (x : Option TapRun) : (s.setRun i x).clk = s.clk := rfl
@[simp] theorem State.setRun_bal (s : State) (i : Nat) (x : Option TapRun) : (s.setRun i x).bal = s.bal := rfl
@[simp] theorem State.setRun_acu (s : State) (i : Nat) (x : Option TapRun) : (s.setRun i x).acu = s.acu := rfl
@[simp] theorem State.setRun_pdl_pedestals (s : State) (i : Nat) (x : Option TapRun) :
    (s.setRun i x).pdl.pedestals = s.pdl.pedestals := rfl
@[simp] theorem State.setRun_pdl_links (s : State) (i : Nat) (x : Option TapRun) : (s.setRun i x).pdl.links = s.pdl.links :=
  rfl
@[simp] theorem State.setRun_pdl_sockets (s : State) (i : Nat) (x : Option TapRun) :
    (s.setRun i x).pdl.sockets = s.pdl.sockets := rfl
@[simp] theorem State.setRun_pdl_taps (s : State) (i : Nat) (x : Option TapRun) : (s.setRun i x).pdl.taps = s.pdl.taps := rfl
@[simp] theorem State.setRun_pdl_socketMeters (s : State) (i : Nat) (x : Option TapRun) :
    (s.setRun i x).pdl.socketMeters = s.pdl.socketMeters := rfl
@[simp] theorem State.setRun_pdl_tapMeters (s : State) (i : Nat) (x : Option TapRun) :
    (s.setRun i x).pdl.tapMeters = s.pdl.tapMeters := rfl
@[simp] theorem State.setRun_pdl_reports (s : State) (i : Nat) (x : Option TapRun) :
    (s.setRun i x).pdl.reports = s.pdl.reports := rfl
@[simp] theorem State.setRun_pdl_acks (s : State) (i : Nat) (x : Option TapRun) : (s.setRun i x).pdl.acks = s.pdl.acks := rfl
@[simp] theorem State.setRun_pdl_poll (s : State) (i : Nat) (x : Option TapRun) : (s.setRun i x).pdl.poll = s.pdl.poll := rfl
@[simp] theorem State.setRun_pdl_replied (s : State) (i : Nat) (x : Option TapRun) :
    (s.setRun i x).pdl.replied = s.pdl.replied := rfl
@[simp] theorem State.setRun_far (s : State) (i : Nat) (x : Option TapRun) : (s.setRun i x).far = s.far := rfl
@[simp] theorem State.setRun_fdc (s : State) (i : Nat) (x : Option TapRun) : (s.setRun i x).fdc = s.fdc := rfl
@[simp] theorem State.setRun_gtc (s : State) (i : Nat) (x : Option TapRun) : (s.setRun i x).gtc = s.gtc := rfl
@[simp] theorem State.setRun_pending (s : State) (i : Nat) (x : Option TapRun) : (s.setRun i x).pending = s.pending := rfl

@[simp] theorem State.setAck_sup (s : State) (i : Nat) (x : Bool) : (s.setAck i x).sup = s.sup := rfl
@[simp] theorem State.setAck_hlc (s : State) (i : Nat) (x : Bool) : (s.setAck i x).hlc = s.hlc := rfl
@[simp] theorem State.setAck_clk (s : State) (i : Nat) (x : Bool) : (s.setAck i x).clk = s.clk := rfl
@[simp] theorem State.setAck_bal (s : State) (i : Nat) (x : Bool) : (s.setAck i x).bal = s.bal := rfl
@[simp] theorem State.setAck_acu (s : State) (i : Nat) (x : Bool) : (s.setAck i x).acu = s.acu := rfl
@[simp] theorem State.setAck_pdl_pedestals (s : State) (i : Nat) (x : Bool) : (s.setAck i x).pdl.pedestals = s.pdl.pedestals :=
  rfl
@[simp] theorem State.setAck_pdl_links (s : State) (i : Nat) (x : Bool) : (s.setAck i x).pdl.links = s.pdl.links := rfl
@[simp] theorem State.setAck_pdl_sockets (s : State) (i : Nat) (x : Bool) : (s.setAck i x).pdl.sockets = s.pdl.sockets := rfl
@[simp] theorem State.setAck_pdl_taps (s : State) (i : Nat) (x : Bool) : (s.setAck i x).pdl.taps = s.pdl.taps := rfl
@[simp] theorem State.setAck_pdl_socketMeters (s : State) (i : Nat) (x : Bool) :
    (s.setAck i x).pdl.socketMeters = s.pdl.socketMeters := rfl
@[simp] theorem State.setAck_pdl_tapMeters (s : State) (i : Nat) (x : Bool) : (s.setAck i x).pdl.tapMeters = s.pdl.tapMeters :=
  rfl
@[simp] theorem State.setAck_pdl_reports (s : State) (i : Nat) (x : Bool) : (s.setAck i x).pdl.reports = s.pdl.reports := rfl
@[simp] theorem State.setAck_pdl_runs (s : State) (i : Nat) (x : Bool) : (s.setAck i x).pdl.runs = s.pdl.runs := rfl
@[simp] theorem State.setAck_pdl_poll (s : State) (i : Nat) (x : Bool) : (s.setAck i x).pdl.poll = s.pdl.poll := rfl
@[simp] theorem State.setAck_pdl_replied (s : State) (i : Nat) (x : Bool) : (s.setAck i x).pdl.replied = s.pdl.replied := rfl
@[simp] theorem State.setAck_far (s : State) (i : Nat) (x : Bool) : (s.setAck i x).far = s.far := rfl
@[simp] theorem State.setAck_fdc (s : State) (i : Nat) (x : Bool) : (s.setAck i x).fdc = s.fdc := rfl
@[simp] theorem State.setAck_gtc (s : State) (i : Nat) (x : Bool) : (s.setAck i x).gtc = s.gtc := rfl
@[simp] theorem State.setAck_pending (s : State) (i : Nat) (x : Bool) : (s.setAck i x).pending = s.pending := rfl

@[simp] theorem State.setPoll_sup (s : State) (p : Option Poll) : (s.setPoll p).sup = s.sup := rfl
@[simp] theorem State.setPoll_hlc (s : State) (p : Option Poll) : (s.setPoll p).hlc = s.hlc := rfl
@[simp] theorem State.setPoll_clk (s : State) (p : Option Poll) : (s.setPoll p).clk = s.clk := rfl
@[simp] theorem State.setPoll_bal (s : State) (p : Option Poll) : (s.setPoll p).bal = s.bal := rfl
@[simp] theorem State.setPoll_acu (s : State) (p : Option Poll) : (s.setPoll p).acu = s.acu := rfl
@[simp] theorem State.setPoll_pdl_pedestals (s : State) (p : Option Poll) : (s.setPoll p).pdl.pedestals = s.pdl.pedestals :=
  rfl
@[simp] theorem State.setPoll_pdl_links (s : State) (p : Option Poll) : (s.setPoll p).pdl.links = s.pdl.links := rfl
@[simp] theorem State.setPoll_pdl_sockets (s : State) (p : Option Poll) : (s.setPoll p).pdl.sockets = s.pdl.sockets := rfl
@[simp] theorem State.setPoll_pdl_taps (s : State) (p : Option Poll) : (s.setPoll p).pdl.taps = s.pdl.taps := rfl
@[simp] theorem State.setPoll_pdl_socketMeters (s : State) (p : Option Poll) :
    (s.setPoll p).pdl.socketMeters = s.pdl.socketMeters := rfl
@[simp] theorem State.setPoll_pdl_tapMeters (s : State) (p : Option Poll) : (s.setPoll p).pdl.tapMeters = s.pdl.tapMeters :=
  rfl
@[simp] theorem State.setPoll_pdl_reports (s : State) (p : Option Poll) : (s.setPoll p).pdl.reports = s.pdl.reports := rfl
@[simp] theorem State.setPoll_pdl_runs (s : State) (p : Option Poll) : (s.setPoll p).pdl.runs = s.pdl.runs := rfl
@[simp] theorem State.setPoll_pdl_acks (s : State) (p : Option Poll) : (s.setPoll p).pdl.acks = s.pdl.acks := rfl
@[simp] theorem State.setPoll_far (s : State) (p : Option Poll) : (s.setPoll p).far = s.far := rfl
@[simp] theorem State.setPoll_fdc (s : State) (p : Option Poll) : (s.setPoll p).fdc = s.fdc := rfl
@[simp] theorem State.setPoll_gtc (s : State) (p : Option Poll) : (s.setPoll p).gtc = s.gtc := rfl
@[simp] theorem State.setPoll_pending (s : State) (p : Option Poll) : (s.setPoll p).pending = s.pending := rfl

@[simp] theorem State.setSocket_sup (s : State) (i : Nat) (x : Socket) : (s.setSocket i x).sup = s.sup := rfl
@[simp] theorem State.setSocket_hlc (s : State) (i : Nat) (x : Socket) : (s.setSocket i x).hlc = s.hlc := rfl
@[simp] theorem State.setSocket_clk (s : State) (i : Nat) (x : Socket) : (s.setSocket i x).clk = s.clk := rfl
@[simp] theorem State.setSocket_bal (s : State) (i : Nat) (x : Socket) : (s.setSocket i x).bal = s.bal := rfl
@[simp] theorem State.setSocket_acu (s : State) (i : Nat) (x : Socket) : (s.setSocket i x).acu = s.acu := rfl
@[simp] theorem State.setSocket_pdl (s : State) (i : Nat) (x : Socket) : (s.setSocket i x).pdl = s.pdl := rfl
@[simp] theorem State.setSocket_far_cfg (s : State) (i : Nat) (x : Socket) : (s.setSocket i x).far.cfg = s.far.cfg := rfl
@[simp] theorem State.setSocket_far_feeders (s : State) (i : Nat) (x : Socket) :
    (s.setSocket i x).far.feeders = s.far.feeders := rfl
@[simp] theorem State.setSocket_far_counter (s : State) (i : Nat) (x : Socket) :
    (s.setSocket i x).far.counter = s.far.counter := rfl
@[simp] theorem State.setSocket_fdc (s : State) (i : Nat) (x : Socket) : (s.setSocket i x).fdc = s.fdc := rfl
@[simp] theorem State.setSocket_gtc (s : State) (i : Nat) (x : Socket) : (s.setSocket i x).gtc = s.gtc := rfl
@[simp] theorem State.setSocket_pending (s : State) (i : Nat) (x : Socket) : (s.setSocket i x).pending = s.pending := rfl

@[simp] theorem State.setFeederCfg_sup (s : State) (i : Nat) (x : FeederCfg) : (s.setFeederCfg i x).sup = s.sup := rfl
@[simp] theorem State.setFeederCfg_hlc (s : State) (i : Nat) (x : FeederCfg) : (s.setFeederCfg i x).hlc = s.hlc := rfl
@[simp] theorem State.setFeederCfg_clk (s : State) (i : Nat) (x : FeederCfg) : (s.setFeederCfg i x).clk = s.clk := rfl
@[simp] theorem State.setFeederCfg_bal (s : State) (i : Nat) (x : FeederCfg) : (s.setFeederCfg i x).bal = s.bal := rfl
@[simp] theorem State.setFeederCfg_acu (s : State) (i : Nat) (x : FeederCfg) : (s.setFeederCfg i x).acu = s.acu := rfl
@[simp] theorem State.setFeederCfg_pdl (s : State) (i : Nat) (x : FeederCfg) : (s.setFeederCfg i x).pdl = s.pdl := rfl
@[simp] theorem State.setFeederCfg_far_sockets (s : State) (i : Nat) (x : FeederCfg) :
    (s.setFeederCfg i x).far.sockets = s.far.sockets := rfl
@[simp] theorem State.setFeederCfg_far_feeders (s : State) (i : Nat) (x : FeederCfg) :
    (s.setFeederCfg i x).far.feeders = s.far.feeders := rfl
@[simp] theorem State.setFeederCfg_far_counter (s : State) (i : Nat) (x : FeederCfg) :
    (s.setFeederCfg i x).far.counter = s.far.counter := rfl
@[simp] theorem State.setFeederCfg_fdc (s : State) (i : Nat) (x : FeederCfg) : (s.setFeederCfg i x).fdc = s.fdc := rfl
@[simp] theorem State.setFeederCfg_gtc (s : State) (i : Nat) (x : FeederCfg) : (s.setFeederCfg i x).gtc = s.gtc := rfl
@[simp] theorem State.setFeederCfg_pending (s : State) (i : Nat) (x : FeederCfg) : (s.setFeederCfg i x).pending = s.pending :=
  rfl

@[simp] theorem State.setFeeder_sup (s : State) (i : Nat) (x : Feeder) : (s.setFeeder i x).sup = s.sup := rfl
@[simp] theorem State.setFeeder_hlc (s : State) (i : Nat) (x : Feeder) : (s.setFeeder i x).hlc = s.hlc := rfl
@[simp] theorem State.setFeeder_clk (s : State) (i : Nat) (x : Feeder) : (s.setFeeder i x).clk = s.clk := rfl
@[simp] theorem State.setFeeder_bal (s : State) (i : Nat) (x : Feeder) : (s.setFeeder i x).bal = s.bal := rfl
@[simp] theorem State.setFeeder_acu (s : State) (i : Nat) (x : Feeder) : (s.setFeeder i x).acu = s.acu := rfl
@[simp] theorem State.setFeeder_pdl (s : State) (i : Nat) (x : Feeder) : (s.setFeeder i x).pdl = s.pdl := rfl
@[simp] theorem State.setFeeder_far_sockets (s : State) (i : Nat) (x : Feeder) :
    (s.setFeeder i x).far.sockets = s.far.sockets := rfl
@[simp] theorem State.setFeeder_far_cfg (s : State) (i : Nat) (x : Feeder) : (s.setFeeder i x).far.cfg = s.far.cfg := rfl
@[simp] theorem State.setFeeder_far_counter (s : State) (i : Nat) (x : Feeder) :
    (s.setFeeder i x).far.counter = s.far.counter := rfl
@[simp] theorem State.setFeeder_fdc (s : State) (i : Nat) (x : Feeder) : (s.setFeeder i x).fdc = s.fdc := rfl
@[simp] theorem State.setFeeder_gtc (s : State) (i : Nat) (x : Feeder) : (s.setFeeder i x).gtc = s.gtc := rfl
@[simp] theorem State.setFeeder_pending (s : State) (i : Nat) (x : Feeder) : (s.setFeeder i x).pending = s.pending := rfl

@[simp] theorem State.setHoseCfg_sup (s : State) (i : Nat) (x : HoseCfg) : (s.setHoseCfg i x).sup = s.sup := rfl
@[simp] theorem State.setHoseCfg_hlc (s : State) (i : Nat) (x : HoseCfg) : (s.setHoseCfg i x).hlc = s.hlc := rfl
@[simp] theorem State.setHoseCfg_clk (s : State) (i : Nat) (x : HoseCfg) : (s.setHoseCfg i x).clk = s.clk := rfl
@[simp] theorem State.setHoseCfg_bal (s : State) (i : Nat) (x : HoseCfg) : (s.setHoseCfg i x).bal = s.bal := rfl
@[simp] theorem State.setHoseCfg_acu (s : State) (i : Nat) (x : HoseCfg) : (s.setHoseCfg i x).acu = s.acu := rfl
@[simp] theorem State.setHoseCfg_pdl (s : State) (i : Nat) (x : HoseCfg) : (s.setHoseCfg i x).pdl = s.pdl := rfl
@[simp] theorem State.setHoseCfg_far (s : State) (i : Nat) (x : HoseCfg) : (s.setHoseCfg i x).far = s.far := rfl
@[simp] theorem State.setHoseCfg_fdc_hoses (s : State) (i : Nat) (x : HoseCfg) : (s.setHoseCfg i x).fdc.hoses = s.fdc.hoses :=
  rfl
@[simp] theorem State.setHoseCfg_fdc_prices (s : State) (i : Nat) (x : HoseCfg) :
    (s.setHoseCfg i x).fdc.prices = s.fdc.prices := rfl
@[simp] theorem State.setHoseCfg_fdc_sales (s : State) (i : Nat) (x : HoseCfg) : (s.setHoseCfg i x).fdc.sales = s.fdc.sales :=
  rfl
@[simp] theorem State.setHoseCfg_fdc_nextSale (s : State) (i : Nat) (x : HoseCfg) :
    (s.setHoseCfg i x).fdc.nextSale = s.fdc.nextSale := rfl
@[simp] theorem State.setHoseCfg_fdc_cap (s : State) (i : Nat) (x : HoseCfg) : (s.setHoseCfg i x).fdc.cap = s.fdc.cap := rfl
@[simp] theorem State.setHoseCfg_fdc_ready (s : State) (i : Nat) (x : HoseCfg) : (s.setHoseCfg i x).fdc.ready = s.fdc.ready :=
  rfl
@[simp] theorem State.setHoseCfg_gtc (s : State) (i : Nat) (x : HoseCfg) : (s.setHoseCfg i x).gtc = s.gtc := rfl
@[simp] theorem State.setHoseCfg_pending (s : State) (i : Nat) (x : HoseCfg) : (s.setHoseCfg i x).pending = s.pending := rfl

@[simp] theorem State.setHose_sup (s : State) (i : Nat) (x : Hose) : (s.setHose i x).sup = s.sup := rfl
@[simp] theorem State.setHose_hlc (s : State) (i : Nat) (x : Hose) : (s.setHose i x).hlc = s.hlc := rfl
@[simp] theorem State.setHose_clk (s : State) (i : Nat) (x : Hose) : (s.setHose i x).clk = s.clk := rfl
@[simp] theorem State.setHose_bal (s : State) (i : Nat) (x : Hose) : (s.setHose i x).bal = s.bal := rfl
@[simp] theorem State.setHose_acu (s : State) (i : Nat) (x : Hose) : (s.setHose i x).acu = s.acu := rfl
@[simp] theorem State.setHose_pdl (s : State) (i : Nat) (x : Hose) : (s.setHose i x).pdl = s.pdl := rfl
@[simp] theorem State.setHose_far (s : State) (i : Nat) (x : Hose) : (s.setHose i x).far = s.far := rfl
@[simp] theorem State.setHose_fdc_cfg (s : State) (i : Nat) (x : Hose) : (s.setHose i x).fdc.cfg = s.fdc.cfg := rfl
@[simp] theorem State.setHose_fdc_prices (s : State) (i : Nat) (x : Hose) : (s.setHose i x).fdc.prices = s.fdc.prices := rfl
@[simp] theorem State.setHose_fdc_sales (s : State) (i : Nat) (x : Hose) : (s.setHose i x).fdc.sales = s.fdc.sales := rfl
@[simp] theorem State.setHose_fdc_nextSale (s : State) (i : Nat) (x : Hose) : (s.setHose i x).fdc.nextSale = s.fdc.nextSale :=
  rfl
@[simp] theorem State.setHose_fdc_cap (s : State) (i : Nat) (x : Hose) : (s.setHose i x).fdc.cap = s.fdc.cap := rfl
@[simp] theorem State.setHose_fdc_ready (s : State) (i : Nat) (x : Hose) : (s.setHose i x).fdc.ready = s.fdc.ready := rfl
@[simp] theorem State.setHose_gtc (s : State) (i : Nat) (x : Hose) : (s.setHose i x).gtc = s.gtc := rfl
@[simp] theorem State.setHose_pending (s : State) (i : Nat) (x : Hose) : (s.setHose i x).pending = s.pending := rfl

@[simp] theorem State.setPrice_sup (s : State) (grade : Nat) (x : Nat) : (s.setPrice grade x).sup = s.sup := rfl
@[simp] theorem State.setPrice_hlc (s : State) (grade : Nat) (x : Nat) : (s.setPrice grade x).hlc = s.hlc := rfl
@[simp] theorem State.setPrice_clk (s : State) (grade : Nat) (x : Nat) : (s.setPrice grade x).clk = s.clk := rfl
@[simp] theorem State.setPrice_bal (s : State) (grade : Nat) (x : Nat) : (s.setPrice grade x).bal = s.bal := rfl
@[simp] theorem State.setPrice_acu (s : State) (grade : Nat) (x : Nat) : (s.setPrice grade x).acu = s.acu := rfl
@[simp] theorem State.setPrice_pdl (s : State) (grade : Nat) (x : Nat) : (s.setPrice grade x).pdl = s.pdl := rfl
@[simp] theorem State.setPrice_far (s : State) (grade : Nat) (x : Nat) : (s.setPrice grade x).far = s.far := rfl
@[simp] theorem State.setPrice_fdc_cfg (s : State) (grade : Nat) (x : Nat) : (s.setPrice grade x).fdc.cfg = s.fdc.cfg := rfl
@[simp] theorem State.setPrice_fdc_hoses (s : State) (grade : Nat) (x : Nat) : (s.setPrice grade x).fdc.hoses = s.fdc.hoses :=
  rfl
@[simp] theorem State.setPrice_fdc_sales (s : State) (grade : Nat) (x : Nat) : (s.setPrice grade x).fdc.sales = s.fdc.sales :=
  rfl
@[simp] theorem State.setPrice_fdc_nextSale (s : State) (grade : Nat) (x : Nat) :
    (s.setPrice grade x).fdc.nextSale = s.fdc.nextSale := rfl
@[simp] theorem State.setPrice_fdc_cap (s : State) (grade : Nat) (x : Nat) : (s.setPrice grade x).fdc.cap = s.fdc.cap := rfl
@[simp] theorem State.setPrice_fdc_ready (s : State) (grade : Nat) (x : Nat) : (s.setPrice grade x).fdc.ready = s.fdc.ready :=
  rfl
@[simp] theorem State.setPrice_gtc (s : State) (grade : Nat) (x : Nat) : (s.setPrice grade x).gtc = s.gtc := rfl
@[simp] theorem State.setPrice_pending (s : State) (grade : Nat) (x : Nat) : (s.setPrice grade x).pending = s.pending := rfl

@[simp] theorem State.setSales_sup (s : State) (x : List Sale) : (s.setSales x).sup = s.sup := rfl
@[simp] theorem State.setSales_hlc (s : State) (x : List Sale) : (s.setSales x).hlc = s.hlc := rfl
@[simp] theorem State.setSales_clk (s : State) (x : List Sale) : (s.setSales x).clk = s.clk := rfl
@[simp] theorem State.setSales_bal (s : State) (x : List Sale) : (s.setSales x).bal = s.bal := rfl
@[simp] theorem State.setSales_acu (s : State) (x : List Sale) : (s.setSales x).acu = s.acu := rfl
@[simp] theorem State.setSales_pdl (s : State) (x : List Sale) : (s.setSales x).pdl = s.pdl := rfl
@[simp] theorem State.setSales_far (s : State) (x : List Sale) : (s.setSales x).far = s.far := rfl
@[simp] theorem State.setSales_fdc_cfg (s : State) (x : List Sale) : (s.setSales x).fdc.cfg = s.fdc.cfg := rfl
@[simp] theorem State.setSales_fdc_hoses (s : State) (x : List Sale) : (s.setSales x).fdc.hoses = s.fdc.hoses := rfl
@[simp] theorem State.setSales_fdc_prices (s : State) (x : List Sale) : (s.setSales x).fdc.prices = s.fdc.prices := rfl
@[simp] theorem State.setSales_fdc_nextSale (s : State) (x : List Sale) : (s.setSales x).fdc.nextSale = s.fdc.nextSale := rfl
@[simp] theorem State.setSales_fdc_cap (s : State) (x : List Sale) : (s.setSales x).fdc.cap = s.fdc.cap := rfl
@[simp] theorem State.setSales_fdc_ready (s : State) (x : List Sale) : (s.setSales x).fdc.ready = s.fdc.ready := rfl
@[simp] theorem State.setSales_gtc (s : State) (x : List Sale) : (s.setSales x).gtc = s.gtc := rfl
@[simp] theorem State.setSales_pending (s : State) (x : List Sale) : (s.setSales x).pending = s.pending := rfl

@[simp] theorem State.setCred_sup (s : State) (i : Nat) (x : Cred) : (s.setCred i x).sup = s.sup := rfl
@[simp] theorem State.setCred_hlc (s : State) (i : Nat) (x : Cred) : (s.setCred i x).hlc = s.hlc := rfl
@[simp] theorem State.setCred_clk (s : State) (i : Nat) (x : Cred) : (s.setCred i x).clk = s.clk := rfl
@[simp] theorem State.setCred_bal (s : State) (i : Nat) (x : Cred) : (s.setCred i x).bal = s.bal := rfl
@[simp] theorem State.setCred_acu (s : State) (i : Nat) (x : Cred) : (s.setCred i x).acu = s.acu := rfl
@[simp] theorem State.setCred_pdl (s : State) (i : Nat) (x : Cred) : (s.setCred i x).pdl = s.pdl := rfl
@[simp] theorem State.setCred_far (s : State) (i : Nat) (x : Cred) : (s.setCred i x).far = s.far := rfl
@[simp] theorem State.setCred_fdc (s : State) (i : Nat) (x : Cred) : (s.setCred i x).fdc = s.fdc := rfl
@[simp] theorem State.setCred_gtc_cfg (s : State) (i : Nat) (x : Cred) : (s.setCred i x).gtc.cfg = s.gtc.cfg := rfl
@[simp] theorem State.setCred_gtc_gates (s : State) (i : Nat) (x : Cred) : (s.setCred i x).gtc.gates = s.gtc.gates := rfl
@[simp] theorem State.setCred_gtc_terminals (s : State) (i : Nat) (x : Cred) :
    (s.setCred i x).gtc.terminals = s.gtc.terminals := rfl
@[simp] theorem State.setCred_gtc_fuel (s : State) (i : Nat) (x : Cred) : (s.setCred i x).gtc.fuel = s.gtc.fuel := rfl
@[simp] theorem State.setCred_gtc_keyEvents (s : State) (i : Nat) (x : Cred) :
    (s.setCred i x).gtc.keyEvents = s.gtc.keyEvents := rfl
@[simp] theorem State.setCred_pending (s : State) (i : Nat) (x : Cred) : (s.setCred i x).pending = s.pending := rfl

@[simp] theorem State.setGateCfg_sup (s : State) (i : Nat) (x : GateCfg) : (s.setGateCfg i x).sup = s.sup := rfl
@[simp] theorem State.setGateCfg_hlc (s : State) (i : Nat) (x : GateCfg) : (s.setGateCfg i x).hlc = s.hlc := rfl
@[simp] theorem State.setGateCfg_clk (s : State) (i : Nat) (x : GateCfg) : (s.setGateCfg i x).clk = s.clk := rfl
@[simp] theorem State.setGateCfg_bal (s : State) (i : Nat) (x : GateCfg) : (s.setGateCfg i x).bal = s.bal := rfl
@[simp] theorem State.setGateCfg_acu (s : State) (i : Nat) (x : GateCfg) : (s.setGateCfg i x).acu = s.acu := rfl
@[simp] theorem State.setGateCfg_pdl (s : State) (i : Nat) (x : GateCfg) : (s.setGateCfg i x).pdl = s.pdl := rfl
@[simp] theorem State.setGateCfg_far (s : State) (i : Nat) (x : GateCfg) : (s.setGateCfg i x).far = s.far := rfl
@[simp] theorem State.setGateCfg_fdc (s : State) (i : Nat) (x : GateCfg) : (s.setGateCfg i x).fdc = s.fdc := rfl
@[simp] theorem State.setGateCfg_gtc_creds (s : State) (i : Nat) (x : GateCfg) : (s.setGateCfg i x).gtc.creds = s.gtc.creds :=
  rfl
@[simp] theorem State.setGateCfg_gtc_gates (s : State) (i : Nat) (x : GateCfg) : (s.setGateCfg i x).gtc.gates = s.gtc.gates :=
  rfl
@[simp] theorem State.setGateCfg_gtc_terminals (s : State) (i : Nat) (x : GateCfg) :
    (s.setGateCfg i x).gtc.terminals = s.gtc.terminals := rfl
@[simp] theorem State.setGateCfg_gtc_fuel (s : State) (i : Nat) (x : GateCfg) : (s.setGateCfg i x).gtc.fuel = s.gtc.fuel :=
  rfl
@[simp] theorem State.setGateCfg_gtc_keyEvents (s : State) (i : Nat) (x : GateCfg) :
    (s.setGateCfg i x).gtc.keyEvents = s.gtc.keyEvents := rfl
@[simp] theorem State.setGateCfg_pending (s : State) (i : Nat) (x : GateCfg) : (s.setGateCfg i x).pending = s.pending := rfl

@[simp] theorem State.setGate_sup (s : State) (i : Nat) (x : Gate) : (s.setGate i x).sup = s.sup := rfl
@[simp] theorem State.setGate_hlc (s : State) (i : Nat) (x : Gate) : (s.setGate i x).hlc = s.hlc := rfl
@[simp] theorem State.setGate_clk (s : State) (i : Nat) (x : Gate) : (s.setGate i x).clk = s.clk := rfl
@[simp] theorem State.setGate_bal (s : State) (i : Nat) (x : Gate) : (s.setGate i x).bal = s.bal := rfl
@[simp] theorem State.setGate_acu (s : State) (i : Nat) (x : Gate) : (s.setGate i x).acu = s.acu := rfl
@[simp] theorem State.setGate_pdl (s : State) (i : Nat) (x : Gate) : (s.setGate i x).pdl = s.pdl := rfl
@[simp] theorem State.setGate_far (s : State) (i : Nat) (x : Gate) : (s.setGate i x).far = s.far := rfl
@[simp] theorem State.setGate_fdc (s : State) (i : Nat) (x : Gate) : (s.setGate i x).fdc = s.fdc := rfl
@[simp] theorem State.setGate_gtc_creds (s : State) (i : Nat) (x : Gate) : (s.setGate i x).gtc.creds = s.gtc.creds := rfl
@[simp] theorem State.setGate_gtc_cfg (s : State) (i : Nat) (x : Gate) : (s.setGate i x).gtc.cfg = s.gtc.cfg := rfl
@[simp] theorem State.setGate_gtc_terminals (s : State) (i : Nat) (x : Gate) :
    (s.setGate i x).gtc.terminals = s.gtc.terminals := rfl
@[simp] theorem State.setGate_gtc_fuel (s : State) (i : Nat) (x : Gate) : (s.setGate i x).gtc.fuel = s.gtc.fuel := rfl
@[simp] theorem State.setGate_gtc_keyEvents (s : State) (i : Nat) (x : Gate) :
    (s.setGate i x).gtc.keyEvents = s.gtc.keyEvents := rfl
@[simp] theorem State.setGate_pending (s : State) (i : Nat) (x : Gate) : (s.setGate i x).pending = s.pending := rfl

@[simp] theorem State.setTerminal_sup (s : State) (i : Nat) (x : Terminal) : (s.setTerminal i x).sup = s.sup := rfl
@[simp] theorem State.setTerminal_hlc (s : State) (i : Nat) (x : Terminal) : (s.setTerminal i x).hlc = s.hlc := rfl
@[simp] theorem State.setTerminal_clk (s : State) (i : Nat) (x : Terminal) : (s.setTerminal i x).clk = s.clk := rfl
@[simp] theorem State.setTerminal_bal (s : State) (i : Nat) (x : Terminal) : (s.setTerminal i x).bal = s.bal := rfl
@[simp] theorem State.setTerminal_acu (s : State) (i : Nat) (x : Terminal) : (s.setTerminal i x).acu = s.acu := rfl
@[simp] theorem State.setTerminal_pdl (s : State) (i : Nat) (x : Terminal) : (s.setTerminal i x).pdl = s.pdl := rfl
@[simp] theorem State.setTerminal_far (s : State) (i : Nat) (x : Terminal) : (s.setTerminal i x).far = s.far := rfl
@[simp] theorem State.setTerminal_fdc (s : State) (i : Nat) (x : Terminal) : (s.setTerminal i x).fdc = s.fdc := rfl
@[simp] theorem State.setTerminal_gtc_creds (s : State) (i : Nat) (x : Terminal) :
    (s.setTerminal i x).gtc.creds = s.gtc.creds := rfl
@[simp] theorem State.setTerminal_gtc_cfg (s : State) (i : Nat) (x : Terminal) : (s.setTerminal i x).gtc.cfg = s.gtc.cfg :=
  rfl
@[simp] theorem State.setTerminal_gtc_gates (s : State) (i : Nat) (x : Terminal) :
    (s.setTerminal i x).gtc.gates = s.gtc.gates := rfl
@[simp] theorem State.setTerminal_gtc_fuel (s : State) (i : Nat) (x : Terminal) : (s.setTerminal i x).gtc.fuel = s.gtc.fuel :=
  rfl
@[simp] theorem State.setTerminal_gtc_keyEvents (s : State) (i : Nat) (x : Terminal) :
    (s.setTerminal i x).gtc.keyEvents = s.gtc.keyEvents := rfl
@[simp] theorem State.setTerminal_pending (s : State) (i : Nat) (x : Terminal) : (s.setTerminal i x).pending = s.pending :=
  rfl

@[simp] theorem State.setFuel_sup (s : State) (x : FuelTerminal) : (s.setFuel x).sup = s.sup := rfl
@[simp] theorem State.setFuel_hlc (s : State) (x : FuelTerminal) : (s.setFuel x).hlc = s.hlc := rfl
@[simp] theorem State.setFuel_clk (s : State) (x : FuelTerminal) : (s.setFuel x).clk = s.clk := rfl
@[simp] theorem State.setFuel_bal (s : State) (x : FuelTerminal) : (s.setFuel x).bal = s.bal := rfl
@[simp] theorem State.setFuel_acu (s : State) (x : FuelTerminal) : (s.setFuel x).acu = s.acu := rfl
@[simp] theorem State.setFuel_pdl (s : State) (x : FuelTerminal) : (s.setFuel x).pdl = s.pdl := rfl
@[simp] theorem State.setFuel_far (s : State) (x : FuelTerminal) : (s.setFuel x).far = s.far := rfl
@[simp] theorem State.setFuel_fdc (s : State) (x : FuelTerminal) : (s.setFuel x).fdc = s.fdc := rfl
@[simp] theorem State.setFuel_gtc_creds (s : State) (x : FuelTerminal) : (s.setFuel x).gtc.creds = s.gtc.creds := rfl
@[simp] theorem State.setFuel_gtc_cfg (s : State) (x : FuelTerminal) : (s.setFuel x).gtc.cfg = s.gtc.cfg := rfl
@[simp] theorem State.setFuel_gtc_gates (s : State) (x : FuelTerminal) : (s.setFuel x).gtc.gates = s.gtc.gates := rfl
@[simp] theorem State.setFuel_gtc_terminals (s : State) (x : FuelTerminal) : (s.setFuel x).gtc.terminals = s.gtc.terminals :=
  rfl
@[simp] theorem State.setFuel_gtc_keyEvents (s : State) (x : FuelTerminal) : (s.setFuel x).gtc.keyEvents = s.gtc.keyEvents :=
  rfl
@[simp] theorem State.setFuel_pending (s : State) (x : FuelTerminal) : (s.setFuel x).pending = s.pending := rfl

@[simp] theorem State.setNozzle_sup_main (s : State) (i : Nat) (x : Bool) : (s.setNozzle i x).sup.main = s.sup.main := rfl
@[simp] theorem State.setNozzle_sup_resetHeld (s : State) (i : Nat) (x : Bool) :
    (s.setNozzle i x).sup.resetHeld = s.sup.resetHeld := rfl
@[simp] theorem State.setNozzle_sup_backup (s : State) (i : Nat) (x : Bool) : (s.setNozzle i x).sup.backup = s.sup.backup :=
  rfl
@[simp] theorem State.setNozzle_sup_backupReads (s : State) (i : Nat) (x : Bool) :
    (s.setNozzle i x).sup.backupReads = s.sup.backupReads := rfl
@[simp] theorem State.setNozzle_sup_valid (s : State) (i : Nat) (x : Bool) : (s.setNozzle i x).sup.valid = s.sup.valid := rfl
@[simp] theorem State.setNozzle_sup_startDue (s : State) (i : Nat) (x : Bool) :
    (s.setNozzle i x).sup.startDue = s.sup.startDue := rfl
@[simp] theorem State.setNozzle_sup_spa (s : State) (i : Nat) (x : Bool) : (s.setNozzle i x).sup.spa = s.sup.spa := rfl
@[simp] theorem State.setNozzle_sup_spb (s : State) (i : Nat) (x : Bool) : (s.setNozzle i x).sup.spb = s.sup.spb := rfl
@[simp] theorem State.setNozzle_sup_hostCts (s : State) (i : Nat) (x : Bool) : (s.setNozzle i x).sup.hostCts = s.sup.hostCts :=
  rfl
@[simp] theorem State.setNozzle_sup_contacts (s : State) (i : Nat) (x : Bool) :
    (s.setNozzle i x).sup.contacts = s.sup.contacts := rfl
@[simp] theorem State.setNozzle_hlc (s : State) (i : Nat) (x : Bool) : (s.setNozzle i x).hlc = s.hlc := rfl
@[simp] theorem State.setNozzle_clk (s : State) (i : Nat) (x : Bool) : (s.setNozzle i x).clk = s.clk := rfl
@[simp] theorem State.setNozzle_bal (s : State) (i : Nat) (x : Bool) : (s.setNozzle i x).bal = s.bal := rfl
@[simp] theorem State.setNozzle_acu (s : State) (i : Nat) (x : Bool) : (s.setNozzle i x).acu = s.acu := rfl
@[simp] theorem State.setNozzle_pdl (s : State) (i : Nat) (x : Bool) : (s.setNozzle i x).pdl = s.pdl := rfl
@[simp] theorem State.setNozzle_far (s : State) (i : Nat) (x : Bool) : (s.setNozzle i x).far = s.far := rfl
@[simp] theorem State.setNozzle_fdc (s : State) (i : Nat) (x : Bool) : (s.setNozzle i x).fdc = s.fdc := rfl
@[simp] theorem State.setNozzle_gtc (s : State) (i : Nat) (x : Bool) : (s.setNozzle i x).gtc = s.gtc := rfl
@[simp] theorem State.setNozzle_pending (s : State) (i : Nat) (x : Bool) : (s.setNozzle i x).pending = s.pending := rfl

@[simp] theorem State.setContact_sup_main (s : State) (i : Nat) (x : Bool) : (s.setContact i x).sup.main = s.sup.main := rfl
@[simp] theorem State.setContact_sup_resetHeld (s : State) (i : Nat) (x : Bool) :
    (s.setContact i x).sup.resetHeld = s.sup.resetHeld := rfl
@[simp] theorem State.setContact_sup_backup (s : State) (i : Nat) (x : Bool) : (s.setContact i x).sup.backup = s.sup.backup :=
  rfl
@[simp] theorem State.setContact_sup_backupReads (s : State) (i : Nat) (x : Bool) :
    (s.setContact i x).sup.backupReads = s.sup.backupReads := rfl
@[simp] theorem State.setContact_sup_valid (s : State) (i : Nat) (x : Bool) : (s.setContact i x).sup.valid = s.sup.valid :=
  rfl
@[simp] theorem State.setContact_sup_startDue (s : State) (i : Nat) (x : Bool) :
    (s.setContact i x).sup.startDue = s.sup.startDue := rfl
@[simp] theorem State.setContact_sup_spa (s : State) (i : Nat) (x : Bool) : (s.setContact i x).sup.spa = s.sup.spa := rfl
@[simp] theorem State.setContact_sup_spb (s : State) (i : Nat) (x : Bool) : (s.setContact i x).sup.spb = s.sup.spb := rfl
@[simp] theorem State.setContact_sup_hostCts (s : State) (i : Nat) (x : Bool) :
    (s.setContact i x).sup.hostCts = s.sup.hostCts := rfl
@[simp] theorem State.setContact_sup_nozzles (s : State) (i : Nat) (x : Bool) :
    (s.setContact i x).sup.nozzles = s.sup.nozzles := rfl
@[simp] theorem State.setContact_hlc (s : State) (i : Nat) (x : Bool) : (s.setContact i x).hlc = s.hlc := rfl
@[simp] theorem State.setContact_clk (s : State) (i : Nat) (x : Bool) : (s.setContact i x).clk = s.clk := rfl
@[simp] theorem State.setContact_bal (s : State) (i : Nat) (x : Bool) : (s.setContact i x).bal = s.bal := rfl
@[simp] theorem State.setContact_acu (s : State) (i : Nat) (x : Bool) : (s.setContact i x).acu = s.acu := rfl
@[simp] theorem State.setContact_pdl (s : State) (i : Nat) (x : Bool) : (s.setContact i x).pdl = s.pdl := rfl
@[simp] theorem State.setContact_far (s : State) (i : Nat) (x : Bool) : (s.setContact i x).far = s.far := rfl
@[simp] theorem State.setContact_fdc (s : State) (i : Nat) (x : Bool) : (s.setContact i x).fdc = s.fdc := rfl
@[simp] theorem State.setContact_gtc (s : State) (i : Nat) (x : Bool) : (s.setContact i x).gtc = s.gtc := rfl
@[simp] theorem State.setContact_pending (s : State) (i : Nat) (x : Bool) : (s.setContact i x).pending = s.pending := rfl

@[simp] theorem State.setHlc_sup (s : State) (x : Hlc) : (s.setHlc x).sup = s.sup := rfl
@[simp] theorem State.setHlc_hlc (s : State) (x : Hlc) : (s.setHlc x).hlc = x := rfl
@[simp] theorem State.setHlc_clk (s : State) (x : Hlc) : (s.setHlc x).clk = s.clk := rfl
@[simp] theorem State.setHlc_bal (s : State) (x : Hlc) : (s.setHlc x).bal = s.bal := rfl
@[simp] theorem State.setHlc_acu (s : State) (x : Hlc) : (s.setHlc x).acu = s.acu := rfl
@[simp] theorem State.setHlc_pdl (s : State) (x : Hlc) : (s.setHlc x).pdl = s.pdl := rfl
@[simp] theorem State.setHlc_far (s : State) (x : Hlc) : (s.setHlc x).far = s.far := rfl
@[simp] theorem State.setHlc_fdc (s : State) (x : Hlc) : (s.setHlc x).fdc = s.fdc := rfl
@[simp] theorem State.setHlc_gtc (s : State) (x : Hlc) : (s.setHlc x).gtc = s.gtc := rfl
@[simp] theorem State.setHlc_pending (s : State) (x : Hlc) : (s.setHlc x).pending = s.pending := rfl

@[simp] theorem State.setClk_sup (s : State) (x : Clk) : (s.setClk x).sup = s.sup := rfl
@[simp] theorem State.setClk_hlc (s : State) (x : Clk) : (s.setClk x).hlc = s.hlc := rfl
@[simp] theorem State.setClk_clk (s : State) (x : Clk) : (s.setClk x).clk = x := rfl
@[simp] theorem State.setClk_bal (s : State) (x : Clk) : (s.setClk x).bal = s.bal := rfl
@[simp] theorem State.setClk_acu (s : State) (x : Clk) : (s.setClk x).acu = s.acu := rfl
@[simp] theorem State.setClk_pdl (s : State) (x : Clk) : (s.setClk x).pdl = s.pdl := rfl
@[simp] theorem State.setClk_far (s : State) (x : Clk) : (s.setClk x).far = s.far := rfl
@[simp] theorem State.setClk_fdc (s : State) (x : Clk) : (s.setClk x).fdc = s.fdc := rfl
@[simp] theorem State.setClk_gtc (s : State) (x : Clk) : (s.setClk x).gtc = s.gtc := rfl
@[simp] theorem State.setClk_pending (s : State) (x : Clk) : (s.setClk x).pending = s.pending := rfl

end Sys2Proof.Machine
end

