-- ==== Sys2Proof/Laws/Frames.lean ====
section
/-! SUPPORT. What each shared operation leaves as it was: one lemma for each, in the order the operations are built. Each is
stated for any list of blocks that holds those the operation works on. -/

namespace Sys2Proof.Machine

variable {parts : List Part} {s t u : State}

/-! ## The relation -/

theorem LinkKept.refl (h : Hlc) : LinkKept h h := ⟨rfl, rfl, rfl, rfl, rfl, rfl⟩

theorem LinkKept.trans {a b c : Hlc} (h : LinkKept a b) (k : LinkKept b c) : LinkKept a c :=
  ⟨k.1.trans h.1, k.2.trans h.2, k.3.trans h.3, k.4.trans h.4, k.5.trans h.5, k.6.trans h.6⟩

theorem SameBut.refl (parts : List Part) (s : State) : SameBut parts s s :=
  ⟨rfl, .inr rfl, .inr (LinkKept.refl _), .inr rfl, .inr rfl, .inr rfl, .inr rfl, .inr rfl, .inr rfl, .inr rfl⟩

theorem SameBut.trans (h : SameBut parts s t) (k : SameBut parts t u) : SameBut parts s u where
  pending := k.pending.trans h.pending
  supply := h.supply.elim .inl fun a => k.supply.imp id fun b => b.trans a
  link := h.link.elim .inl fun a => k.link.imp id fun b => a.trans b
  clock := h.clock.elim .inl fun a => k.clock.imp id fun b => b.trans a
  berths := h.berths.elim .inl fun a => k.berths.imp id fun b => b.trans a
  accounts := h.accounts.elim .inl fun a => k.accounts.imp id fun b => b.trans a
  line := h.line.elim .inl fun a => k.line.imp id fun b => b.trans a
  feeders := h.feeders.elim .inl fun a => k.feeders.imp id fun b => b.trans a
  fuel := h.fuel.elim .inl fun a => k.fuel.imp id fun b => b.trans a
  gates := h.gates.elim .inl fun a => k.gates.imp id fun b => b.trans a

/-- More blocks may be listed. -/
theorem SameBut.mono {more : List Part} (sub : ∀ p ∈ parts, p ∈ more) (h : SameBut parts s t) : SameBut more s t where
  pending := h.pending
  supply := h.supply.imp (sub _) id
  link := h.link.imp (sub _) id
  clock := h.clock.imp (sub _) id
  berths := h.berths.imp (sub _) id
  accounts := h.accounts.imp (sub _) id
  line := h.line.imp (sub _) id
  feeders := h.feeders.imp (sub _) id
  fuel := h.fuel.imp (sub _) id
  gates := h.gates.imp (sub _) id

/-- A run of operations each of which leaves blocks as they were leaves them as they were. -/
theorem SameBut.foldl {α : Type} (f : State → α → State) (h : ∀ s a, SameBut parts s (f s a)) (l : List α) (s : State) :
    SameBut parts s (l.foldl f s) := by
  induction l generalizing s with
  | nil => exact .refl _ _
  | cons a rest ih => exact (h s a).trans (ih _)

/-- The rows of a put leave as it was what every row leaves so. -/
theorem SameBut.putRows {α : Type} (row : Nat → α → State → Except Status State)
    (h : ∀ i x s t, row i x s = .ok t → SameBut parts s t) (l : List (PutItem α)) (i n : Nat) (s : State) :
    SameBut parts s (putRows row i n l s).1 := by
  induction l generalizing i n s with
  | nil => exact .refl _ _
  | cons a rest ih =>
    cases a with
    | badItem => exact .refl _ _
    | row x =>
      simp only [Machine.putRows]
      split
      · exact .refl _ _
      · rename_i t ht
        exact (h i x s t ht).trans (ih _ _ _)

/-! ## One block written -/

theorem SameBut.writeSup (h : .supply ∈ parts) (s : State) (x : Supply) : SameBut parts s { s with sup := x } :=
  ⟨rfl, .inl h, .inr (LinkKept.refl _), .inr rfl, .inr rfl, .inr rfl, .inr rfl, .inr rfl, .inr rfl, .inr rfl⟩

theorem SameBut.writeHlc (s : State) (x : Hlc) (h : LinkKept s.hlc x) : SameBut parts s { s with hlc := x } :=
  ⟨rfl, .inr rfl, .inr h, .inr rfl, .inr rfl, .inr rfl, .inr rfl, .inr rfl, .inr rfl, .inr rfl⟩

theorem SameBut.writeLink (h : .link ∈ parts) (s : State) (x : Hlc) : SameBut parts s { s with hlc := x } :=
  ⟨rfl, .inr rfl, .inl h, .inr rfl, .inr rfl, .inr rfl, .inr rfl, .inr rfl, .inr rfl, .inr rfl⟩

theorem SameBut.writeClk (h : .clock ∈ parts) (s : State) (x : Clk) : SameBut parts s { s with clk := x } :=
  ⟨rfl, .inr rfl, .inr (LinkKept.refl _), .inl h, .inr rfl, .inr rfl, .inr rfl, .inr rfl, .inr rfl, .inr rfl⟩

theorem SameBut.writeBal (h : .berths ∈ parts) (s : State) (x : Bal) : SameBut parts s { s with bal := x } :=
  ⟨rfl, .inr rfl, .inr (LinkKept.refl _), .inr rfl, .inl h, .inr rfl, .inr rfl, .inr rfl, .inr rfl, .inr rfl⟩

theorem SameBut.writeAcu (h : .accounts ∈ parts) (s : State) (x : Acu) : SameBut parts s { s with acu := x } :=
  ⟨rfl, .inr rfl, .inr (LinkKept.refl _), .inr rfl, .inr rfl, .inl h, .inr rfl, .inr rfl, .inr rfl, .inr rfl⟩

theorem SameBut.writePdl (h : .line ∈ parts) (s : State) (x : Pdl) : SameBut parts s { s with pdl := x } :=
  ⟨rfl, .inr rfl, .inr (LinkKept.refl _), .inr rfl, .inr rfl, .inr rfl, .inl h, .inr rfl, .inr rfl, .inr rfl⟩

theorem SameBut.writeFar (h : .feeders ∈ parts) (s : State) (x : Far) : SameBut parts s { s with far := x } :=
  ⟨rfl, .inr rfl, .inr (LinkKept.refl _), .inr rfl, .inr rfl, .inr rfl, .inr rfl, .inl h, .inr rfl, .inr rfl⟩

theorem SameBut.writeFdc (h : .fuel ∈ parts) (s : State) (x : Fdc) : SameBut parts s { s with fdc := x } :=
  ⟨rfl, .inr rfl, .inr (LinkKept.refl _), .inr rfl, .inr rfl, .inr rfl, .inr rfl, .inr rfl, .inl h, .inr rfl⟩

theorem SameBut.writeGtc (h : .gates ∈ parts) (s : State) (x : Gtc) : SameBut parts s { s with gtc := x } :=
  ⟨rfl, .inr rfl, .inr (LinkKept.refl _), .inr rfl, .inr rfl, .inr rfl, .inr rfl, .inr rfl, .inr rfl, .inl h⟩

/-! ## Notices and the link -/

theorem enterNotice_linkKept (t : Stamp) (b : NoticeBody) (h : Hlc) : LinkKept h (enterNotice t b h) := by
  unfold enterNotice; split <;> exact ⟨rfl, rfl, rfl, rfl, rfl, rfl⟩

theorem raise_sameBut (b : NoticeBody) (s : State) : SameBut parts s (s.raise b) :=
  .writeHlc _ _ (enterNotice_linkKept ..)

theorem sendNotice_linkKept (h : Hlc) : LinkKept h (sendNotice h) := by
  unfold sendNotice; split <;> exact ⟨rfl, rfl, rfl, rfl, rfl, rfl⟩

theorem chooseFrame_linkKept (h : Hlc) : LinkKept h (chooseFrame h) := by
  unfold chooseFrame
  repeat' split
  · exact ⟨rfl, rfl, rfl, rfl, rfl, rfl⟩
  · exact sendNotice_linkKept h
  · exact LinkKept.refl h
  · exact sendNotice_linkKept h

theorem pump_sameBut (s : State) : SameBut parts s (pump s) := by
  unfold pump
  split
  · exact .writeHlc _ _ (chooseFrame_linkKept _)
  · exact .refl _ _

theorem frameSent_linkKept (h : Hlc) : LinkKept h (frameSent h) := by
  unfold frameSent; split <;> exact ⟨rfl, rfl, rfl, rfl, rfl, rfl⟩

theorem event_sameBut {f : State → State} (h : SameBut parts s (f s)) : SameBut parts s (event f s) := by
  unfold event
  split
  · exact h.trans (pump_sameBut _)
  · exact .refl _ _

theorem takeRequest_sameBut {owner : State → State × Answer} (kind tag : Nat) (h : SameBut parts s (owner s).1) :
    SameBut parts s (takeRequest kind tag owner s) :=
  h.trans (.writeHlc _ _ ⟨rfl, rfl, rfl, rfl, rfl, rfl⟩)

theorem checked_sameBut (checks : List (Bool × Status)) {act : State → State × Answer} (h : SameBut parts s (act s).1) :
    SameBut parts s (checked checks act s).1 := by
  unfold checked
  split
  · exact .refl _ _
  · exact h

theorem multiPut_sameBut {α : Type} (row : Nat → α → State → Except Status State)
    (h : ∀ i x s t, row i x s = .ok t → SameBut parts s t) (most start : Nat) (l : List (PutItem α)) (s : State) :
    SameBut parts s (multiPut most start row l s).1 := by
  unfold multiPut
  split
  · exact .putRows row h l _ _ _
  · exact .refl _ _

/-! ## One table written, after other operations -/


theorem SameBut.setBerth (hp : .berths ∈ parts) (h : SameBut parts s t) (i : Nat) (x : Berth) :
    SameBut parts s (t.setBerth i x) := h.trans (.writeBal hp t _)

theorem SameBut.setBooking (hp : .berths ∈ parts) (h : SameBut parts s t) (i : Nat) (x : Booking) :
    SameBut parts s (t.setBooking i x) := h.trans (.writeBal hp t _)

theorem SameBut.setTides (hp : .berths ∈ parts) (h : SameBut parts s t) (x : List (Nat × Int)) :
    SameBut parts s (t.setTides x) := h.trans (.writeBal hp t _)

theorem SameBut.setArrivals (hp : .berths ∈ parts) (h : SameBut parts s t) (x : List Arrival) :
    SameBut parts s (t.setArrivals x) := h.trans (.writeBal hp t _)

theorem SameBut.setAccount (hp : .accounts ∈ parts) (h : SameBut parts s t) (i : Nat) (x : Account) :
    SameBut parts s (t.setAccount i x) := h.trans (.writeAcu hp t _)

theorem SameBut.setTariff (hp : .accounts ∈ parts) (h : SameBut parts s t) (i : Nat) (x : Tariff) :
    SameBut parts s (t.setTariff i x) := h.trans (.writeAcu hp t _)

theorem SameBut.setSocketAcct (hp : .accounts ∈ parts) (h : SameBut parts s t) (i : Nat) (x : SocketAcct) :
    SameBut parts s (t.setSocketAcct i x) := h.trans (.writeAcu hp t _)

theorem SameBut.setTapResidue (hp : .accounts ∈ parts) (h : SameBut parts s t) (i : Nat) (x : Nat) :
    SameBut parts s (t.setTapResidue i x) := h.trans (.writeAcu hp t _)

theorem SameBut.setPedestal (hp : .line ∈ parts) (h : SameBut parts s t) (i : Nat) (x : PedestalCfg) :
    SameBut parts s (t.setPedestal i x) := h.trans (.writePdl hp t _)

theorem SameBut.setLink (hp : .line ∈ parts) (h : SameBut parts s t) (i : Nat) (x : PedestalLink) :
    SameBut parts s (t.setLink i x) := h.trans (.writePdl hp t _)

theorem SameBut.setSocketCfg (hp : .line ∈ parts) (h : SameBut parts s t) (i : Nat) (x : SocketCfg) :
    SameBut parts s (t.setSocketCfg i x) := h.trans (.writePdl hp t _)

theorem SameBut.setTapCfg (hp : .line ∈ parts) (h : SameBut parts s t) (i : Nat) (x : TapCfg) :
    SameBut parts s (t.setTapCfg i x) := h.trans (.writePdl hp t _)

theorem SameBut.setSocketMeter (hp : .line ∈ parts) (h : SameBut parts s t) (i : Nat) (x : Meter) :
    SameBut parts s (t.setSocketMeter i x) := h.trans (.writePdl hp t _)

theorem SameBut.setTapMeter (hp : .line ∈ parts) (h : SameBut parts s t) (i : Nat) (x : Meter) :
    SameBut parts s (t.setTapMeter i x) := h.trans (.writePdl hp t _)

theorem SameBut.setReport (hp : .line ∈ parts) (h : SameBut parts s t) (i : Nat) (x : Option SocketReport) :
    SameBut parts s (t.setReport i x) := h.trans (.writePdl hp t _)

theorem SameBut.setRun (hp : .line ∈ parts) (h : SameBut parts s t) (i : Nat) (x : Option TapRun) :
    SameBut parts s (t.setRun i x) := h.trans (.writePdl hp t _)

theorem SameBut.setAck (hp : .line ∈ parts) (h : SameBut parts s t) (i : Nat) (x : Bool) :
    SameBut parts s (t.setAck i x) := h.trans (.writePdl hp t _)

theorem SameBut.setPoll (hp : .line ∈ parts) (h : SameBut parts s t) (p : Option Poll) :
    SameBut parts s (t.setPoll p) := h.trans (.writePdl hp t _)

theorem SameBut.setSocket (hp : .feeders ∈ parts) (h : SameBut parts s t) (i : Nat) (x : Socket) :
    SameBut parts s (t.setSocket i x) := h.trans (.writeFar hp t _)

theorem SameBut.setFeederCfg (hp : .feeders ∈ parts) (h : SameBut parts s t) (i : Nat) (x : FeederCfg) :
    SameBut parts s (t.setFeederCfg i x) := h.trans (.writeFar hp t _)

theorem SameBut.setFeeder (hp : .feeders ∈ parts) (h : SameBut parts s t) (i : Nat) (x : Feeder) :
    SameBut parts s (t.setFeeder i x) := h.trans (.writeFar hp t _)

theorem SameBut.setHoseCfg (hp : .fuel ∈ parts) (h : SameBut parts s t) (i : Nat) (x : HoseCfg) :
    SameBut parts s (t.setHoseCfg i x) := h.trans (.writeFdc hp t _)

theorem SameBut.setHose (hp : .fuel ∈ parts) (h : SameBut parts s t) (i : Nat) (x : Hose) :
    SameBut parts s (t.setHose i x) := h.trans (.writeFdc hp t _)

theorem SameBut.setPrice (hp : .fuel ∈ parts) (h : SameBut parts s t) (grade : Nat) (x : Nat) :
    SameBut parts s (t.setPrice grade x) := h.trans (.writeFdc hp t _)

theorem SameBut.setSales (hp : .fuel ∈ parts) (h : SameBut parts s t) (x : List Sale) :
    SameBut parts s (t.setSales x) := h.trans (.writeFdc hp t _)

theorem SameBut.setCred (hp : .gates ∈ parts) (h : SameBut parts s t) (i : Nat) (x : Cred) :
    SameBut parts s (t.setCred i x) := h.trans (.writeGtc hp t _)

theorem SameBut.setGateCfg (hp : .gates ∈ parts) (h : SameBut parts s t) (i : Nat) (x : GateCfg) :
    SameBut parts s (t.setGateCfg i x) := h.trans (.writeGtc hp t _)

theorem SameBut.setGate (hp : .gates ∈ parts) (h : SameBut parts s t) (i : Nat) (x : Gate) :
    SameBut parts s (t.setGate i x) := h.trans (.writeGtc hp t _)

theorem SameBut.setTerminal (hp : .gates ∈ parts) (h : SameBut parts s t) (i : Nat) (x : Terminal) :
    SameBut parts s (t.setTerminal i x) := h.trans (.writeGtc hp t _)

theorem SameBut.setFuel (hp : .gates ∈ parts) (h : SameBut parts s t) (x : FuelTerminal) :
    SameBut parts s (t.setFuel x) := h.trans (.writeGtc hp t _)

theorem SameBut.setNozzle (hp : .supply ∈ parts) (h : SameBut parts s t) (i : Nat) (x : Bool) :
    SameBut parts s (t.setNozzle i x) := h.trans (.writeSup hp t _)

theorem SameBut.setContact (hp : .supply ∈ parts) (h : SameBut parts s t) (i : Nat) (x : Bool) :
    SameBut parts s (t.setContact i x) := h.trans (.writeSup hp t _)

theorem SameBut.setClk (hp : .clock ∈ parts) (h : SameBut parts s t) (x : Clk) :
    SameBut parts s (t.setClk x) := h.trans (.writeClk hp t _)

theorem SameBut.raise (h : SameBut parts s t) (b : NoticeBody) : SameBut parts s (t.raise b) :=
  h.trans (raise_sameBut b t)

/-! ## Feeders -/

section
variable (hf : Part.feeders ∈ parts)
include hf

theorem takeStamp_sameBut (s : State) : SameBut parts s (takeStamp s).1 := by
  unfold takeStamp
  refine SameBut.trans ?_ (.writeFar hf _ _)
  split
  · exact (SameBut.foldl _ (fun s _ => .writeFar hf s _) _ _).trans (.writeFar hf _ _)
  · exact .refl _ _

theorem grant_sameBut (f n : Nat) (skipped : List Nat) (s : State) : SameBut parts s (grant f n skipped s) := by
  have h := (takeStamp_sameBut hf s).setSocket hf n
    { (takeStamp s).1.socket n with
      state := .granted, reservation := some (s.reservation n), stamp := some (takeStamp s).2, confirm := some 0, bypass := 0 }
  unfold grant
  refine (SameBut.setFeeder hf ?_ _ _).raise _
  dsimp only
  split
  · exact h
  · exact h.trans (.foldl _ (fun s _ => (SameBut.refl _ s).setSocket hf _ _) _ _)

theorem searchPasses_sameBut (f n : Nat) (s : State) : SameBut parts s (searchPasses f n s) := by
  induction n generalizing s with
  | zero => exact .refl _ _
  | succ n ih =>
    simp only [searchPasses]
    split
    · exact .refl _ _
    · exact (grant_sameBut hf ..).trans (ih _)

theorem grantSearch_sameBut (f : Nat) (s : State) : SameBut parts s (grantSearch f s) := searchPasses_sameBut hf ..

theorem placePending_sameBut (n : Nat) (s : State) : SameBut parts s (placePending n s) :=
  (SameBut.writeFar hf s _).trans (.writeFar hf _ _)

theorem dropPending_sameBut (n : Nat) (d : SocketState) (s : State) : SameBut parts s (dropPending n d s) :=
  (SameBut.writeFar hf s _).trans (.writeFar hf _ _)

theorem withdraw_sameBut (n : Nat) (d : SocketState) (s : State) : SameBut parts s (withdraw n d s) := by
  unfold withdraw
  dsimp only
  split
  · exact (dropPending_sameBut hf ..).trans (raise_sameBut ..)
  · exact dropPending_sameBut hf ..

theorem leaveAllPending_sameBut (d : Nat → SocketState) (l : List Nat) (s : State) :
    SameBut parts s (leaveAllPending d l s) :=
  SameBut.trans (.foldl _ (fun s n => withdraw_sameBut hf n _ s) _ _) (.foldl _ (fun s _ => grantSearch_sameBut hf _ s) _ _)

theorem leavePending_sameBut (n : Nat) (d : SocketState) (s : State) : SameBut parts s (leavePending n d s) :=
  leaveAllPending_sameBut hf ..

theorem reevaluate_sameBut (n : Nat) (s : State) : SameBut parts s (reevaluate n s) := by
  unfold reevaluate
  dsimp only
  repeat' split
  all_goals first
    | exact .refl _ _
    | exact (placePending_sameBut hf ..).trans (grantSearch_sameBut hf ..)
    | exact leavePending_sameBut hf ..
    | exact (SameBut.refl _ s).setSocket hf _ _

theorem reevaluateAsIdle_sameBut (n : Nat) (s : State) : SameBut parts s (reevaluateAsIdle n s) :=
  (SameBut.writeFar hf s _).trans (reevaluate_sameBut hf ..)

theorem farHold_sameBut (a : Nat) (s : State) : SameBut parts s (farHold a s) :=
  (leaveAllPending_sameBut hf _ _ s).trans (.foldl _ (fun s _ => reevaluate_sameBut hf _ s) _ _)

theorem farEntitle_sameBut (b : Nat) (s : State) : SameBut parts s (farEntitle b s) :=
  .foldl _ (fun s n => by split; exacts [reevaluate_sameBut hf n s, .refl _ _]) _ _

theorem energise_sameBut (n : Nat) (s : State) : SameBut parts s (energise n s) :=
  (SameBut.writeFar hf s _).trans (raise_sameBut ..)

theorem adopt_sameBut (n : Nat) (s : State) : SameBut parts s (adopt n s) :=
  (((takeStamp_sameBut hf s).trans (.writeFar hf _ _)).trans (.writeFar hf _ _)).trans (raise_sameBut ..)

theorem adoptSocket_sameBut (n : Nat) (r : SocketReport) (s : State) : SameBut parts s (adoptSocket n r s) := by
  simp only [adoptSocket]
  repeat' split
  · exact .refl _ _
  · exact .writeFar hf s _
  · exact .writeFar hf s _
  · exact adopt_sameBut hf ..
  · exact placePending_sameBut hf ..
  · exact .writeFar hf s _

theorem pedestalLostFar_sameBut (l : List Nat) (s : State) : SameBut parts s (pedestalLostFar l s) :=
  leaveAllPending_sameBut hf ..

theorem holdOffEnds_sameBut (n : Nat) (s : State) : SameBut parts s (holdOffEnds n s) := by
  simp only [holdOffEnds]
  split
  · split
    · exact reevaluateAsIdle_sameBut hf ..
    · exact .writeFar hf s _
  · exact .refl _ _

end

/-! ## Terminals and credentials -/

section
variable (hg : Part.gates ∈ parts)
include hg

theorem dropCard_sameBut (n : Nat) (s : State) : SameBut parts s (dropCard n s) := by
  unfold dropCard
  dsimp only
  split
  · exact (SameBut.writeGtc hg s _).trans (.writeGtc hg _ _)
  · exact .writeGtc hg s _

theorem clearBuffer_sameBut (n : Nat) (s : State) : SameBut parts s (clearBuffer n s) := .writeGtc hg s _

theorem endCredUse_sameBut (c : Nat) (s : State) : SameBut parts s (endCredUse c s) := by
  unfold endCredUse
  refine SameBut.trans (.foldl _ (fun s n => ?_) _ _) (.foldl _ (fun s n => ?_) _ _)
  · unfold endAttribution
    split
    · exact .writeGtc hg s _
    · exact .refl _ _
  · unfold endCard
    repeat' split
    · exact (dropCard_sameBut hg ..).trans (clearBuffer_sameBut hg ..)
    · exact .refl _ _
    · exact .refl _ _

theorem freeCred_sameBut (c : Nat) (s : State) : SameBut parts s (freeCred c s) :=
  (SameBut.writeGtc hg s _).trans (endCredUse_sameBut hg ..)

theorem freeBookingCreds_sameBut (b : Nat) (s : State) : SameBut parts s (freeBookingCreds b s) :=
  .foldl _ (fun s n => freeCred_sameBut hg n s) _ _

end

/-! ## Accounts -/

section
variable (ha : Part.accounts ∈ parts)
include ha

theorem evaluateHold_sameBut (a : Nat) (s : State) : SameBut parts s (evaluateHold a s).1 := by
  simp only [evaluateHold]
  repeat' split
  · exact .refl _ _
  · exact (SameBut.writeAcu ha s _).trans (raise_sameBut ..)
  · exact (SameBut.writeAcu ha s _).trans (raise_sameBut ..)
  · exact .refl _ _

theorem postOnly_sameBut (a : Nat) (x : Int) (s : State) : SameBut parts s (postOnly a x s).1 := by
  unfold postOnly
  split
  · exact .refl _ _
  · exact (SameBut.writeAcu ha s _).trans (evaluateHold_sameBut ha ..)

end

section
variable (hold : ∀ p ∈ holdParts, p ∈ parts)
include hold

theorem settleSocketBy_sameBut {post : Nat → Int → State → State} (h : ∀ a x s, SameBut parts s (post a x s)) (n : Nat)
    (s : State) : SameBut parts s (settleSocketBy post n s) := by
  have ha := hold .accounts (by decide)
  have hl := hold .line (by decide)
  exact ((SameBut.writePdl hl s _).trans (.writeAcu ha _ _)).trans (h ..)

theorem settleTapBy_sameBut {post : Nat → Int → State → State} (h : ∀ a x s, SameBut parts s (post a x s)) (n : Nat)
    (s : State) : SameBut parts s (settleTapBy post n s) := by
  have ha := hold .accounts (by decide)
  have hl := hold .line (by decide)
  exact ((SameBut.writePdl hl s _).trans (.writeAcu ha _ _)).trans (h ..)

theorem closeTapBy_sameBut {settle : Nat → State → State} (h : ∀ n s, SameBut parts s (settle n s)) (n : Nat)
    (c : TapCause) (s : State) : SameBut parts s (closeTapBy settle n c s) := by
  unfold closeTapBy
  split
  · exact .refl _ _
  · exact ((SameBut.writePdl (hold .line (by decide)) s _).trans (h ..)).trans (raise_sameBut ..)

theorem pdlHold_sameBut (a : Nat) (s : State) : SameBut parts s (pdlHold a s) :=
  .foldl _ (fun s n => closeTapBy_sameBut hold
    (fun n s => settleTapBy_sameBut hold (fun a x s => postOnly_sameBut (hold .accounts (by decide)) a x s) n s) n _ s) _ _

theorem gtcHold_sameBut (a : Nat) (s : State) : SameBut parts s (gtcHold a s) := by
  have hg := hold .gates (by decide)
  unfold gtcHold
  repeat' split
  · exact .refl _ _
  · exact ((dropCard_sameBut hg ..).trans (.writeGtc hg _ _)).trans (raise_sameBut ..)
  · exact .refl _ _

theorem tellHold_sameBut (a : Nat) (s : State) : SameBut parts s (tellHold a s) := by
  have h := farHold_sameBut (hold .feeders (by decide)) a s
  unfold tellHold
  dsimp only
  split
  · exact (h.trans (pdlHold_sameBut hold ..)).trans (gtcHold_sameBut hold ..)
  · exact h

/-- A posting works on the account unit, and, when it changes a hold state, on the feeders, the line and terminal 7. -/
theorem post_sameBut (a : Nat) (x : Int) (s : State) : SameBut parts s (post a x s) := by
  have h := postOnly_sameBut (hold .accounts (by decide)) a x s
  unfold post
  dsimp only
  split
  · exact h.trans (tellHold_sameBut hold ..)
  · exact h

theorem evaluateAndTell_sameBut (a : Nat) (s : State) : SameBut parts s (evaluateAndTell a s) := by
  have h := evaluateHold_sameBut (hold .accounts (by decide)) a s
  unfold evaluateAndTell
  dsimp only
  split
  · exact h.trans (tellHold_sameBut hold ..)
  · exact h

theorem settleSocket_sameBut (n : Nat) (s : State) : SameBut parts s (settleSocket n s) :=
  settleSocketBy_sameBut hold (post_sameBut hold) n s

theorem settleTap_sameBut (n : Nat) (s : State) : SameBut parts s (settleTap n s) :=
  settleTapBy_sameBut hold (post_sameBut hold) n s

theorem closeTap_sameBut (n : Nat) (c : TapCause) (s : State) : SameBut parts s (closeTap n c s) :=
  closeTapBy_sameBut hold (settleTap_sameBut hold) n c s

theorem settleAllSockets_sameBut (s : State) : SameBut parts s (settleAllSockets s) :=
  .foldl _ (fun s n => settleSocket_sameBut hold n s) _ _

theorem settleAllTaps_sameBut (s : State) : SameBut parts s (settleAllTaps s) :=
  .foldl _ (fun s n => settleTap_sameBut hold n s) _ _

/-! ## Releases -/

theorem release_sameBut (n : Nat) (l : Landing) (b : Option NoticeBody) (s : State) :
    SameBut parts s (release n l b s) := by
  have hf := hold .feeders (by decide)
  unfold release
  refine SameBut.trans ?_ (grantSearch_sameBut hf ..)
  have h := settleSocket_sameBut hold n s
  cases b with
  | none => exact (h.setFeeder hf _ _).setSocket hf _ _
  | some b => exact ((h.setFeeder hf _ _).setSocket hf _ _).raise _

theorem shed_sameBut (n : Nat) (src : ShedSource) (c : ShedCause) (s : State) : SameBut parts s (shed n src c s) := by
  unfold shed
  exact release_sameBut hold _ _ _ _

theorem farDepart_sameBut (b : Nat) (s : State) : SameBut parts s (farDepart b s) := by
  have hf := hold .feeders (by decide)
  unfold farDepart
  refine (leaveAllPending_sameBut hf _ _ s).trans (.foldl _ (fun s n => ?_) _ _)
  split; exacts [release_sameBut hold .., .refl _ _]

theorem closeBerthTaps_sameBut (b : Nat) (c : TapCause) (s : State) : SameBut parts s (closeBerthTaps b c s) :=
  .foldl _ (fun s n => closeTap_sameBut hold n c s) _ _

theorem settleBerth_sameBut (b : Nat) (s : State) : SameBut parts s (settleBerth b s) :=
  SameBut.trans (.foldl _ (fun s n => settleSocket_sameBut hold n s) _ _)
    (.foldl _ (fun s n => settleTap_sameBut hold n s) _ _)

theorem releaseTripped_sameBut (n : Nat) (s : State) : SameBut parts s (releaseTripped n s) := by
  unfold releaseTripped
  exact release_sameBut hold _ _ _ _

theorem takePlugGone_sameBut (n : Nat) (s : State) : SameBut parts s (takePlugGone n s) := by
  have hf := hold .feeders (by decide)
  unfold takePlugGone
  dsimp only
  split <;> first
    | exact release_sameBut hold _ _ _ _
    | exact leavePending_sameBut hf _ _ _
    | exact (SameBut.refl _ s).setSocket hf _ _
    | exact .refl _ s

theorem takeChanges_sameBut (n : Nat) (c : Changes) (s : State) : SameBut parts s (takeChanges n c s) := by
  have hf := hold .feeders (by decide)
  simp only [takeChanges]
  repeat' split
  · exact takePlugGone_sameBut hold ..
  · exact releaseTripped_sameBut hold ..
  · exact releaseTripped_sameBut hold ..
  · exact energise_sameBut hf ..
  · exact .writeFar hf s _
  · exact reevaluate_sameBut hf ..
  · exact .refl _ _

theorem countScan_sameBut (n : Nat) (s : State) : SameBut parts s (countScan n s) := by
  have hf := hold .feeders (by decide)
  simp only [countScan]
  repeat' split
  · exact .refl _ _
  · exact release_sameBut hold ..
  · exact .writeFar hf s _

theorem judgeFeeder_sameBut (f : Nat) (s : State) : SameBut parts s (judgeFeeder f s) := by
  have hf := hold .feeders (by decide)
  unfold judgeFeeder
  dsimp only
  split
  · exact (SameBut.refl _ s).setFeeder hf _ _
  · split
    · exact (SameBut.refl _ s).setFeeder hf _ _
    · refine (SameBut.setFeeder hf ?_ _ _).raise _
      split
      · exact shed_sameBut hold _ _ _ _
      · exact .refl _ _

theorem scanComplete_sameBut (s : State) : SameBut parts s (scanComplete s) := by
  have hf := hold .feeders (by decide)
  have h : SameBut parts s
      (feederNumbers.foldl (fun t f => t.setFeeder f { t.feeder f with measured := s.measuredCurrent f }) s) :=
    .foldl _ (fun t f => (SameBut.refl _ t).setFeeder hf _ _) _ _
  unfold scanComplete
  exact (h.trans (.foldl _ (fun s n => countScan_sameBut hold n s) _ _)).trans
    (.foldl _ (fun s n => judgeFeeder_sameBut hold n s) _ _)

theorem shedToLimit_sameBut (f n : Nat) (s : State) : SameBut parts s (shedToLimit f n s) := by
  induction n generalizing s with
  | zero => exact .refl _ _
  | succ n ih =>
    simp only [shedToLimit]
    repeat' split
    · exact .refl _ _
    · exact .refl _ _
    · exact (shed_sameBut hold ..).trans (ih _)

theorem lockSocket_sameBut (n : Nat) (s : State) : SameBut parts s (lockSocket n s) := by
  have hf := hold .feeders (by decide)
  unfold lockSocket
  dsimp only
  split
  · exact .refl _ s
  · exact release_sameBut hold _ _ _ _
  · exact release_sameBut hold _ _ _ _
  · exact (dropPending_sameBut hf n .locked s).trans (grantSearch_sameBut hf _ _)
  all_goals exact ((SameBut.refl _ s).setSocket hf _ _).trans (grantSearch_sameBut hf _ _)

/-! ## The pedestal line -/

theorem countSocket_sameBut (e n c : Nat) (s : State) : SameBut parts s (countSocket e n c s) := by
  have hl := hold .line (by decide)
  simp only [countSocket]
  split
  · exact .writePdl hl s _
  · exact (SameBut.writePdl hl s _).trans (raise_sameBut ..)

theorem countTap_sameBut (e n c : Nat) (s : State) : SameBut parts s (countTap e n c s) := by
  have hl := hold .line (by decide)
  simp only [countTap]
  split
  · exact .writePdl hl s _
  · exact (SameBut.writePdl hl s _).trans (raise_sameBut ..)

theorem openTap_sameBut (n b : Nat) (k : Option Nat) (s : State) : SameBut parts s (openTap n b k s) :=
  (SameBut.writePdl (hold .line (by decide)) s _).trans (raise_sameBut ..)

theorem pressTap_sameBut (n : Nat) (s : State) : SameBut parts s (pressTap n s) := by
  unfold pressTap pressClosed
  repeat' split
  · exact closeTap_sameBut hold ..
  · exact raise_sameBut ..
  · exact openTap_sameBut hold ..
  · exact raise_sameBut ..
  · exact raise_sameBut ..
  · exact openTap_sameBut hold ..

theorem linkGood_sameBut (a : Nat) (s : State) : SameBut parts s (linkGood a s) := by
  have hl := hold .line (by decide)
  simp only [linkGood]
  split
  · exact (SameBut.writePdl hl s _).trans (raise_sameBut ..)
  · exact .writePdl hl s _

theorem handSocket_sameBut (h : Handover) (n : Nat) (r : SocketReport) (s : State) :
    SameBut parts s (handSocket h n r s) := by
  have hl := hold .line (by decide)
  have hf := hold .feeders (by decide)
  have k := (SameBut.refl parts s).setReport hl n (some (s.kept n r))
  unfold handSocket
  cases h
  · exact k.trans (adoptSocket_sameBut hf _ _ _)
  · exact k.trans (takeChanges_sameBut hold _ _ _)
  · exact k.trans (takeChanges_sameBut hold _ _ _)

theorem endHandover_sameBut (h : Handover) (a : Nat) (s : State) : SameBut parts s (endHandover h a s) := by
  have hf := hold .feeders (by decide)
  unfold endHandover
  repeat' split
  · exact grantSearch_sameBut hf ..
  · exact .refl _ _
  · exact .foldl _ (fun s n => by split; exacts [reevaluate_sameBut hf n s, .refl _ _]) _ _
  · exact .refl _ _

theorem countReport_sameBut (r : PollReply) (s : State) : SameBut parts s (countReport r s) :=
  ((linkGood_sameBut hold r.address s).trans (.foldl _ (fun t _ => countSocket_sameBut hold _ _ _ t) _ _)).trans
    (.foldl _ (fun t _ => countTap_sameBut hold _ _ _ t) _ _)

theorem handReport_sameBut (h : Handover) (r : PollReply) (s : State) : SameBut parts s (handReport h r s) :=
  SameBut.trans (.foldl _ (fun t _ => handSocket_sameBut hold _ _ _ t) _ _) (endHandover_sameBut hold ..)

theorem goodReport_sameBut (p : Poll) (r : PollReply) (s : State) : SameBut parts s (goodReport p r s) := by
  have hl := hold .line (by decide)
  simp only [goodReport]
  refine SameBut.trans ?_ (.writePdl hl _ _)
  refine SameBut.trans ?_ (.foldl _ (fun t x => ?_) _ _)
  · refine SameBut.trans ?_ (.foldl _ (fun t x => .writePdl hl t _) _ _)
    refine SameBut.trans ?_ (.foldl _ (fun t x => (pressTap_sameBut hold _ t).trans (.writePdl hl _ _)) _ _)
    exact (countReport_sameBut hold ..).trans (handReport_sameBut hold ..)
  · split
    · exact .writePdl hl t _
    · exact .refl _ _

theorem pollReply_sameBut (b : List Byte) (w : Bool) (s : State) : SameBut parts s (pollReply b w s) := by
  unfold pollReply
  repeat' split
  · exact goodReport_sameBut hold ..
  · exact .refl _ _
  · exact .refl _ _

theorem missPoll_sameBut (a : Nat) (s : State) : SameBut parts s (missPoll a s) := by
  have hl := hold .line (by decide)
  simp only [missPoll]
  split
  · exact .writePdl hl s _
  · refine SameBut.trans ?_ (.foldl _ (fun s n => closeTap_sameBut hold n _ s) _ _)
    refine SameBut.trans ?_ (pedestalLostFar_sameBut (hold .feeders (by decide)) ..)
    exact (SameBut.writePdl hl s _).trans (raise_sameBut ..)

theorem slotEnd_sameBut (s : State) : SameBut parts s (slotEnd s) := by
  have hl := hold .line (by decide)
  unfold slotEnd
  split
  · exact .refl _ _
  · rename_i p _
    have h : SameBut parts s
        (if s.pdl.replied = true ∨ (s.pedestal p.address).configured = false then s else missPoll p.address s) := by
      split
      · exact .refl _ _
      · exact missPoll_sameBut hold ..
    dsimp only
    generalize (if s.pdl.replied = true ∨ (s.pedestal p.address).configured = false then s else missPoll p.address s) = u at h
    unfold beginSlotAbove
    cases u.configuredPedestals.find? fun a => decide (p.address < a) with
    | some a => exact h.setPoll hl _
    | none =>
      dsimp only
      rw [if_pos rfl]
      split
      · exact h.setPoll hl _
      · exact (h.trans (scanComplete_sameBut hold _)).setPoll hl _

/-! ## Bookings and rollovers -/

theorem postFee_sameBut (hb : .berths ∈ parts) (b : Nat) (s : State) : SameBut parts s (postFee b s) :=
  ((SameBut.refl _ s).setBooking hb _ _).trans (post_sameBut hold ..)

theorem leaveBerth_sameBut (b : Nat) (s : State) : SameBut parts s (leaveBerth b s) :=
  ((settleBerth_sameBut hold b s).trans (farDepart_sameBut hold ..)).trans (closeBerthTaps_sameBut hold ..)

theorem tellClass_sameBut (b : Nat) (o n : BerthClass) (s : State) : SameBut parts s (tellClass b o n s) := by
  unfold tellClass
  repeat' split
  · exact .refl _ _
  · exact farEntitle_sameBut (hold .feeders (by decide)) ..
  · exact (farDepart_sameBut hold ..).trans (closeBerthTaps_sameBut hold ..)
  · exact .refl _ _

end

theorem moveBooking_sameBut (hb : .berths ∈ parts) (w : State → Nat → Int) (b : Nat) (s : State) :
    SameBut parts s (moveBooking w b s) := by
  unfold moveBooking
  dsimp only
  repeat' split
  · exact .refl _ _
  · exact .refl _ _
  · exact ((SameBut.refl _ s).setBooking hb _ _).raise _
  · exact ((SameBut.refl _ s).setBooking hb _ _).raise _

theorem moveAll_sameBut (hb : .berths ∈ parts) (b : Nat) (s : State) : SameBut parts s (moveAll b s) :=
  .foldl _ (fun s _ => moveBooking_sameBut hb _ _ s) _ _

theorem closeBooking_sameBut (hb : .berths ∈ parts) (hg : .gates ∈ parts) (k : BookState) (a : Stamp) (b : Nat)
    (s : State) : SameBut parts s (closeBooking k a b s) :=
  ((SameBut.refl _ s).setBooking hb _ _).trans (freeBookingCreds_sameBut hg ..)

theorem extendBooking_sameBut (hb : .berths ∈ parts) (d b : Nat) (s : State) : SameBut parts s (extendBooking d b s) :=
  (SameBut.setBooking hb (.foldl _ (fun s _ => moveBooking_sameBut hb _ _ s) _ _) _ _).raise _

theorem arrive_sameBut (hb : .berths ∈ parts) (hf : .feeders ∈ parts) (b src : Nat) (s : State) :
    SameBut parts s (arrive b src s) :=
  (((SameBut.refl _ s).setBooking hb _ _).trans (farEntitle_sameBut hf ..)).raise _

theorem walkRecord_sameBut (hold : ∀ p ∈ holdParts, p ∈ parts) (hb : .berths ∈ parts) (d : Nat) (a : Stamp) (b : Nat)
    (w : State × WalkCounts) : SameBut parts w.1 (walkRecord d a b w).1 := by
  have h1 : SameBut parts w.1 (if (w.1.booking b).feeDue d = true then postFee b w.1 else w.1) := by
    split
    · exact postFee_sameBut hold hb ..
    · exact .refl _ _
  unfold walkRecord
  dsimp only
  generalize (if (w.1.booking b).feeDue d = true then postFee b w.1 else w.1) = u at h1 ⊢
  have h2 : SameBut parts u
      (if (u.booking b).noShowDue w.1.bal.grace d = true then
        (closeBooking .noShow a b u).raise (.bookingNoShow b (u.booking b).berth) else u) := by
    split
    · exact (closeBooking_sameBut hb (hold .gates (by decide)) ..).raise _
    · exact .refl _ _
  generalize (if (u.booking b).noShowDue w.1.bal.grace d = true then
        (closeBooking .noShow a b u).raise (.bookingNoShow b (u.booking b).berth) else u) = v at h2 ⊢
  split
  · exact (h1.trans h2).trans (extendBooking_sameBut hb ..)
  · exact h1.trans h2

theorem walk_sameBut (hold : ∀ p ∈ holdParts, p ∈ parts) (hb : .berths ∈ parts) (d : Nat) (a : Stamp) (s : State) :
    SameBut parts s (walk d a s).1 := by
  unfold walk
  generalize (⟨0, 0, 0⟩ : WalkCounts) = c
  generalize List.range bookingCount = l
  induction l generalizing s c with
  | nil => exact .refl _ _
  | cons b rest ih => exact (walkRecord_sameBut hold hb d a b (s, c)).trans (ih _ _)

/-- A rollover works on the bookings and the accounts, and through them on the feeders, the line and the credentials; of the
clock it writes the last rollover day. -/
theorem rollOver_sameBut (hold : ∀ p ∈ holdParts, p ∈ parts) (hb : .berths ∈ parts) (src : RolloverSource) (a : Stamp)
    (d : Nat) (s : State) : SameBut parts (s.setClk { s.clk with lastRoll := d }) (rollOver src a d s) := by
  have h : SameBut parts (s.setClk { s.clk with lastRoll := d }) (purgeTides d (s.setClk { s.clk with lastRoll := d })) :=
    (SameBut.refl _ _).setTides hb _
  unfold rollOver
  exact (h.trans (walk_sameBut hold hb d a _)).raise _

end Sys2Proof.Machine
end

