-- ==== Sys2Proof/Laws/Link.lean ====
section
/-! SUPPORT. The link's shared operations: a notice entering the queue (R196), the transmit path (R195), and a request taken
at once (R194). -/

namespace Sys2Proof.Machine

/-! ## The transmit path -/

@[simp] theorem pump_sup (s : State) : (pump s).sup = s.sup := by unfold pump; split <;> rfl
@[simp] theorem pump_clk (s : State) : (pump s).clk = s.clk := by unfold pump; split <;> rfl
@[simp] theorem pump_bal (s : State) : (pump s).bal = s.bal := by unfold pump; split <;> rfl
@[simp] theorem pump_acu (s : State) : (pump s).acu = s.acu := by unfold pump; split <;> rfl
@[simp] theorem pump_pdl (s : State) : (pump s).pdl = s.pdl := by unfold pump; split <;> rfl
@[simp] theorem pump_far (s : State) : (pump s).far = s.far := by unfold pump; split <;> rfl
@[simp] theorem pump_fdc (s : State) : (pump s).fdc = s.fdc := by unfold pump; split <;> rfl
@[simp] theorem pump_gtc (s : State) : (pump s).gtc = s.gtc := by unfold pump; split <;> rfl
@[simp] theorem pump_pending (s : State) : (pump s).pending = s.pending := by unfold pump; split <;> rfl

/-- The frame the path begins, if any, is the reply or the oldest notice: the reply stays in the slot until it is sent. -/
theorem sendNotice_reply (h : Hlc) : (sendNotice h).slot.map (·.reply) = h.slot.map (·.reply) := by
  unfold sendNotice
  split
  · rfl
  · cases h.slot <;> rfl

theorem chooseFrame_reply (h : Hlc) : (chooseFrame h).slot.map (·.reply) = h.slot.map (·.reply) := by
  unfold chooseFrame
  repeat' split
  · rfl
  · exact sendNotice_reply h
  · rfl
  · exact sendNotice_reply h

@[simp] theorem pump_reply (s : State) : (pump s).reply = s.reply := by
  unfold pump State.reply
  split
  · exact chooseFrame_reply _
  · rfl

theorem sendNotice_outgoing (h : Hlc) (ht : h.tx = none) : (sendNotice h).outgoing = h.outgoing := by
  unfold sendNotice
  split
  · rfl
  · rename_i n rest hn
    simp [Hlc.outgoing, ht, hn]

theorem chooseFrame_outgoing (h : Hlc) (ht : h.tx = none) : (chooseFrame h).outgoing = h.outgoing := by
  unfold chooseFrame
  repeat' split
  · simp [Hlc.outgoing, ht]
  · exact sendNotice_outgoing h ht
  · rfl
  · exact sendNotice_outgoing h ht

/-- Beginning a frame moves a notice from the queue to the line, so what has still to leave stays the same. -/
@[simp] theorem pump_outgoing (s : State) : (pump s).hlc.outgoing = s.hlc.outgoing := by
  unfold pump
  split
  · rename_i h
    simp only [Bool.and_eq_true, Option.isNone_iff_eq_none] at h
    exact chooseFrame_outgoing _ h.2
  · rfl

/-- What a running part's event leads to. -/
theorem event_running {f : State → State} {s : State} (h : s.running = true) : event f s = pump (f s) := by
  simp [event, h]

theorem event_stopped {f : State → State} {s : State} (h : s.running = false) : event f s = s := by
  simp [event, h]

/-! ## Notices -/

theorem enterNotice_room (t : Stamp) (b : NoticeBody) (h : Hlc) (hr : h.notices.length < noticeCapacity) :
    (enterNotice t b h).notices = h.notices ++ [⟨t, b⟩] ∧ (enterNotice t b h).dropped = h.dropped := by
  unfold enterNotice
  rw [if_neg (by omega)]
  exact ⟨rfl, rfl⟩

theorem enterNotice_full (t : Stamp) (b : NoticeBody) (h : Hlc) (hr : noticeCapacity ≤ h.notices.length) :
    (enterNotice t b h).notices = h.notices ∧ (enterNotice t b h).dropped = true := by
  unfold enterNotice
  rw [if_pos hr]
  exact ⟨rfl, rfl⟩

theorem enterNotice_length (t : Stamp) (b : NoticeBody) (h : Hlc) (hr : h.notices.length ≤ noticeCapacity) :
    (enterNotice t b h).notices.length ≤ noticeCapacity := by
  unfold enterNotice
  split
  · exact hr
  · simp; omega

@[simp] theorem enterNotice_slot (t : Stamp) (b : NoticeBody) (h : Hlc) : (enterNotice t b h).slot = h.slot := by
  unfold enterNotice; split <;> rfl

@[simp] theorem enterNotice_tx (t : Stamp) (b : NoticeBody) (h : Hlc) : (enterNotice t b h).tx = h.tx := by
  unfold enterNotice; split <;> rfl

@[simp] theorem raise_sup (s : State) (b : NoticeBody) : (s.raise b).sup = s.sup := rfl
@[simp] theorem raise_clk (s : State) (b : NoticeBody) : (s.raise b).clk = s.clk := rfl
@[simp] theorem raise_bal (s : State) (b : NoticeBody) : (s.raise b).bal = s.bal := rfl
@[simp] theorem raise_acu (s : State) (b : NoticeBody) : (s.raise b).acu = s.acu := rfl
@[simp] theorem raise_pdl (s : State) (b : NoticeBody) : (s.raise b).pdl = s.pdl := rfl
@[simp] theorem raise_far (s : State) (b : NoticeBody) : (s.raise b).far = s.far := rfl
@[simp] theorem raise_fdc (s : State) (b : NoticeBody) : (s.raise b).fdc = s.fdc := rfl
@[simp] theorem raise_gtc (s : State) (b : NoticeBody) : (s.raise b).gtc = s.gtc := rfl
@[simp] theorem raise_pending (s : State) (b : NoticeBody) : (s.raise b).pending = s.pending := rfl
@[simp] theorem raise_slot (s : State) (b : NoticeBody) : (s.raise b).hlc.slot = s.hlc.slot := enterNotice_slot ..

theorem outgoing_of_notices {h k : Hlc} (ht : k.tx = h.tx) {l : List Notice} (hn : k.notices = h.notices ++ l) :
    k.outgoing = h.outgoing ++ l := by
  unfold Hlc.outgoing
  rw [ht, hn]
  cases h.tx with
  | none => rfl
  | some x => cases x <;> rfl

/-- A state whose queue is the other's gives the notice it raises. -/
theorem raises_raise {s t : State} (b : NoticeBody) (hk : t.hlc = s.hlc) (hc : t.clk = s.clk) :
    Raises [b] s (t.raise b) := by
  intro hr
  have h := (enterNotice_room t.now b t.hlc (by rw [hk]; simp at hr; omega)).1
  have hn : t.now = s.now := by simp [State.now, hc]
  refine outgoing_of_notices ?_ ?_
  · show (enterNotice t.now b t.hlc).tx = _
    rw [enterNotice_tx, hk]
  · show (enterNotice t.now b t.hlc).notices = _
    rw [h, hk, hn]; rfl

theorem raises_pump {l : List NoticeBody} {s t : State} (h : Raises l s t) : Raises l s (pump t) := by
  intro hr; rw [pump_outgoing]; exact h hr

theorem raises_nil {s t : State} (h : t.hlc.outgoing = s.hlc.outgoing) : Raises [] s t := by
  intro _; simp [h]

/-! ## Requests -/

/-- A request taken at once. -/
theorem request_taken {i : Instr} {r : RawRequest} {owner : State → State × Answer} {s : State}
    (he : encodeRequest i = some r) (h : s.takes = true) :
    request i owner s = pump (takeRequest r.kind r.tag owner s) := by
  simp only [State.takes, Bool.and_eq_true] at h
  simp [request, he, event, h.1.1, h.1.2, h.2]

@[simp] theorem takeRequest_sup (k g : Nat) (o : State → State × Answer) (s : State) :
    (takeRequest k g o s).sup = (o s).1.sup := rfl
@[simp] theorem takeRequest_clk (k g : Nat) (o : State → State × Answer) (s : State) :
    (takeRequest k g o s).clk = (o s).1.clk := rfl
@[simp] theorem takeRequest_bal (k g : Nat) (o : State → State × Answer) (s : State) :
    (takeRequest k g o s).bal = (o s).1.bal := rfl
@[simp] theorem takeRequest_acu (k g : Nat) (o : State → State × Answer) (s : State) :
    (takeRequest k g o s).acu = (o s).1.acu := rfl
@[simp] theorem takeRequest_pdl (k g : Nat) (o : State → State × Answer) (s : State) :
    (takeRequest k g o s).pdl = (o s).1.pdl := rfl
@[simp] theorem takeRequest_far (k g : Nat) (o : State → State × Answer) (s : State) :
    (takeRequest k g o s).far = (o s).1.far := rfl
@[simp] theorem takeRequest_fdc (k g : Nat) (o : State → State × Answer) (s : State) :
    (takeRequest k g o s).fdc = (o s).1.fdc := rfl
@[simp] theorem takeRequest_gtc (k g : Nat) (o : State → State × Answer) (s : State) :
    (takeRequest k g o s).gtc = (o s).1.gtc := rfl
@[simp] theorem takeRequest_pending (k g : Nat) (o : State → State × Answer) (s : State) :
    (takeRequest k g o s).pending = (o s).1.pending := rfl
@[simp] theorem takeRequest_reply (k g : Nat) (o : State → State × Answer) (s : State) :
    (takeRequest k g o s).reply = some ⟨k, g, (o s).2⟩ := rfl
@[simp] theorem takeRequest_outgoing (k g : Nat) (o : State → State × Answer) (s : State) :
    (takeRequest k g o s).hlc.outgoing = (o s).1.hlc.outgoing := rfl

/-- A request's owner works on some blocks: so does the request, which else writes the link's slot and transmit path. -/
theorem taken_sameBut {parts : List Part} {o : State → State × Answer} (k g : Nat) {s : State}
    (h : SameBut parts s (o s).1) : SameBut parts s (pump (takeRequest k g o s)) :=
  (takeRequest_sameBut k g h).trans (pump_sameBut _)

/-- The rows of a put with one row. -/
theorem multiPut_one {α : Type} {row : Nat → α → State → Except Status State} {most start : Nat} {x : α} {s t : State}
    (hm : 1 ≤ most) (h : row start x s = .ok t) : multiPut most start row [.row x] s = (t, rowsWritten 1) := by
  have : within 1 most 1 = true := by simp [within, hm]
  simp [multiPut, this, putRows, h, rowsWritten]

/-- Checks none of which fails let a request act. -/
theorem checked_pass {checks : List (Bool × Status)} {act : State → State × Answer} {s : State}
    (h : ∀ c ∈ checks, c.1 = false) : checked checks act s = act s := by
  have hn : firstFailing checks = none := by
    induction checks with
    | nil => rfl
    | cons c rest ih =>
      obtain ⟨b, code⟩ := c
      have hb : b = false := h (b, code) (List.mem_cons_self ..)
      subst hb
      exact ih fun c hc => h c (List.mem_cons_of_mem _ hc)
  simp [checked, hn]

/-! ## Readings -/

/-- A sale's amount that its four bytes hold is sent as it is. -/
theorem amountField_of_lt {v : Nat} (h : v < 4294967296) : amountField v = .u 4 v := by simp [amountField, h]

/-- A tick changes the clock unit and, where the backup supply is absent under main power, its reading: nothing else. -/
theorem tick_sup (s : State) : (tick s).sup = readBackup s.sup := rfl

theorem tick_rest (s : State) : tick s = { s with sup := (tick s).sup, clk := (tick s).clk } := rfl

/-- Reading the backup supply again touches its presence and the count of readings alone, and leaves a supply that is present
as it is. -/
theorem readBackup_rest (u : Supply) :
    readBackup u = { u with backup := (readBackup u).backup, backupReads := (readBackup u).backupReads } := by
  unfold readBackup; split <;> rfl

theorem readBackup_of_present {u : Supply} (h : u.backup = true) : readBackup u = u := by simp [readBackup, h]

theorem readBackup_of_absent {u : Supply} (hm : u.main = true) (hb : u.backup = false) :
    (readBackup u).backup = Config.backupReturned u.backupReads := by simp [readBackup, hm, hb]

end Sys2Proof.Machine
end

