-- ==== Sys2Proof/Laws/Tables.lean ====
section
/-! SUPPORT. Tables: an entry that was written reads back, every other entry reads as before, and a write keeps the
table's form (log entry 3); the same for each record of the state. -/

namespace Sys2Proof.Machine

variable {α : Type}

theorem tableGet_tableErase (d : α) (t : Table α) (i j : Nat) :
    tableGet d (tableErase t i) j = if j = i then d else tableGet d t j := by
  induction t with
  | nil => simp [tableErase, tableGet]
  | cons e rest ih =>
    obtain ⟨k, v⟩ := e
    by_cases hk : k = i
    · subst hk
      simp only [tableErase, if_true, ih, tableGet]
      by_cases hj : j = k
      · simp [hj]
      · simp [hj, Ne.symm hj]
    · simp only [tableErase, hk, if_false, tableGet, ih]
      by_cases hj : j = i
      · subst hj; simp [hk]
      · simp [hj]

theorem tableGet_tableInsert (d : α) (t : Table α) (i j : Nat) (x : α) :
    tableGet d (tableInsert t i x) j = if j = i then x else tableGet d t j := by
  induction t with
  | nil =>
    by_cases hj : j = i
    · simp [tableInsert, tableGet, hj]
    · simp [tableInsert, tableGet, hj, Ne.symm hj]
  | cons e rest ih =>
    obtain ⟨k, v⟩ := e
    simp only [tableInsert]
    split
    · by_cases hj : j = i
      · simp [tableGet, hj]
      · simp [tableGet, hj, Ne.symm hj]
    · split
      · rename_i hk
        subst hk
        by_cases hj : j = k
        · simp [tableGet, hj]
        · simp [tableGet, hj, Ne.symm hj]
      · rename_i hk
        simp only [tableGet, ih]
        by_cases hj : j = i
        · subst hj; simp [hk]
        · simp [hj]

/-- Reading a table after a write: the entry written, or what stood there. -/
theorem tableGet_tableSet [DecidableEq α] (d : α) (t : Table α) (i j : Nat) (x : α) :
    tableGet d (tableSet d t i x) j = if j = i then x else tableGet d t j := by
  unfold tableSet
  split
  · rename_i h; rw [tableGet_tableErase, h]
  · rw [tableGet_tableInsert]

/-- The keys of a table lie above a bound. -/
def keysAbove (n : Nat) (t : Table α) : Prop := ∀ e ∈ t, n < e.1

theorem tableOk_cons [DecidableEq α] (d : α) (k : Nat) (v : α) (t : Table α) :
    tableOk d ((k, v) :: t) = true ↔ v ≠ d ∧ keysAbove k t ∧ tableOk d t = true := by
  induction t generalizing k v with
  | nil => simp [tableOk, keysAbove]
  | cons e rest ih =>
    obtain ⟨l, w⟩ := e
    have hl := ih l w
    simp only [tableOk, Bool.and_eq_true, decide_eq_true_eq]
    constructor
    · rintro ⟨⟨hkl, hv⟩, ht⟩
      refine ⟨hv, ?_, ht⟩
      intro e he
      rcases List.mem_cons.1 he with rfl | he
      · exact hkl
      · exact Nat.lt_trans hkl ((hl.1 ht).2.1 e he)
    · rintro ⟨hv, hk, ht⟩
      exact ⟨⟨hk (l, w) (List.mem_cons_self ..), hv⟩, ht⟩

theorem mem_tableErase {t : Table α} {i : Nat} {e : Nat × α} (h : e ∈ tableErase t i) : e ∈ t := by
  induction t with
  | nil => simp [tableErase] at h
  | cons f rest ih =>
    obtain ⟨k, v⟩ := f
    simp only [tableErase] at h
    split at h
    · exact List.mem_cons_of_mem _ (ih h)
    · rcases List.mem_cons.1 h with rfl | h
      · exact List.mem_cons_self ..
      · exact List.mem_cons_of_mem _ (ih h)

theorem mem_tableInsert {t : Table α} {i : Nat} {x : α} {e : Nat × α} (h : e ∈ tableInsert t i x) :
    e = (i, x) ∨ e ∈ t := by
  induction t with
  | nil => simpa [tableInsert] using h
  | cons f rest ih =>
    obtain ⟨k, v⟩ := f
    simp only [tableInsert] at h
    split at h
    · rcases List.mem_cons.1 h with rfl | h
      · exact .inl rfl
      · exact .inr h
    · split at h
      · rcases List.mem_cons.1 h with rfl | h
        · exact .inl rfl
        · exact .inr (List.mem_cons_of_mem _ h)
      · rcases List.mem_cons.1 h with rfl | h
        · exact .inr (List.mem_cons_self ..)
        · rcases ih h with rfl | h
          · exact .inl rfl
          · exact .inr (List.mem_cons_of_mem _ h)

theorem tableOk_tableErase [DecidableEq α] (d : α) (t : Table α) (i : Nat) (h : tableOk d t = true) :
    tableOk d (tableErase t i) = true := by
  induction t with
  | nil => exact h
  | cons e rest ih =>
    obtain ⟨k, v⟩ := e
    obtain ⟨hv, hk, hr⟩ := (tableOk_cons d k v rest).1 h
    simp only [tableErase]
    split
    · exact ih hr
    · exact (tableOk_cons ..).2 ⟨hv, fun e he => hk e (mem_tableErase he), ih hr⟩

theorem tableOk_tableInsert [DecidableEq α] (d : α) (t : Table α) (i : Nat) (x : α) (hx : x ≠ d)
    (h : tableOk d t = true) : tableOk d (tableInsert t i x) = true := by
  induction t with
  | nil => simp [tableInsert, tableOk, hx]
  | cons e rest ih =>
    obtain ⟨k, v⟩ := e
    obtain ⟨hv, hk, hr⟩ := (tableOk_cons d k v rest).1 h
    simp only [tableInsert]
    split
    · rename_i hi
      refine (tableOk_cons ..).2 ⟨hx, ?_, h⟩
      intro e he
      rcases List.mem_cons.1 he with rfl | he
      · exact hi
      · exact Nat.lt_trans hi (hk e he)
    · split
      · rename_i hki
        subst hki
        exact (tableOk_cons ..).2 ⟨hx, hk, hr⟩
      · refine (tableOk_cons ..).2 ⟨hv, ?_, ih hr⟩
        intro e he
        rcases mem_tableInsert he with rfl | he
        · dsimp only; omega
        · exact hk e he

/-- A write keeps the table's form. -/
theorem tableOk_tableSet [DecidableEq α] (d : α) (t : Table α) (i : Nat) (x : α) (h : tableOk d t = true) :
    tableOk d (tableSet d t i x) = true := by
  unfold tableSet
  split
  · exact tableOk_tableErase d t i h
  · rename_i hx
    exact tableOk_tableInsert d t i x hx h

/-! ## The records of the state -/

@[simp] theorem State.berth_setBerth (s : State) (i j : Nat) (x : Berth) :
    (s.setBerth i x).berth j = if j = i then x else s.berth j := tableGet_tableSet ..

@[simp] theorem State.booking_setBooking (s : State) (i j : Nat) (x : Booking) :
    (s.setBooking i x).booking j = if j = i then x else s.booking j := tableGet_tableSet ..

@[simp] theorem State.account_setAccount (s : State) (i j : Nat) (x : Account) :
    (s.setAccount i x).account j = if j = i then x else s.account j := tableGet_tableSet ..

@[simp] theorem State.tariff_setTariff (s : State) (i j : Nat) (x : Tariff) :
    (s.setTariff i x).tariff j = if j = i then x else s.tariff j := tableGet_tableSet ..

@[simp] theorem State.socketAcct_setSocketAcct (s : State) (i j : Nat) (x : SocketAcct) :
    (s.setSocketAcct i x).socketAcct j = if j = i then x else s.socketAcct j := tableGet_tableSet ..

@[simp] theorem State.tapResidue_setTapResidue (s : State) (i j : Nat) (x : Nat) :
    (s.setTapResidue i x).tapResidue j = if j = i then x else s.tapResidue j := tableGet_tableSet ..

@[simp] theorem State.pedestal_setPedestal (s : State) (i j : Nat) (x : PedestalCfg) :
    (s.setPedestal i x).pedestal j = if j = i then x else s.pedestal j := tableGet_tableSet ..

@[simp] theorem State.link_setLink (s : State) (i j : Nat) (x : PedestalLink) :
    (s.setLink i x).link j = if j = i then x else s.link j := tableGet_tableSet ..

@[simp] theorem State.socketCfg_setSocketCfg (s : State) (i j : Nat) (x : SocketCfg) :
    (s.setSocketCfg i x).socketCfg j = if j = i then x else s.socketCfg j := tableGet_tableSet ..

@[simp] theorem State.tapCfg_setTapCfg (s : State) (i j : Nat) (x : TapCfg) :
    (s.setTapCfg i x).tapCfg j = if j = i then x else s.tapCfg j := tableGet_tableSet ..

@[simp] theorem State.socketMeter_setSocketMeter (s : State) (i j : Nat) (x : Meter) :
    (s.setSocketMeter i x).socketMeter j = if j = i then x else s.socketMeter j := tableGet_tableSet ..

@[simp] theorem State.tapMeter_setTapMeter (s : State) (i j : Nat) (x : Meter) :
    (s.setTapMeter i x).tapMeter j = if j = i then x else s.tapMeter j := tableGet_tableSet ..

@[simp] theorem State.report_setReport (s : State) (i j : Nat) (x : Option SocketReport) :
    (s.setReport i x).report j = if j = i then x else s.report j := tableGet_tableSet ..

@[simp] theorem State.run_setRun (s : State) (i j : Nat) (x : Option TapRun) :
    (s.setRun i x).run j = if j = i then x else s.run j := tableGet_tableSet ..

@[simp] theorem State.ack_setAck (s : State) (i j : Nat) (x : Bool) :
    (s.setAck i x).ack j = if j = i then x else s.ack j := tableGet_tableSet ..

@[simp] theorem State.socket_setSocket (s : State) (i j : Nat) (x : Socket) :
    (s.setSocket i x).socket j = if j = i then x else s.socket j := tableGet_tableSet ..

@[simp] theorem State.feederCfg_setFeederCfg (s : State) (i j : Nat) (x : FeederCfg) :
    (s.setFeederCfg i x).feederCfg j = if j = i then x else s.feederCfg j := tableGet_tableSet ..

@[simp] theorem State.feeder_setFeeder (s : State) (i j : Nat) (x : Feeder) :
    (s.setFeeder i x).feeder j = if j = i then x else s.feeder j := tableGet_tableSet ..

@[simp] theorem State.hoseCfg_setHoseCfg (s : State) (i j : Nat) (x : HoseCfg) :
    (s.setHoseCfg i x).hoseCfg j = if j = i then x else s.hoseCfg j := tableGet_tableSet ..

@[simp] theorem State.hose_setHose (s : State) (i j : Nat) (x : Hose) :
    (s.setHose i x).hose j = if j = i then x else s.hose j := tableGet_tableSet ..

@[simp] theorem State.price_setPrice (s : State) (i j : Nat) (x : Nat) :
    (s.setPrice i x).price j = if j = i then x else s.price j := tableGet_tableSet ..

@[simp] theorem State.cred_setCred (s : State) (i j : Nat) (x : Cred) :
    (s.setCred i x).cred j = if j = i then x else s.cred j := tableGet_tableSet ..

@[simp] theorem State.gate_setGate (s : State) (i j : Nat) (x : Gate) :
    (s.setGate i x).gate j = if j = i then x else s.gate j := tableGet_tableSet ..

@[simp] theorem State.terminal_setTerminal (s : State) (i j : Nat) (x : Terminal) :
    (s.setTerminal i x).terminal j = if j = i then x else s.terminal j := tableGet_tableSet ..

@[simp] theorem State.nozzle_setNozzle (s : State) (i j : Nat) (x : Bool) :
    (s.setNozzle i x).nozzle j = if j = i then x else s.nozzle j := tableGet_tableSet ..

@[simp] theorem State.contact_setContact (s : State) (i j : Nat) (x : Bool) :
    (s.setContact i x).contact j = if j = i then x else s.contact j := tableGet_tableSet ..

/-- Gate `i`'s cold-start entry is its own (R162), so a write of one gate's entry leaves what the other gates read. -/
@[simp] theorem State.gateCfg_setGateCfg (s : State) (i j : Nat) (x : GateCfg) :
    (s.setGateCfg i x).gateCfg j = if j = i then x else s.gateCfg j := by
  by_cases h : j = i
  · subst h; simp [State.gateCfg, State.setGateCfg, tableGet_tableSet]
  · simp only [State.gateCfg, State.setGateCfg, tableSet, h, if_false]
    split
    · rw [tableGet_tableErase, if_neg h]
    · rw [tableGet_tableInsert, if_neg h]

end Sys2Proof.Machine
end

