-- ==== Sys2Proof/Tests/Slice0.lean ====
section
/-! SUPPORT. The row's own tests: a term for each check of well-formedness, the manual's worked examples, one or two
commands of each family on a small state, and for each statement with hypotheses a state and operands that meet them. -/

open Sys2Proof Sys2Proof.Machine

namespace Sys2Proof.Tests

set_option maxRecDepth 20000

/-! ## Well-formedness: an ill-formed term for each check, which the check refuses -/

theorem test_wellFormed_refuses_link : (([
  .requestUnknownKind 256 0, .requestUnknownKind 0xE0 256, .requestUnknownKind 0x01 0, .status 256, .restart 256,
  .sitePut 256 [.badItem], .sitePut 0 [], .sitePut 0 (List.replicate 17 .badItem), .sitePut 0 [.row ⟨9, 0⟩],
  .sitePut 0 [.row ⟨0, 2147483648⟩], .sitePut 0 [.row ⟨0, -2147483649⟩], .siteGet 256 [],
  .siteGet 0 (List.replicate 17 0), .siteGet 0 [9], .clockSet 256 0 0, .clockSet 0 65536 0, .clockSet 0 0 16777216,
  .clockGet 256] : List Instr).all fun i => !i.wf) = true := by
  decide

theorem test_wellFormed_refuses_berths : (([
  .berthPut 256 0 [.badItem], .berthPut 0 256 [.badItem], .berthPut 0 0 (List.replicate 16 .badItem),
  .berthPut 0 0 [.row ⟨256, 0, false, 0, 0, 0, 0, 0⟩], .berthPut 0 0 [.row ⟨1, 256, false, 0, 0, 0, 0, 0⟩],
  .berthPut 0 0 [.row ⟨1, 0, false, 256, 0, 0, 0, 0⟩], .berthPut 0 0 [.row ⟨1, 0, false, 0, 65536, 0, 0, 0⟩],
  .berthPut 0 0 [.row ⟨1, 0, false, 0, 0, 65536, 0, 0⟩], .berthPut 0 0 [.row ⟨1, 0, false, 0, 0, 0, 65536, 0⟩],
  .berthPut 0 0 [.row ⟨1, 0, false, 0, 0, 0, 0, 4294967296⟩], .berthGet 256 (.entries 0 1),
  .berthGet 0 (.entries 256 1), .berthGet 0 (.entries 0 256), .berthGet 0 (.calendar 256 0),
  .berthGet 0 (.calendar 0 65536), .tidePut 256 [.badItem], .tidePut 0 [], .tidePut 0 [.row ⟨65536, none⟩],
  .tidePut 0 [.row ⟨0, some 32768⟩], .tideGet 256 0 1, .tideGet 0 65536 1, .tideGet 0 0 256] : List Instr).all fun i => !i.wf) = true := by
  decide

theorem test_wellFormed_refuses_bookings : (([
  .bookAlloc 256 ⟨1, 142, 44, 210, 100, 103⟩ 0, .bookAlloc 0 ⟨1, 142, 44, 210, 100, 103⟩ 256,
  .bookAlloc 0 ⟨256, 142, 44, 210, 100, 103⟩ 0, .bookAlloc 0 ⟨1, 65536, 44, 210, 100, 103⟩ 0,
  .bookAlloc 0 ⟨1, 142, 65536, 210, 100, 103⟩ 0, .bookAlloc 0 ⟨1, 142, 44, 65536, 100, 103⟩ 0,
  .bookAlloc 0 ⟨1, 142, 44, 210, 65536, 103⟩ 0, .bookAlloc 0 ⟨1, 142, 44, 210, 100, 65536⟩ 0,
  .bookFixed 256 ⟨1, 142, 44, 210, 100, 103⟩ 0 false, .bookFixed 0 ⟨1, 142, 44, 210, 100, 103⟩ 256 false,
  .bookFixed 0 ⟨256, 142, 44, 210, 100, 103⟩ 0 false, .bookFixedIndex 256 0 0 false, .bookFixedIndex 0 65536 0 false,
  .bookFixedIndex 0 0 256 false, .bookPlace 256 0 0, .bookPlace 0 65536 0, .bookPlace 0 0 256, .bookArrive 256 0,
  .bookArrive 0 65536, .bookChange 256 0 0, .bookChange 0 65536 0, .bookChange 0 0 65536, .bookDepart 256 0,
  .bookDepart 0 65536, .bookCancel 256 0, .bookCancel 0 65536, .bookGet 256 0 1, .bookGet 0 65536 1, .bookGet 0 0 256] : List Instr).all fun i => !i.wf) = true := by
  decide

theorem test_wellFormed_refuses_accounts : (([
  .acctOpen 256 1 0, .acctOpen 0 256 0, .acctOpen 0 1 4294967296, .acctPay 256 1 1, .acctPay 0 256 1,
  .acctPay 0 1 140737488355328, .acctLimit 256 1 0, .acctLimit 0 256 0, .acctLimit 0 1 4294967296, .acctClose 256 1,
  .acctClose 0 256, .acctGet 256 0 1, .acctGet 0 256 1, .acctGet 0 0 256, .tariffPut 256 0 [.badItem],
  .tariffPut 0 256 [.badItem], .tariffPut 0 0 [], .tariffPut 0 0 [.row ⟨65536, 0, 0⟩],
  .tariffPut 0 0 [.row ⟨0, 65536, 0⟩], .tariffPut 0 0 [.row ⟨0, 0, 65536⟩], .tariffGet 256 0 1, .tariffGet 0 256 1,
  .tariffGet 0 0 256] : List Instr).all fun i => !i.wf) = true := by
  decide

theorem test_wellFormed_refuses_line : (([
  .pedestalPut 256 1 [.badItem], .pedestalPut 0 256 [.badItem], .pedestalPut 0 1 [],
  .pedestalPut 0 1 [.row ⟨true, 256⟩], .pedestalGet 256 1 1, .pedestalGet 0 256 1, .pedestalGet 0 1 256,
  .socketPut 256 0 [.badItem], .socketPut 0 256 [.badItem], .socketPut 0 0 [],
  .socketPut 0 0 [.row ⟨some 256, 16, 0, 0⟩], .socketPut 0 0 [.row ⟨none, 256, 0, 0⟩],
  .socketPut 0 0 [.row ⟨none, 16, 256, 0⟩], .socketPut 0 0 [.row ⟨none, 16, 0, 256⟩], .tapPut 256 0 [.badItem],
  .tapPut 0 256 [.badItem], .tapPut 0 0 [], .tapPut 0 0 [.row ⟨some 256, 0, 1⟩], .tapPut 0 0 [.row ⟨none, 256, 1⟩],
  .tapPut 0 0 [.row ⟨none, 0, 256⟩], .tapClose 256 0, .tapClose 0 256, .tapRunLimit 128, .tapNoFlow 128] : List Instr).all fun i => !i.wf) = true := by
  decide

theorem test_wellFormed_refuses_feeders : (([
  .feederPut 256 1 [.badItem], .feederPut 0 256 [.badItem], .feederPut 0 1 [],
  .feederPut 0 1 [.row ⟨65536, 100, 3, 4, 0, 10⟩], .feederPut 0 1 [.row ⟨0, 256, 3, 4, 0, 10⟩],
  .feederPut 0 1 [.row ⟨0, 100, 256, 4, 0, 10⟩], .feederPut 0 1 [.row ⟨0, 100, 3, 256, 0, 10⟩],
  .feederPut 0 1 [.row ⟨0, 100, 3, 4, 256, 10⟩], .feederPut 0 1 [.row ⟨0, 100, 3, 4, 0, 256⟩], .feederGet 256 1 1,
  .feederGet 0 256 1, .feederGet 0 1 256, .feederBottom 256 1 0 0, .feederBottom 0 256 0 0, .feederBottom 0 1 256 0,
  .feederBottom 0 1 0 256, .feederPoll 256 1, .feederPoll 0 256, .feederShed 256 1 1, .feederShed 0 256 1,
  .feederShed 0 1 256, .socketRelease 256 0, .socketRelease 0 256, .socketLock 256 0, .socketLock 0 256,
  .socketUnlock 256 0, .socketUnlock 0 256, .socketRearm 256 0, .socketRearm 0 256, .holdOffExpiry 256] : List Instr).all fun i => !i.wf) = true := by
  decide

theorem test_wellFormed_refuses_fuel : (([
  .hosePut 256 1 [.badItem], .hosePut 0 256 [.badItem], .hosePut 0 1 [],
  .hosePut 0 1 [.row ⟨256, 10000, 50, 120, 60, 1000⟩], .hosePut 0 1 [.row ⟨1, 65536, 50, 120, 60, 1000⟩],
  .hosePut 0 1 [.row ⟨1, 10000, 4294967296, 120, 60, 1000⟩], .hosePut 0 1 [.row ⟨1, 10000, 50, 65536, 60, 1000⟩],
  .hosePut 0 1 [.row ⟨1, 10000, 50, 120, 65536, 1000⟩], .hosePut 0 1 [.row ⟨1, 10000, 50, 120, 60, 4294967296⟩],
  .hoseGet 256 1 1, .hoseGet 0 256 1, .hoseGet 0 1 256, .hoseAuth 256 ⟨1, 2, none, none, 0, none⟩,
  .hoseAuth 0 ⟨256, 2, none, none, 0, none⟩, .hoseAuth 0 ⟨1, 256, none, none, 0, none⟩,
  .hoseAuth 0 ⟨1, 0, some 256, none, 0, none⟩, .hoseAuth 0 ⟨1, 1, none, some 4294967296, 0, none⟩,
  .hoseAuth 0 ⟨1, 2, none, none, 256, none⟩, .hoseAuth 0 ⟨1, 2, none, none, 1, some 4294967296⟩, .hoseStop 256 1,
  .hoseStop 0 256, .pricePut 256 1 [.badItem], .pricePut 0 256 [.badItem], .pricePut 0 1 [],
  .pricePut 0 1 [.row 4294967296], .priceGet 256, .salePeek 256 none, .salePeek 0 (some 65536), .saleTake 256 none,
  .saleTake 0 (some 65536), .nozzleLift 0, .nozzleHang 5, .pulse 0, .authTimeout 5, .noFlow 0] : List Instr).all fun i => !i.wf) = true := by
  decide

theorem test_wellFormed_refuses_credentials : (([
  .credPut 256 0 [.badItem], .credPut 0 65536 [.badItem], .credPut 0 0 [],
  .credPut 0 0 [.row ⟨256, 0, none, none, none, none, 0, false, false, false, none, none, none⟩],
  .credPut 0 0 [.row ⟨1, 256, none, none, none, none, 0, false, false, false, none, none, none⟩],
  .credPut 0 0 [.row ⟨1, 0, some 4294967296, none, none, none, 0, false, false, false, none, none, none⟩],
  .credPut 0 0 [.row ⟨1, 1, none, some (List.replicate 9 0), none, none, 0, false, false, false, none, none, none⟩],
  .credPut 0 0 [.row ⟨1, 1, none, some [16], none, none, 0, false, false, false, none, none, none⟩],
  .credPut 0 0 [.row ⟨1, 0, some 1, none, some 65536, none, 0, false, false, false, none, none, none⟩],
  .credPut 0 0 [.row ⟨1, 0, some 1, none, none, some 256, 0, false, false, false, none, none, none⟩],
  .credPut 0 0 [.row ⟨1, 0, some 1, none, none, none, 256, false, false, false, none, none, none⟩],
  .credPut 0 0 [.row ⟨1, 0, some 1, none, none, none, 0, false, false, false, some ⟨65536, 0⟩, none, none⟩],
  .credPut 0 0 [.row ⟨1, 0, some 1, none, none, none, 0, false, false, false, none, some ⟨0, 16777216⟩, none⟩],
  .credPut 0 0 [.row ⟨1, 0, some 1, none, none, none, 0, false, false, false, none, none, some 256⟩],
  .credGet 256 (.entries 0 1), .credGet 0 (.entries 65536 1), .credGet 0 (.entries 0 256),
  .credGet 0 (.token 4294967296), .credSuspend 256 0, .credSuspend 0 65536, .credResume 256 0, .credResume 0 65536,
  .credFree 256 0, .credFree 0 65536] : List Instr).all fun i => !i.wf) = true := by
  decide

theorem test_wellFormed_refuses_gates : (([
  .gatePut 256 1 [.badItem], .gatePut 0 256 [.badItem], .gatePut 0 1 [], .gatePut 0 1 [.row ⟨256, 0, false, 5, 60⟩],
  .gatePut 0 1 [.row ⟨1, 256, false, 5, 60⟩], .gatePut 0 1 [.row ⟨1, 0, false, 256, 60⟩],
  .gatePut 0 1 [.row ⟨1, 0, false, 5, 65536⟩], .gateGet 256 1 1, .gateGet 0 256 1, .gateGet 0 1 256,
  .gateMode 256 1 0, .gateMode 0 256 0, .gateMode 0 1 256, .gatePulse 256 1, .gatePulse 0 256, .keyEvent 0 0,
  .keyEvent 8 0, .keyEvent 1 12, .interKeyTimeout 8, .lockoutExpiry 0, .cardRead 8 false 0, .cardRead 7 true 0,
  .cardRead 1 false 4294967296, .cardWindowExpiry 7, .doorContact 0 true, .releaseTimeout 7, .heldTimeout 0,
  .exitButton 7, .keypadFullScan 8 .none, .keypadFullScan 1 (.one 12)] : List Instr).all fun i => !i.wf) = true := by
  decide

/-! ## Helpers: the reset state with one block changed -/

/-- The state after a command. -/
def after (i : Instr) (s : State) : State :=
  match exec i s with
  | .next t => t
  | .fault _ => s
  | .refused _ => s

/-- The answer in the reply slot after a command. -/
def answerTo (i : Instr) (s : State) : Option Answer := (after i s).reply.map (·.answer)

def withSup (f : Supply → Supply) : State := { State.reset with sup := f State.reset.sup }
def withHlc (f : Hlc → Hlc) : State := { State.reset with hlc := f State.reset.hlc }
def withClk (f : Clk → Clk) : State := { State.reset with clk := f State.reset.clk }
def withBal (f : Bal → Bal) : State := { State.reset with bal := f State.reset.bal }
def withAcu (f : Acu → Acu) : State := { State.reset with acu := f State.reset.acu }
def withPdl (f : Pdl → Pdl) : State := { State.reset with pdl := f State.reset.pdl }
def withFdc (f : Fdc → Fdc) : State := { State.reset with fdc := f State.reset.fdc }
def withGtc (f : Gtc → Gtc) : State := { State.reset with gtc := f State.reset.gtc }

/-- The clock set to a day and a second, with a last rollover day. -/
def clockAt (day sec last : Nat) (c : Clk) : Clk := { c with day, sec, lastRoll := last, isSet := true }

/-- A booking of account 1 for the nights 100 to 102 in a state, on a berth or none. -/
def bookingIn (state : BookState) (berth : Option Nat) : Booking :=
  { coldBooking with state, account := 1, berth, loa := 142, beam := 44, draught := 210, arr := 100, dep := 103 }

/-- The clock at 18:00 of day 100, and booking 0 in a state. -/
def bookingState (state : BookState) (berth : Option Nat) : State :=
  { withBal (fun b => { b with bookings := [(0, bookingIn state berth)] }) with
    clk := clockAt 100 64800 100 State.reset.clk
    acu := { State.reset.acu with accounts := [(0, coldHouse), (1, ⟨.opened, 0, 1000, 0⟩)] } }

/-- An OPEN sale record of 10 cL so far, with a volume limit. -/
def openSale (volLimit : Nat) : Sale :=
  { number := 7, hose := 1, grade := 1, price := 1879, p10 := 1000, mode := .house, account := none, prepaid := none,
    cred := none, presetKind := .none, presetValue := none, maxAmount := 5000, volLimit, startTime := ⟨0, 0⟩,
    endTime := none, pulses := 10, volume := 10, overrun := none, amount := none, charged := none, refund := none,
    reason := none, done := false }

/-- Hose 1 in a state with that sale, the price of its grade set. -/
def hoseState (state : HoseState) (volLimit : Nat) : State :=
  withFdc fun f => { f with
    hoses := [(1, { startHose with state, lifted := true, sale := some 7 })], sales := [openSale volLimit],
    prices := [(1, 1879)] }

/-- Gate 3 with its door in a state. -/
def gateState (door : DoorState) (mode : GateMode) : State :=
  withGtc fun g => { g with
    cfg := [(3, { coldGateCfg 3 with mode, exitReader := true, antiPassback := .soft })]
    gates := [(3, { startGate with door, attributed := some 330, direction := some .entry, heldTimer := some ⟨0, 60⟩ })]
    creds := [(330, { coldCred with
      state := .active, token := some 777, account := some 0, gateSet := 63, fuel := true, location := .pontoon })] }

/-- Terminals 3 and 7, each with a buffer and, where one is given, a pending card of credential 330. -/
def terminalState (kind : CredKind) (buffer : List Nat) (card : Option PendingCard) (window : Window) : State :=
  let k : Terminal := { startTerminal with buffer, keySince := some 0, card }
  withGtc fun g => { g with
    creds := [(330, { coldCred with
      state := .active, kind, token := some 777, pin := some [0, 1, 2, 3], account := some 0, gateSet := 63, fuel := true })]
    terminals := [(3, k), (7, k)]
    fuel := { g.fuel with window } }

/-- Socket 0, of berth 5 on feeder 1 with a limit of 700 dA, with a dynamic record. -/
def feederState (k : Socket) : State :=
  { State.reset with
    pdl := { State.reset.pdl with sockets := [(0, ⟨some 5, 16, 3, 0⟩)], reports := [(0, some ⟨true, true, false, 100⟩)] }
    far := { State.reset.far with
      sockets := [(0, k)], cfg := [(1, { coldFeederCfg with limit := 700 })]
      feeders := [(1, { startFeeder with reserved := k.reservation.getD 0, measured := 701 })] } }

def grantedSocket : Socket :=
  { startSocket with state := .granted, reservation := some 160, stamp := some 1, confirm := some 0 }
def energisedSocket : Socket := { grantedSocket with state := .energised, confirm := none }
def shedSocket : Socket := { startSocket with state := .shed, shedSource := some .feeder, holdOffEnd := some 1 }
def lockedSocket : Socket := { startSocket with state := .locked }

/-- The feeder states of the tests meet the feeders' invariant. -/
theorem feederState_sound (k : Socket) (h : k.reservation.isSome = k.supplied) (hk : k ≠ startSocket)
    (hl : k.reservation.getD 0 ≤ 700) : FeedersSound (feederState k) where
  sockets := by simp [feederState, tableOk, hk]
  static := by simp [feederState, tableOk, coldSocketCfg]
  held n := by
    by_cases hn : n = 0
    · subst hn; simpa [feederState, State.socket, tableGet] using h
    · simp [feederState, State.socket, tableGet, Ne.symm hn]; decide
  reserved f := by
    by_cases hf : f = 1
    · subst hf; simp [feederState, State.feeder, State.reservedOn, tableGet, State.feederOf, State.pedestal, pedestalOf,
        State.reset, coldPedestal]
    · simp [feederState, State.feeder, State.reservedOn, tableGet, State.feederOf, State.pedestal, pedestalOf, State.reset,
        coldPedestal, Ne.symm hf, startFeeder]
  limit f := by
    by_cases hf : f = 1
    · subst hf; simpa [feederState, State.feeder, State.feederCfg, tableGet] using hl
    · simp [feederState, State.feeder, State.feederCfg, tableGet, Ne.symm hf, startFeeder]
  pending f n hn := by
    by_cases hf : f = 1
    · subst hf; simp [feederState, State.feeder, tableGet, startFeeder] at hn
    · simp [feederState, State.feeder, tableGet, Ne.symm hf, startFeeder] at hn
  ascending f := by
    by_cases hf : f = 1
    · subst hf; simp [feederState, State.feeder, tableGet, startFeeder]
    · simp [feederState, State.feeder, tableGet, Ne.symm hf, startFeeder]
  blocking f n hn := by
    by_cases hf : f = 1
    · subst hf; simp [feederState, State.feeder, tableGet, startFeeder] at hn
    · simp [feederState, State.feeder, tableGet, Ne.symm hf, startFeeder] at hn
  plugs n hn := by
    by_cases h0 : n = 0
    · subst h0; rfl
    · simp [feederState, State.socket, tableGet, Ne.symm h0, startSocket] at hn

/-! ## The manual's examples and tables -/

/-- R189: the check sequence of the nine digits. -/
theorem test_crc16_of_nine_digits :
    crc16 [0x31#8, 0x32#8, 0x33#8, 0x34#8, 0x35#8, 0x36#8, 0x37#8, 0x38#8, 0x39#8] = 0x29B1 := by decide

/-- R204: a frame with no body; its check worked out from R189 by hand. -/
theorem test_frame_of_status : frameBytes 0x01 9 [] = [0x7B#8, 0#8, 0#8, 1#8, 9#8, 0x26#8, 0xD8#8] := by decide

/-- R204, R205: GATE_PULSE for gate 3: one parameters item of one byte. -/
theorem test_decode_gatePulse : decodeRequest 0x58 9 [0x10#8, 0#8, 1#8, 3#8] = .request (.gatePulse 9 3) := by decide

/-- R202, R204: CLOCK_SET to day 300, second 34800: a 2-byte day and a 3-byte second, most significant byte first. -/
theorem test_decode_clockSet :
    decodeRequest 0x08 7 [0x10#8, 0#8, 5#8, 0x01#8, 0x2C#8, 0x00#8, 0x87#8, 0xF0#8] = .request (.clockSet 7 300 34800) := by
  decide

/-- R204: ACCT_GET from 14, 3 records: a start item with its count. -/
theorem test_decode_acctGet :
    decodeRequest 0x24 1 [0x03#8, 0#8, 2#8, 14#8, 3#8] = .request (.acctGet 1 14 3) := by decide

/-- R204: TARIFF_PUT: a start item that is followed by a row item. -/
theorem test_decode_tariffPut :
    decodeRequest 0x25 1 [0x83#8, 0#8, 1#8, 2#8, 0x32#8, 0#8, 6#8, 0#8, 32#8, 0#8, 24#8, 1#8, 0xA4#8] =
      .request (.tariffPut 1 2 [.row ⟨32, 24, 420⟩]) := by decide

/-- R190, R205: a kind beyond the table is no request. -/
theorem test_decode_unknownKind : decodeRequest 0x5F 1 [] = .unknownKind := by decide

/-- R63: the table of settlements, the last one in two pieces. -/
theorem test_price_table :
    price 1437 32 615 = (46, 599) ∧ price 187 420 0 = (78, 540) ∧ price 500 0 320 = (0, 320) ∧
    price 20 24 970 = (1, 450) ∧ price 70000 40 900 = (2800, 900) := by decide

/-- R107: the table of reservations. -/
theorem test_reserve_table :
    reserve 16 60 = 96 ∧ reserve 32 55 = 176 ∧ reserve 63 55 = 347 ∧ reserve 63 25 = 158 ∧ reserve 63 100 = 630 := by decide

/-- R142, the worked example of chapter 7: v_max and the amounts of the four authorisations. -/
theorem test_volMax_table :
    volMax 1879 5000 = 2661 ∧ volMax 1879 187900 = 100000 ∧ volMax 1879 2000 = 1064 ∧ volMax 1879 30000 = 15966 ∧
    amountOf 1879 2661 = 5000 ∧ amountOf 1879 2662 = 5002 ∧ amountOf 1879 1064 = 1999 ∧ amountOf 1879 15966 = 30000 := by
  decide

/-- R94: a count that has wrapped past 65535, and one that the pedestal has lost. -/
theorem test_meter_take :
    Meter.take ⟨65530, 5⟩ 40 10 = ⟨10, 21⟩ ∧ Meter.take ⟨500, 5⟩ 40 0 = ⟨0, 5⟩ := by decide

/-- R70, R79: the current night about the rollover hour, and the next multiple of the interval, strictly later. -/
theorem test_night_and_interval :
    nightAt 12 300 43199 = 299 ∧ nightAt 12 300 43200 = 300 ∧ nextInterval 15 36300 = 36900 ∧ nextInterval 15 36900 = 37800 ∧
    nextInterval 15 85500 = 0 := by decide

/-- The berths of the worked example of chapter 1 that decide it, and its low waters. -/
def placementState : State :=
  { withBal (fun b => { b with
      berths := [(12, ⟨2, .visitor, false, .inService, 145, 46, 380, 0⟩), (110, ⟨3, .resident, true, .inService, 150, 45, 330, 0⟩),
        (111, ⟨3, .resident, false, .inService, 150, 45, 400, 0⟩), (200, ⟨7, .visitor, false, .inService, 140, 50, 500, 5200⟩)]
      bookings := [(0, { coldBooking with state := .confirmed, account := 14, berth := some 12, arr := 102, dep := 105 })]
      tides := [(100, 40), (101, -20), (102, -60)] }) with
    clk := clockAt 98 50000 98 State.reset.clk
    acu := { State.reset.acu with accounts := [(0, coldHouse), (1, ⟨.opened, 0, 1000, 0⟩)] } }

/-- The depth test of R14 passes on berth 110 by the example's arithmetic, and berth 12 holds night 102. -/
theorem test_candidates_of_the_example :
    let boat : Boat := boatOfNew ⟨1, 142, 44, 210, 100, 103⟩
    placementState.candidate placementState.lowWaterOf boat none 110 = true ∧
    placementState.candidate placementState.lowWaterOf boat none 12 = false ∧
    placementState.candidate placementState.lowWaterOf boat none 111 = false ∧
    placementState.candidate placementState.lowWaterOf boat none 200 = false := by decide

/-! ## Commands on small states -/

/-- R52: an account is opened at balance 0, and the reply names it. -/
theorem test_acctOpen :
    (after (.acctOpen 1 14 500) .reset).account 14 = ⟨.opened, 0, 500, 0⟩ ∧
    answerTo (.acctOpen 1 14 500) .reset = some ⟨.ok, 0, [⟨0x11, [.u 1 14]⟩]⟩ := by decide

/-- R48: account 0 is not opened. -/
theorem test_acctOpen_house : answerTo (.acctOpen 1 0 500) .reset = some ⟨.state, 0, []⟩ := by decide

/-- R53, R50: a payment that takes an account below its limit puts it on HOLD. -/
theorem test_acctPay_holds :
    ((after (.acctPay 1 1 (-1001)) (bookingState .confirmed none)).account 1) = ⟨.held, -1001, 1000, 0⟩ := by decide

/-- R53, R50: down to the limit it stays OPEN. -/
theorem test_acctPay_to_the_limit :
    ((after (.acctPay 1 1 (-1000)) (bookingState .confirmed none)).account 1).state = .opened := by decide

/-- R136, R141: a grade with no price is not sold. -/
theorem test_hoseAuth_without_price :
    answerTo (.hoseAuth 1 ⟨1, 2, none, none, 0, none⟩) .reset = some ⟨.range, 0, []⟩ := by decide

/-- R146: a nozzle lifted from IDLE calls. -/
theorem test_nozzleLift_calls : ((after (.nozzleLift 1) .reset).hose 1).state = .calling := by decide

/-- R148: a pulse that reaches the volume limit closes the valves. -/
theorem test_pulse_closes :
    ((after (.pulse 1) (hoseState .fuelling 11)).hose 1).state = .closing ∧
    (after (.pulse 1) (hoseState .fuelling 11)).slowValveOut 1 = false := by decide

/-- R148: one within the slow-down volume of the limit keeps only the slow valve open. -/
theorem test_pulse_slows :
    (after (.pulse 1) (hoseState .fuelling 50)).mainValveOut 1 = false ∧
    (after (.pulse 1) (hoseState .fuelling 50)).slowValveOut 1 = true := by decide

/-- R178: GATE_PULSE releases a SECURE door. -/
theorem test_gatePulse_releases : ((after (.gatePulse 1 3) .reset).gate 3).door = .released := by decide

/-- R176: an opening from SECURE is forced. -/
theorem test_doorContact_forced : ((after (.doorContact 3 true) .reset).gate 3).door = .forcedAlarm := by decide

/-- R175: with anti-passback SOFT a card on the pontoon is granted, and the release carries the flag. -/
theorem test_cardRead_soft :
    ((after (.cardRead 3 false 777) (gateState .secure .normal)).gate 3).passback = true := by decide

/-- R172: LOCKDOWN refuses an entry. -/
theorem test_cardRead_lockdown :
    ((after (.cardRead 3 false 777) (gateState .secure .lockdown)).gate 3).door = .secure := by decide

/-- R178: and lets an exit pass. -/
theorem test_cardRead_exit_lockdown :
    ((after (.cardRead 3 true 777) (gateState .secure .lockdown)).gate 3).door = .released := by decide

/-- R125: a lock releases what a GRANTED socket held. -/
theorem test_socketLock_releases :
    ((after (.socketLock 1 0) (feederState grantedSocket)).socket 0).state = .locked ∧
    ((after (.socketLock 1 0) (feederState grantedSocket)).feeder 1).reserved = 0 := by decide

/-- R130: a released socket is SHED by the host with no hold-off. -/
theorem test_socketRelease :
    ((after (.socketRelease 1 0) (feederState energisedSocket)).socket 0).state = .shed ∧
    ((after (.socketRelease 1 0) (feederState energisedSocket)).socket 0).holdOffEnd = none := by decide

/-- R6: a height sets its day; a day before the last rollover day is refused. -/
theorem test_tidePut :
    (after (.tidePut 1 [.row ⟨100, some 40⟩]) (bookingState .free none)).bal.tides = [(100, 40)] ∧
    answerTo (.tidePut 1 [.row ⟨99, some 40⟩]) (bookingState .free none) = some ⟨.range, 0, []⟩ := by decide

/-- R29: an arrival of a CONFIRMED booking on its night. -/
theorem test_bookArrive :
    ((after (.bookArrive 1 0) (bookingState .confirmed (some 5))).booking 0).state = .arrived := by decide

/-- R36: a cancellation. -/
theorem test_bookCancel :
    ((after (.bookCancel 1 0) (bookingState .unplaced none)).booking 0).state = .cancelled := by decide

/-- R72: the first set. -/
theorem test_clockSet_first :
    (after (.clockSet 1 300 34800) .reset).clk.lastRoll = 299 ∧ (after (.clockSet 1 300 34800) .reset).clk.isSet = true := by
  decide

/-- R79: at the settlement timer's second the event is due and the timer is the next multiple. -/
theorem test_advanceClock_settles :
    let c := { clockAt 100 36899 99 State.reset.clk with frac := 255, settleTimer := 36900 }
    (advanceClock true c).settleDue = true ∧ (advanceClock true c).settleTimer = 37800 := by decide

/-- R200: a backup supply that failed is read again at a tick, as a free value; one that is there stays. -/
theorem test_tick_readsBackup :
    (tick (withSup fun u => { u with backup := false })).sup.backup = Config.backupReturned 0 ∧
    (tick .reset).sup = State.reset.sup := ⟨rfl, rfl⟩

/-- R40, R22: an extension over another ARRIVED booking moves it not. -/
theorem test_extension_moves_no_arrived :
    let s := withBal fun b => { b with
      bookings := [(0, bookingIn .arrived (some 5)), (1, { bookingIn .arrived (some 5) with arr := 103, dep := 105 })] }
    (extendBooking 103 0 s).booking 1 = s.booking 1 ∧ ((extendBooking 103 0 s).booking 0).dep = 104 := by decide

/-- Sockets 0 and 4 of berth 5, both PENDING on feeder 1 with limit 700 dA, socket 0 its blocking request, and account 1 of
the boat on the berth. -/
def blockedState : State :=
  { bookingState .arrived (some 5) with
    pdl := { State.reset.pdl with
      sockets := [(0, ⟨some 5, 63, 3, 0⟩), (4, ⟨some 5, 16, 3, 0⟩)]
      reports := [(0, some ⟨true, false, false, 0⟩), (4, some ⟨true, false, false, 0⟩)]
      links := [(1, { startLink with link := .online }), (2, { startLink with link := .online })] }
    far := { State.reset.far with
      sockets := [(0, { startSocket with state := .pending }), (4, { startSocket with state := .pending })]
      cfg := [(1, { coldFeederCfg with limit := 700 })]
      feeders := [(1, { startFeeder with reserved := 600, pending := [0, 4], blocking := some 0 })] } }

/-- R51, R121: at an entry to HOLD both go to WAITING, though the blocking request's leaving runs the search. -/
theorem test_hold_grants_none :
    let t := after (.acctPay 1 1 (-1001)) blockedState
    (t.account 1).state = .held ∧ (t.socket 0).state = .waiting ∧ (t.socket 4).state = .waiting ∧
    (t.feeder 1).reserved = 600 := by decide

/-- R120: and at a departure. -/
theorem test_departure_grants_none :
    let t := farDepart 5 blockedState
    (t.socket 0).state = .waiting ∧ (t.socket 4).state = .waiting ∧ (t.feeder 1).reserved = 600 := by decide

/-- R139: a refused SALE_PEEK carries the counts. -/
theorem test_salePeek_refused :
    answerTo (.salePeek 1 (some 9)) (hoseState .fuelling 50) = some ⟨.noSuch, 0, [⟨0x11, [.u 1 1, .u 1 0]⟩]⟩ := by decide

/-- R117, R208: SOCKET(FAULT) carries the socket, the feeder and the fault CONTACTOR. -/
theorem test_socketFault_fields : (NoticeBody.socketFault 9 3 .contactor).fields = [.u 1 9, .u 1 3, .u 1 0] := by decide

/-- R96, R208: TAP(REFUSED) carries its reason alone. -/
theorem test_tapRefused_fields : (NoticeBody.tapRefused .noBerth).fields = [.u 1 0] := by decide

/-! ## Witnesses: for each statement with hypotheses, states and operands that meet them, clause by clause -/

theorem witness_RequestFramesDecodeToTheirRequest :
    ∃ r, WellFormed (.acctLimit 255 255 4294967295) ∧ encodeRequest (.acctLimit 255 255 4294967295) = some r := ⟨_, rfl, rfl⟩

theorem witness_GoodFrameJoinsTheReceiveBuffer :
    255 < 256 ∧ (List.replicate 1024 (0 : Byte)).length ≤ 1024 ∧ State.reset.running = true ∧
    State.reset.hlc.rxState = .hunt ∧ State.reset.hlc.rxBytes = [] ∧
    7 + (List.replicate 1024 (0 : Byte)).length ≤ freeSpace State.reset.hlc := by
  simp only [List.length_replicate]; decide

theorem witness_ReceiverBeginsAndAbandonsFrames :
    State.reset.running = true ∧ State.reset.hlc.rxState = .hunt ∧ 0 < freeSpace State.reset.hlc := by decide

/-- A STATUS frame waits behind nothing. -/
def waitingState : State := withHlc fun h => { h with waiting := [⟨0x01, 9, []⟩] }

theorem witness_WaitingFrameActsAsItsCommand :
    ∃ r, WellFormed (.status 9) ∧ encodeRequest (.status 9) = some r ∧ waitingState.pending = [] ∧ waitingState.due = none ∧
      waitingState.running = true ∧ mayTake waitingState.hlc = true ∧
      waitingState.hlc.waiting = [⟨r.kind, r.tag, itemBytes r.items⟩] := by
  refine ⟨_, rfl, rfl, ?_⟩; decide

/-- The slot holds a reply; a restart is awaited. -/
def slotState (behind : Nat) : State :=
  withHlc fun h => { h with slot := some ⟨⟨0x01, 9, okAnswer⟩, behind⟩, tx := some (.reply ⟨0x01, 9, okAnswer⟩) }
def restartState : State := withHlc fun h => { h with restart := some 0 }

theorem witness_RequestWaitsForTheSlot :
    ∃ r, encodeRequest (.status 9) = some r ∧ (slotState 0).running = true ∧ mayTake (slotState 0).hlc = false ∧
      mayTake restartState.hlc = false ∧ 7 + (itemBytes r.items).length ≤ freeSpace (slotState 0).hlc := by
  refine ⟨_, rfl, ?_⟩; decide

def aNotice : Notice := ⟨⟨0, 0⟩, .gateForced 1⟩

theorem witness_TransmitPathAndNoticeQueue :
    (slotState 0).running = true ∧ restartState.running = true ∧ restartState.hlc.tx.isSome = true ∧
    (withHlc fun h => { h with tx := none, notices := [aNotice] }).hlc.tx = none ∧
    (slotState 0).hlc.tx = some (.reply ⟨0x01, 9, okAnswer⟩) ∧ State.reset.hlc.tx.isSome = true ∧
    (withHlc fun h => { h with tx := none, notices := [aNotice] }).hlc.slot = none ∧
    (withHlc fun h => { h with notices := List.replicate 31 aNotice }).hlc.notices.length < 32 ∧
    32 ≤ (withHlc fun h => { h with notices := List.replicate 32 aNotice }).hlc.notices.length := by decide

theorem witness_ColdStartGivesTheResetState :
    let s := withSup fun u => { u with main := false, valid := false, backup := false }
    s.sup.main = false ∧ s.sup.valid = false ∧ s.sup.resetHeld = false ∧ s.sup.nozzles = [] ∧ s.sup.contacts = [] ∧
    s.sup.hostCts = true := by decide

theorem witness_StartsKeepTheRetainedDomain :
    let off := withSup fun u => { u with main := false }
    let held := withSup fun u => { u with resetHeld := true }
    (off.sup.main = false ∧ off.sup.valid = true ∧ off.sup.resetHeld = false) ∧
    (held.sup.main = true ∧ held.sup.resetHeld = true ∧ held.sup.startDue = false) ∧
    restartState.running = true ∧ restartState.hlc.restart.isSome = true ∧ restartState.hlc.slot = none := by decide

theorem witness_SupplyFailuresDeEnergiseTheOutputs :
    ∃ i : Instr, i = .powerFail ∨ i = .resetPinAssert ∨ i = .backupSupplyFail := ⟨.powerFail, .inl rfl⟩

theorem witness_LinkRequestsAnswer : State.reset.takes = true := by decide

theorem witness_ClockSetMovesTheClock :
    let s := withClk (clockAt 100 43200 100)
    (State.reset.takes = true ∧ 65535 ≤ 65535 ∧ 86399 ≤ 86399 ∧ State.reset.clk.isSet = false) ∧
    s.takes = true ∧ s.clk.isSet = true ∧ s.clk.day * 86400 + s.clk.sec + 604800 < 107 * 86400 + 43201 ∧
    s.clk.day * 86400 + s.clk.sec < 107 * 86400 + 43200 ∧ 107 * 86400 + 43200 ≤ s.clk.day * 86400 + s.clk.sec + 604800 ∧
    100 * 86400 + 43199 < s.clk.day * 86400 + s.clk.sec ∧ 100 * 86400 + 43200 = s.clk.day * 86400 + s.clk.sec := by decide

theorem witness_RolloversReachTheCurrentNight :
    let due := withClk (clockAt 100 43200 99)
    let owed := fun last isSet => withClk fun c => { clockAt 100 43200 last c with catchUpDue := true, isSet }
    (due.running = true ∧ due.clk.isSet = true ∧ due.clk.catchUpDue = false ∧ due.clk.lastRoll < due.night) ∧
    ((owed 93 true).clk.catchUpDue = true ∧ (owed 93 true).clk.lastRoll < (owed 93 true).night ∧
      (owed 93 true).night ≤ (owed 93 true).clk.lastRoll + 7) ∧
    ((owed 92 true).clk.lastRoll + 7 < (owed 92 true).night ∧ (owed 92 true).hlc.notices.length < 32) ∧
    (owed 100 true).night ≤ (owed 100 true).clk.lastRoll ∧ (owed 100 false).clk.isSet = false := by decide

theorem witness_RolloverClosesTheNightOfABooking :
    let k := (bookingState .confirmed (some 5)).booking 0
    let a := (bookingState .arrived (some 5)).booking 0
    let u := (bookingState .unplaced none).booking 0
    (k.state = .confirmed ∧ k.arr + 1 ≤ 101 ∧ 101 ≤ k.dep ∧ k.nightsCharged < 65535 ∧
      101 < k.arr + (bookingState .confirmed (some 5)).bal.grace + 1) ∧
    (a.state = .arrived ∧ a.arr + 1 ≤ 102 ∧ 102 < a.dep ∧ a.nightsCharged < 65535) ∧
    (u.state = .unplaced ∧ u.arr + (bookingState .unplaced none).bal.grace + 1 ≤ 102) ∧
    (k.arr + (bookingState .confirmed (some 5)).bal.grace + 1 ≤ 104 ∧ k.dep < 104) ∧
    (a.dep ≤ 65535 ∧ a.overstay + (min (65535 + 1) 65535 - a.dep) ≤ 65535) ∧ (k.berth = some 5 ∧ 100 ≤ k.arr) ∧
    State.reset.booking 0 = coldBooking ∧ coldBooking.state ∉ [BookState.confirmed, .arrived, .unplaced] := by decide

theorem witness_ClockEventsSettleTheMeters :
    (withClk (clockAt 100 43200 100)).running = true ∧ (withClk (clockAt 100 43200 100)).clk.isSet = true := by decide

theorem witness_ClockAdvancesAndStops :
    let c := clockAt 100 25199 100 State.reset.clk
    (c.sec ≤ 86399 ∧ c.day ≤ 65535 ∧ ({ c with frac := 254 } : Clk).frac < 255) ∧
    (({ c with frac := 255 } : Clk).frac = 255 ∧ (c.day < 65535 ∨ c.sec < 86399)) ∧
    ((advanceClock true { c with frac := 255 }).sec = c.dayHour * 3600 ∧ c.dayHour ≠ c.nightHour) ∧
    ((advanceClock true { c with frac := 255, sec := 79199 }).sec = c.nightHour * 3600) ∧
    (({ c with frac := 255, day := 65535, sec := 86399 } : Clk).day = 65535) ∧ State.reset.sup.main = true := by decide

theorem witness_SitePutWritesOneParameter :
    State.reset.takes = true ∧ (-300 : Int) ≤ -300 ∧ (60 : Int) ∈ ([5, 10, 15, 20, 30, 60] : List Int) ∧
    (23 : Int).toNat ≠ State.reset.clk.nightHour ∧ (0 : Int).toNat ≠ State.reset.clk.dayHour ∧
    (5888 : Int) = 23 * 256 + 0 ∧ 23 ≤ 23 ∧ 23 ≠ 0 ∧ State.reset.clk.isSet = false ∧
    (let s := withClk (clockAt 100 3600 99)
     s.clk.isSet = true ∧ s.night ≤ s.clk.lastRoll ∧ s.clk.lastRoll < nightAt (0 : Int).toNat s.clk.day s.clk.sec ∧
     nightAt (2 : Int).toNat s.clk.day s.clk.sec ≤ s.clk.lastRoll) ∧
    (withClk (clockAt 100 43200 99)).clk.lastRoll < (withClk (clockAt 100 43200 99)).night := by decide

theorem witness_ReadsReturnTheRecords :
    State.reset.takes = true ∧ 1 ≤ 16 ∧ 511 ≤ 511 ∧ (hoseState .fuelling 50).sale 7 = some (openSale 50) ∧ 7 ≤ 65535 ∧
    (hoseState .fuelling 50).sale 65535 = none ∧
    (gateState .secure .normal).takes = true ∧ (gateState .secure .normal).credByToken 777 = some 330 := by decide

theorem witness_BerthPutWritesTheRow :
    let s := bookingState .confirmed (some 5)
    let r : BerthRow := ⟨8, 0, true, 1, 1000, 300, 2000, 1000000⟩
    s.takes = true ∧ 255 ≤ 255 ∧ (1 ≤ r.pontoon ∧ r.pontoon ≤ 8) ∧ (20 ≤ r.maxLoa ∧ r.maxLoa ≤ 1000) ∧
    (10 ≤ r.maxBeam ∧ r.maxBeam ≤ 300) ∧ r.depth ≤ 2000 ∧ r.fee ≤ 1000000 ∧ valueOf berthClasses r.cls = some .service ∧
    valueOf berthStates r.state = some .blocked ∧ s.calendar 255 = [] ∧ s.arrivedOn 255 = none ∧ s.arrivedOn 5 = none ∧
    tableOk coldBooking s.bal.bookings = true := by decide

/-- A low-water table with days from a day on, one after another. -/
def fullTides (first : Nat) : State :=
  withBal fun b => { b with tides := (List.range 64).map fun k => (first + k, 10) }

theorem witness_TidePutSetsTheDay :
    (State.reset.takes = true ∧ State.reset.clk.lastRoll ≤ 65535 ∧ (-300 : Int) ≤ 800 ∧ State.reset.bal.tides.length < 64) ∧
    (∃ e ∈ (fullTides 10).bal.tides, e.1 = 73) ∧
    ((fullTides 10).bal.tides = (10, 10) :: ((List.range 64).map fun k => (10 + k, 10)).tail ∧
      (fullTides 10).bal.tides.length = 64 ∧ (∀ e ∈ (fullTides 10).bal.tides, e.1 ≠ 74) ∧
      (∀ e ∈ ((List.range 64).map fun k => (10 + k, (10 : Int))).tail, e.1 ≠ 10) ∧ 10 < 74) := by decide

theorem witness_BookingTakesItsBerth :
    let n : NewBooking := ⟨1, 142, 44, 210, 100, 103⟩
    let s := placementState
    (s.takes = true ∧ s.clk.isSet = true ∧ (s.account n.account).state = .opened ∧ s.night ≤ n.arr ∧ n.dep ≤ n.arr + 60) ∧
    s.recordFor = some 1 ∧ ((s.berth 110).state = .inService ∧ (s.berth 110).cls ≠ .service ∧
      s.nightsFree 110 none n.arr n.dep = true ∧ s.fitsBoat s.lowWaterOf 110 (boatOfNew n) = true) ∧
    (boatOfNew n).arr ≤ (boatOfNew n).dep := by decide

theorem witness_BookingTakesItsBerth_acceptable : Acceptable ⟨1, 142, 44, 210, 100, 103⟩ placementState := by
  constructor <;> decide

theorem witness_BookingTakesItsBerth_unplaced :
    let s := bookingState .unplaced none
    s.takes = true ∧ s.clk.isSet = true ∧ (s.booking 0).state = .unplaced ∧ s.night < (s.booking 0).dep ∧
    (s.berth 5).state = .inService ∧ (s.berth 5).cls ≠ .service ∧
    s.nightsFree 5 (some 0) (s.booking 0).arr (s.booking 0).dep = true := by decide

/-- Placement answers a berth: the two hypotheses on it can be met. -/
theorem witness_BookingTakesItsBerth_placed :
    placementState.place placementState.lowWaterOf (boatOfNew ⟨1, 142, 44, 210, 100, 103⟩) 3 none = some 110 := by decide

theorem witness_ArrivalIsTakenOrReported :
    let s := bookingState .confirmed (some 5)
    let early : State := { s with clk := clockAt 98 64800 98 s.clk }
    let morning : State := { s with clk := clockAt 100 3600 99 s.clk }
    let handed : State := { s with bal := { s.bal with arrivals := [⟨0, 330, 3⟩] } }
    let refused : State := { handed with bal := { handed.bal with bookings := [] } }
    (s.clk.isSet = true ∧ (s.booking 0).state = .confirmed ∧ s.night < (s.booking 0).dep ∧ s.takes = true) ∧
    ((s.booking 0).arr ≤ s.night ∧ s.arrivedOn 5 = none) ∧
    (early.night < (early.booking 0).arr ∧ ¬(early.night + 1 = (early.booking 0).arr ∧ early.clk.day = (early.booking 0).arr) ∧
      early.nightsFree 5 (some 0) early.night (early.booking 0).arr = true) ∧
    (morning.night + 1 = (morning.booking 0).arr ∧ morning.clk.day = (morning.booking 0).arr ∧ morning.arrivedOn 5 = none) ∧
    (handed.running = true ∧ handed.bal.arrivals = ⟨0, 330, 3⟩ :: []) ∧ (refused.arrivalRefused 0).isSome = true := by decide

theorem witness_BookingChangesAndCloses :
    let s := bookingState .arrived (some 5)
    (s.takes = true ∧ s.clk.isSet = true ∧ (s.booking 0).state = .arrived ∧ (s.booking 0).arr < 160 ∧ s.night < 160 ∧
      160 ≤ (s.booking 0).arr + 60 ∧ s.nightsFree ((s.booking 0).berth.getD 0) (some 0) (s.booking 0).dep 160 = true) ∧
    ((s.booking 0).arr < 101 ∧ s.night < 101 ∧ 101 ≤ (s.booking 0).dep) ∧ (s.booking 0).nightsCharged + 1 ≤ 65535 ∧
    ((s.berth 5).cls ≠ .service ∧ s.arrivedOn 5 = some 0) ∧
    ((bookingState .unplaced none).booking 0).state = .unplaced ∧
    ((bookingState .confirmed (some 5)).booking 0).state = .confirmed := by decide

/-- The states of the bookings' tests meet the invariant. -/
theorem bookingState_inv (state : BookState) (berth : Option Nat) : Inv (bookingState state berth) where
  notices := by show 0 ≤ 32; omega
  sales := by show 0 ≤ 16; omega
  clock := by
    have h : (bookingState .free none).clk.inRange := by unfold Clk.inRange; decide
    exact h
  accounts a := by
    by_cases h0 : a = 0
    · have h : ((bookingState .free none).account 0).inRange := by unfold Account.inRange; decide
      subst h0; exact h
    by_cases h1 : a = 1
    · have h : ((bookingState .free none).account 1).inRange := by unfold Account.inRange; decide
      subst h1; exact h
    · simp [bookingState, State.account, tableGet, Ne.symm h0, Ne.symm h1, coldAccount, Account.inRange, balanceBound]
  house := (by decide : ((bookingState .free none).account 0).state = .opened)
  residues n := ⟨by show 0 < 1000; omega, by show 0 < 1000; omega⟩

/-- The tests' ARRIVED booking on berth 5, whose socket has a dynamic record. -/
def berthState (k : Socket) : State :=
  { bookingState .arrived (some 5) with pdl := (feederState k).pdl, far := (feederState k).far }

theorem berthState_inv (k : Socket) : Inv (berthState k) :=
  let h := bookingState_inv .arrived (some 5)
  ⟨h.notices, h.sales, h.clock, h.accounts, h.house, h.residues⟩

theorem berthState_sound (k : Socket) (h : FeedersSound (feederState k)) : FeedersSound (berthState k) :=
  ⟨h.sockets, h.static, h.held, h.reserved, h.limit, h.pending, h.ascending, h.blocking, h.plugs⟩

theorem witness_DepartureTakesTheBerthsSupply :
    let s := berthState energisedSocket
    Inv s ∧ FeedersSound s ∧ (s.booking 0).state = .arrived ∧ (s.booking 0).berth = some 5 ∧ (s.berth 5).cls ≠ .service ∧
    s.berthSockets 5 = [0] ∧ (s.socket 0).supplied = true :=
  ⟨berthState_inv _, berthState_sound _ (feederState_sound _ (by decide) (by decide) (by decide)), by decide⟩

theorem witness_PostingMovesTheBalance : (-2000000000000 : Int) ≠ 0 := by decide

theorem witness_AccountsOpenAndClose :
    let s := bookingState .cancelled none
    (s.takes = true ∧ 255 ≤ 255 ∧ 10000000 ≤ 10000000 ∧ (s.account 255).state = .free) ∧
    ((s.account 1).state ≠ .free ∧ s.openBookings 1 = 0 ∧ (s.account 1).earmark = 0) ∧
    (Instr.acctLimit 1 0 5, 0x22) ∈ [(Instr.acctOpen 1 0 5, 0x20), (.acctClose 1 0, 0x23), (.acctLimit 1 0 5, 0x22)] := by
  decide

theorem witness_PaymentsAndLimitsMoveTheHoldState :
    let s := bookingState .confirmed (some 5)
    s.takes = true ∧ (s.account 1).state ≠ .free ∧ (-1000000000000 : Int) ≠ 0 ∧ -1000000000000 ≤ (s.account 1).balance ∧
    ¬((s.account 1).state = .opened ∧ (if (s.account 1).balance + (0 : Nat) < 0 then AcctState.held else .opened) = .held) := by
  decide

theorem witness_PlainRowsAreWritten :
    State.reset.takes = true ∧ 65535 ≤ 65535 ∧ State.reset.fdc.ready = true ∧ (State.reset.hose 4).state = .idle ∧
    99999 ≤ 99999 ∧ valueOf passbacks 2 = some .hard := by decide

theorem witness_PedestalPutWritesTheRow :
    let s : State := { State.reset with pdl := { State.reset.pdl with pedestals := [(64, ⟨true, 8⟩)] } }
    s.takes = true ∧ s.pedestalBusy 64 = false ∧ (s.pedestal 64).configured = true ∧ (s.pedestal 1).configured = false := by
  decide

theorem witness_SocketAndTapPutWriteTheRow :
    State.reset.takes = true ∧ (∀ b, some 255 = some b → b ≤ 255) ∧ (State.reset.socket 255).supplied = false ∧
    (∀ b, some 255 = some b → ((State.reset.berthSockets b).filter fun n => decide (n ≠ 255)).length < 2) ∧
    ∀ b, some 255 = some b → ∀ n ∈ State.reset.berthTaps b, n = 127 :=
  ⟨by decide, fun b h => by cases h; decide, by decide, fun b _ => by show (0 : Nat) < 2; decide, fun b _ n h => by cases h⟩

/-- Tap 127 is OPEN. -/
def tapState : State := withPdl fun p => { p with runs := [(127, some ⟨0, 0, 30⟩)] }

theorem witness_OpenTapCloses :
    127 ≤ 127 ∧ tapState.run 127 = some ⟨0, 0, 30⟩ ∧ tapState.running = true ∧ tapState.takes = true ∧
    (tapState.tapMeter 127).unsettled = 0 ∧ tapState.tapResidue 127 < 1000 ∧ tapState.run 0 = none := by decide

/-- Pedestals 1 and 64 are configured, and the slot of one of them is in progress. -/
def pollState (address miss : Nat) (replied : Bool) : State :=
  withPdl fun p => { p with
    pedestals := [(1, ⟨true, 1⟩), (64, ⟨true, 8⟩)], links := [(address, { startLink with miss })],
    poll := some ⟨address, [.keep, .keep, .keep, .keep], [false, false], [false, false]⟩, replied }

/-- The bytes of a reply of pedestal 1 whose every report is empty (R210). -/
def emptyReply : List Byte :=
  let covered := beBytes 1 1 ++ List.replicate 26 0#8
  0x7B#8 :: covered ++ beBytes 2 (crc16 covered)

/-- Tap 0 on berth 5, whose booking of account 1 is in a state. -/
def pressState (state : BookState) (acct : AcctState) (cls : BerthClass) : State :=
  let s := bookingState state (some 5)
  { s with
    bal := { s.bal with berths := [(5, { coldBerth with cls })] }
    acu := { s.acu with accounts := [(0, coldHouse), (1, ⟨acct, 0, 1000, 0⟩)] }
    pdl := { s.pdl with taps := [(0, { coldTapCfg with berth := some 5 })] } }

/-- R96: a press of a CLOSED tap, as each berth and booking has it, and R97: of an OPEN one. -/
theorem test_pressTap :
    (pressTap 0 .reset).hlc.notices.getLast?.map (·.body) = some (.tapRefused .noBerth) ∧
    (pressTap 0 (pressState .arrived .opened .resident)).run 0 = some ⟨0, 0, 30⟩ ∧
    (pressTap 0 (pressState .arrived .held .resident)).run 0 = none ∧
    (pressTap 127 tapState).run 127 = none := by decide

theorem witness_PollReplyIsTaken_presses :
    (State.reset.run 0 = none ∧ (State.reset.tapCfg 0).berth = none) ∧
    (let s := pressState .arrived .opened .service
     s.run 0 = none ∧ (s.tapCfg 0).berth = some 5 ∧ (s.berth 5).cls = .service) ∧
    (let s := pressState .confirmed .opened .resident
     s.run 0 = none ∧ (s.tapCfg 0).berth = some 5 ∧ (s.berth 5).cls ≠ .service ∧ s.arrivedOn 5 = none) ∧
    (let s := pressState .arrived .held .resident
     (s.tapCfg 0).berth = some 5 ∧ (s.berth 5).cls ≠ .service ∧ s.arrivedOn 5 = some 0 ∧
     (s.account (s.booking 0).account).state = .held) ∧
    (let s := pressState .arrived .opened .resident
     s.arrivedOn 5 = some 0 ∧ (s.account (s.booking 0).account).state ≠ .held) ∧
    tapState.run 127 = some ⟨0, 0, 30⟩ ∧
    (goodReply emptyReply).map (fun r => (r.sockets.length, r.taps.length)) = some (4, 2) := by decide

theorem witness_PollReplyIsTaken :
    (65535 < 65536 ∧ 0 < 65536) ∧ (pollState 1 0 false).running = true ∧ (pollState 1 0 false).pdl.poll.isSome = true ∧
    (goodReply emptyReply).map (·.address) = some 1 ∧ ((pollState 1 0 false).pedestal 1).configured = true ∧
    (pollState 1 0 false).pdl.replied = false ∧ goodReply [] = none ∧
    ((goodReply emptyReply).map fun r => r.taps.all fun x => !x.press) = some true ∧
    ((pollState 64 0 false).pdl.poll.map (·.address) = some 64 ∧ ((pollState 2 0 false).pedestal 2).configured = false ∧
      (pollState 1 0 true).pdl.replied = true) ∧ (State.reset.running = true ∧ State.reset.pdl.poll = none) := by decide

theorem witness_SlotEndPollsTheNextPedestal :
    (pollState 64 2 false).running = true ∧ (pollState 64 2 false).pdl.poll.isSome = true ∧
    (pollState 64 2 false).pdl.replied = false ∧ ((pollState 64 2 false).pedestal 64).configured = true ∧
    (pollState 1 0 true).pdl.replied = true := by decide

theorem feederState_granted : FeedersSound (feederState grantedSocket) :=
  feederState_sound _ (by decide) (by decide) (by decide)

theorem witness_GrantSearchFillsTheHeadroom :
    ((feederState grantedSocket).feeder 1).reserved ≤ ((feederState grantedSocket).feederCfg 1).limit ∧
    let s := berthState { startSocket with state := .pending }
    FeedersSound s ∧ (s.socket 0).state = .pending ∧ (s.socketCfg 0).berth ≠ none ∧
    ¬(s.entitled 0 = true ∧ (s.link (0 / 4 + 1)).link = .online) ∧ s.berthNames (s.socketCfg 0).berth 1 = true ∧
    0 ∈ socketsOf 1 :=
  ⟨by decide, berthState_sound _ (feederState_sound _ (by decide) (by decide) (by decide)), by decide⟩

/-- Sockets 1 of 63 A and 2 of 16 A, of berth 5 on feeder 1, PENDING. -/
def pendingState (limit counter : Nat) (blocking : Option Nat) : State :=
  { State.reset with
    pdl := { State.reset.pdl with
      sockets := [(1, ⟨some 5, 63, 0, 0⟩), (2, ⟨some 5, 16, 0, 0⟩)]
      reports := [(1, some ⟨true, false, false, 0⟩), (2, some ⟨true, false, false, 0⟩)] }
    far := { State.reset.far with
      sockets := [(1, { startSocket with state := .pending }), (2, { startSocket with state := .pending })]
      cfg := [(1, { coldFeederCfg with limit })]
      feeders := [(1, { startFeeder with pending := [1, 2], blocking })]
      counter } }

theorem pendingState_sound (limit counter : Nat) (blocking : Option Nat) (h : ∀ n ∈ blocking, n = 1 ∨ n = 2) :
    FeedersSound (pendingState limit counter blocking) where
  sockets := by rfl
  static := by rfl
  held n := by
    by_cases h1 : n = 1
    · subst h1; rfl
    by_cases h2 : n = 2
    · subst h2; rfl
    · simp [pendingState, State.socket, tableGet, Ne.symm h1, Ne.symm h2]; decide
  reserved f := by
    by_cases hf : f = 1
    · subst hf; rfl
    · simp [pendingState, State.feeder, State.reservedOn, tableGet, State.feederOf, State.pedestal, pedestalOf, State.reset,
        coldPedestal, Ne.symm hf, startFeeder]
  limit f := by
    by_cases hf : f = 1
    · subst hf; exact Nat.zero_le _
    · simp [pendingState, State.feeder, tableGet, Ne.symm hf, startFeeder]
  pending f n hn := by
    by_cases hf : f = 1
    · subst hf
      have hn : n = 1 ∨ n = 2 := by simpa [pendingState, State.feeder, tableGet] using hn
      rcases hn with rfl | rfl <;> exact ⟨rfl, rfl⟩
    · simp [pendingState, State.feeder, tableGet, Ne.symm hf, startFeeder] at hn
  ascending f := by
    by_cases hf : f = 1
    · subst hf; simp [pendingState, State.feeder, tableGet]
    · simp [pendingState, State.feeder, tableGet, Ne.symm hf, startFeeder]
  blocking f n hn := by
    by_cases hf : f = 1
    · subst hf; simpa [pendingState, State.feeder, tableGet] using h n hn
    · simp [pendingState, State.feeder, tableGet, Ne.symm hf, startFeeder] at hn
  plugs n hn := by
    by_cases h1 : n = 1
    · subst h1; rfl
    by_cases h2 : n = 2
    · subst h2; rfl
    · simp [pendingState, State.socket, tableGet, Ne.symm h1, Ne.symm h2, startSocket] at hn

/-- A pass over a socket that does not fit, one that grants the blocking request, one that grants nothing, and the grant
counter at its end. -/
theorem witness_GrantSearchFillsTheHeadroom_pass :
    (FeedersSound (pendingState 200 0 none) ∧ (pendingState 200 0 none).pass 1 = some (2, [1])) ∧
    (FeedersSound (pendingState 700 0 (some 1)) ∧ (pendingState 700 0 (some 1)).pass 1 = some (1, [])) ∧
    (pendingState 200 0 (some 1)).pass 1 = none ∧
    (FeedersSound (pendingState 200 4294967295 none) ∧ (pendingState 200 4294967295 none).pass 1 = some (2, [1])) :=
  ⟨⟨pendingState_sound _ _ _ (by simp), by decide⟩, ⟨pendingState_sound _ _ _ (by simp), by decide⟩, by decide,
    pendingState_sound _ _ _ (by simp), by decide⟩

/-- R112: the socket passed over gains a bypass, and becomes the blocking request at the limit of 1. -/
theorem test_grant_counts_bypass :
    let s := pendingState 200 0 none
    let t := grantSearch 1 { s with far := { s.far with cfg := [(1, { coldFeederCfg with limit := 200, bypassLimit := 1 })] } }
    (t.socket 2).state = .granted ∧ (t.socket 1).bypass = 1 ∧ (t.feeder 1).blocking = some 1 ∧ (t.feeder 1).reserved = 160 := by
  decide

theorem witness_FeederRowsAndPointers :
    let s := feederState grantedSocket
    let r : FeederRow := ⟨160, 100, 15, 15, 1, 60⟩
    FeedersSound s ∧ s.takes = true ∧ r.limit ≤ 25000 ∧ valueOf retryModes r.retry = some .edge ∧
    ¬ r.diversity ≠ (s.feederCfg 1).diversity ∧ (s.feeder 1).reserved ≤ r.limit ∧ s.shedOrder 8 = [] ∧ 255 ≤ 255 := by
  refine ⟨feederState_granted, ?_⟩; decide

theorem witness_HostShedsReleaseTheSockets :
    let s := feederState energisedSocket
    FeedersSound s ∧ s.takes = true ∧ (s.socket 0).supplied = true ∧ s.shedOrder 1 = [0] ∧ 16 ≤ 16 := by
  refine ⟨feederState_sound _ (by decide) (by decide) (by decide), ?_⟩; decide

theorem witness_SocketLocksAndReturns :
    (FeedersSound (feederState lockedSocket) ∧ ((feederState lockedSocket).socket 0).state = .locked ∧
      (feederState lockedSocket).takes = true) ∧
    (FeedersSound (feederState shedSocket) ∧ ((feederState shedSocket).socket 0).state = .shed ∧
      ((feederState shedSocket).socket 0).holdOffEnd.isSome = true ∧ (feederState shedSocket).running = true) ∧
    ((feederState shedSocket).socketCfg 0).berth ≠ none ∧ (feederState shedSocket).plugged 0 = true ∧
    ((feederState shedSocket).socketCfg 255).berth = none ∧ (feederState shedSocket).plugged 255 = false ∧
    (feederState shedSocket).entitled 0 = false := by
  refine ⟨⟨feederState_sound _ ?_ ?_ ?_, ?_, ?_⟩, ⟨feederState_sound _ ?_ ?_ ?_, ?_, ?_, ?_⟩, ?_, ?_, ?_, ?_, ?_⟩ <;> decide

theorem witness_ReportsAndScansMoveSuppliedSockets :
    let s := feederState grantedSocket
    let late := feederState { grantedSocket with confirm := some 1 }
    (FeedersSound s ∧ FeedersSound late ∧ FeedersSound (feederState energisedSocket)) ∧ (s.socket 0).supplied = true ∧
    (s.socket 0).confirm = some 0 ∧ (late.socket 0).confirm = some 1 ∧ (s.feederCfg 1).limit < (s.feeder 1).measured ∧
    (s.feeder 1).overCount + 1 < (s.feederCfg 1).tripCount ∧ s.shedOrder 1 = 0 :: [] ∧
    (s.feeder 2).measured ≤ (s.feederCfg 2).limit := by
  refine ⟨⟨feederState_granted, feederState_sound _ ?_ ?_ ?_, feederState_sound _ ?_ ?_ ?_⟩, ?_⟩ <;> decide

/-- A socket of the tests found supplying in IDLE, on an entitled berth of an ONLINE pedestal with room on its feeder. -/
theorem witness_ReportsAndScansMoveSuppliedSockets_adoption :
    let s := berthState { startSocket with state := .idle }
    let online : State := { s with pdl := { s.pdl with links := [(1, { startLink with link := .online })] } }
    let x : SocketReport := ⟨true, true, false, 100⟩
    ((goodReply emptyReply).map fun r => r.sockets.length) = some 4 ∧ s.report 0 = some ⟨true, true, false, 100⟩ ∧
    (online.plugged 0 = x.plug ∧ (online.socket 0).state = .idle ∧ (online.socketCfg 0).berth ≠ none ∧
      online.entitled 0 = true ∧ (online.link (0 / 4 + 1)).link = .online ∧
      (online.feeder 1).reserved + 96 ≤ (online.feederCfg 1).limit) ∧
    ((s.link 1).link ≠ .online ∧ s.plugged 0 = x.plug) ∧ (s.socketCfg 1).berth = none ∧
    ((feederState lockedSocket).socket 0).state = .locked ∧ ((feederState shedSocket).socket 0).supplied = false := by decide

theorem witness_SaleBoundsAreTheLargestWithinCredit :
    0 < (hoseState .idle 50).price ((hoseState .idle 50).hoseCfg 1).grade := by decide

theorem witness_HoseAuthOpensASale :
    let s : State := { bookingState .free none with fdc := { State.reset.fdc with prices := [(1, 1879)] } }
    let lifted : State := { s with fdc := { s.fdc with hoses := [(4, { startHose with state := .calling, lifted := true })] } }
    (s.takes = true ∧ s.fdc.ready = true ∧ valueOf saleModes 0 = some .account ∧ valueOf presetKinds 2 = some .volume ∧
      modeFields .account (some 1) none = true ∧ presetFields .volume (some 200000) = true ∧
      (s.hose 4).state ∈ [HoseState.idle, .calling] ∧ 0 < s.price (s.hoseCfg 4).grade ∧ s.fdc.sales.length < 16 ∧
      (s.account 1).state = .opened ∧ 0 < (s.account 1).available) ∧ (lifted.hose 4).state = .calling := by decide

theorem witness_SaleCompletesAndIsCharged :
    (hoseState .slow 50).hoseSale 1 = some (openSale 50) ∧ (hoseState .slow 50).running = true ∧
    (hoseState .slow 50).fdc.ready = true ∧ (hoseState .slow 50).takes = true ∧
    ((hoseState .authorised 50).hose 1).state = .authorised ∧ ((hoseState .closing 10).hose 1).state = .closing ∧
    ((hoseState .slow 50).hose 1).state ∈ [HoseState.fuelling, .slow, .closing] := by decide

theorem witness_StopAndNoFlowCloseTheValves :
    ((hoseState .slow 50).hose 1).state = .slow ∧ (hoseState .slow 50).hoseSale 1 = some (openSale 50) := by decide

theorem witness_NozzleMovesTheHose :
    State.reset.running = true ∧ State.reset.fdc.ready = true ∧ (State.reset.hose 4).state = .idle ∧
    ((hoseState .authorised 0).hose 1).state = .authorised ∧ (hoseState .authorised 0).hoseSale 1 = some (openSale 0) ∧
    ((hoseState .hangWait 50).hose 1).state ∉ [HoseState.idle, .authorised] ∧
    ((hoseState .hangWait 50).hose 1).state ∉ [HoseState.fuelling, .slow, .closing] := by decide

theorem witness_PulseIsCountedOrStray :
    ((hoseState .fuelling 50).hose 1).state ∈ [HoseState.fuelling, .slow, .closing] ∧
    (hoseState .fuelling 50).hoseSale 1 = some (openSale 50) ∧ (openSale 50).pulses < 4294967295 ∧
    (State.reset.hose 4).state ∉ [HoseState.fuelling, .slow, .closing] := by decide

/-- The record of the tests, completed. -/
def doneSale : Sale := finished (openSale 50) .nozzle ⟨0, 0⟩

theorem witness_SaleTakeRemovesTheRecord :
    let s := withFdc fun f => { f with sales := [openSale 50, { doneSale with number := 65535 }] }
    s.takes = true ∧ s.fdc.sales.find? (fun y => y.done) = some { doneSale with number := 65535 } ∧
    s.sale 65535 = some { doneSale with number := 65535 } ∧ s.sale 7 = some (openSale 50) ∧ (openSale 50).done = false ∧
    s.sale 1 = none ∧ State.reset.fdc.sales.find? (fun y => y.done) = none ∧ (0 < 1 ∨ 65535 < 0) := by decide

theorem witness_FdcStartCompletesOpenSales :
    let s := withFdc fun f => { f with ready := false, sales := [openSale 50] }
    s.running = true ∧ s.fdc.ready = false := by decide

/-- R155: a sale found OPEN is completed with reason POWER and charged its amount: 10 cL at 1.879 a litre is 19. -/
theorem test_fdcStart_charges :
    let t := after .fdcStart (withFdc fun f => { f with ready := false, sales := [openSale 50] })
    t.fdc.sales.map (fun x => (x.done, x.reason, x.charged)) = [(true, some .power, some 19)] ∧
    (t.account 0).balance = -19 := by decide

theorem witness_SelfServeOfferIsDecided :
    let o : Offer := ⟨330, 4, some 1⟩
    let refused := withGtc fun g => { g with fuel := { g.fuel with offer := some o } }
    let s : State := { refused with
      acu := (bookingState .free none).acu, fdc := { State.reset.fdc with prices := [(1, 1879)] } }
    let lifted : State := { s with fdc := { s.fdc with hoses := [(4, { startHose with state := .calling, lifted := true })] } }
    (s.running = true ∧ s.gtc.fuel.offer = some o ∧ s.offerRefused o = none) ∧ refused.offerRefused o = some .range ∧
    ((s.hose 4).state = .idle ∧ lifted.offerRefused o = none ∧ (lifted.hose 4).state = .calling) := by
  decide

theorem witness_CredentialRecordsAreWritten :
    let s := gateState .released .normal
    let r : CredRow := ⟨1, 1, none, some [0, 1, 2, 3], none, some 0, 63, false, false, false, none, none, none⟩
    let off : State := { s with gtc := { s.gtc with creds := [(330, { s.cred 330 with state := .suspended })] } }
    (s.takes = true ∧ valueOf credStates r.state = some .active ∧ valueOf credKinds r.kind = some .pin ∧
      locationOf r.location = some none ∧ credInRange 1023 .pin r = true ∧ s.credConflict 1023 .pin r = false) ∧
    (s.cred 330).state = .active ∧ (off.cred 330).state = .suspended ∧ off.takes = true := by decide

theorem witness_GateModeMovesTheDoor :
    (gateState .heldAlarm .normal).takes = true ∧ valueOf gateModes 2 = some .openHold ∧
    ((gateState .heldAlarm .normal).gateCfg 3).mode ≠ .openHold ∧ ((gateState .secure .openHold).gateCfg 3).mode = .openHold ∧
    valueOf gateModes 1 = some .lockdown := by decide

theorem witness_ExitsReleaseTheDoor :
    let s := gateState .secure .lockdown
    let off : State := { s with gtc := { s.gtc with creds := [(330, { s.cred 330 with state := .suspended })] } }
    (s.gateCfg 3).mode ≠ .openHold ∧ (s.gate 3).door = .secure ∧ s.takes = true ∧ (s.gateCfg 3).exitReader = true ∧
    s.credByToken 777 = some 330 ∧ (s.cred 330).state = .active ∧ s.credByToken 778 = none ∧
    off.credByToken 777 = some 330 ∧ (off.cred 330).state = .suspended := by decide

theorem witness_DoorFollowsItsContact :
    (gateState .secure .normal).running = true ∧ ((gateState .secure .normal).gateCfg 3).mode ≠ .openHold ∧
    ((gateState .secure .openHold).gateCfg 3).mode = .openHold ∧ ((gateState .released .normal).gate 3).door = .released ∧
    ((gateState .released .normal).gate 3).attributed = some 330 ∧ ((gateState .released .normal).cred 330).state ≠ .free ∧
    ((gateState .opened .normal).gate 3).door = .opened ∧ ((gateState .opened .normal).gate 3).heldTimer.isSome = true ∧
    ((gateState .forcedAlarm .normal).gate 3).door ∈ [DoorState.opened, .heldAlarm, .forcedAlarm] := by decide

theorem witness_EntryIsGrantedOrRefused :
    let card := gateState .secure .normal
    let shut := gateState .secure .lockdown
    let both := terminalState .cardPin [] none .none
    let pin := terminalState .pin [0, 1, 2, 3] none .none
    (card.running = true ∧ (card.gateCfg 3).mode ≠ .openHold ∧ (card.cred 330).state ≠ .free ∧
      card.credByToken 777 = some 330 ∧ card.isRepeat 3 777 = false ∧ (card.cred 330).kind = .card ∧
      card.entryRefusal 3 (card.cred 330) = none) ∧
    shut.entryRefusal 3 (shut.cred 330) = some .lockdown ∧
    ((both.cred 330).kind = .cardPin ∧ both.credByToken 777 = some 330 ∧ (both.terminal 3).lockoutSince = none) ∧
    ((pin.terminal 3).buffer = [0, 1, 2, 3] ∧ (pin.terminal 3).card = none ∧ pin.credByPin [0, 1, 2, 3] = some 330 ∧
      pin.entryRefusal 3 (pin.cred 330) = none) := by decide

/-- At gate 3: cards no credential holds, a card with a PIN during a lockout, and one pending with its PIN or another. -/
theorem witness_EntryIsGrantedOrRefused_pending :
    let both := terminalState .cardPin [] none .none
    let locked : State := { both with gtc := { both.gtc with terminals := [(3, { startTerminal with lockoutSince := some 0 })] } }
    let hold : State → State := fun s =>
      { s with gtc := { s.gtc with cfg := [(3, { coldGateCfg 3 with mode := .openHold })] } }
    let right := terminalState .cardPin [0, 1, 2, 3] (some ⟨330, 0⟩) .none
    let wrong := terminalState .cardPin [9, 9, 9, 9] (some ⟨330, 0⟩) .none
    let alone := hold (terminalState .pin [0, 1, 2, 3] none .none)
    (both.isRepeat 3 778 = false ∧ both.credByToken 778 = none) ∧
    (locked.isRepeat 3 777 = false ∧ locked.credByToken 777 = some 330 ∧ (locked.cred 330).kind = .cardPin ∧
      (locked.terminal 3).lockoutSince.isSome = true) ∧
    (((gateState .secure .openHold).cred 330).kind = .card ∧ (gateState .secure .openHold).isRepeat 3 777 = false) ∧
    ((wrong.terminal 3).card = some ⟨330, 0⟩ ∧ (wrong.terminal 3).lockoutSince = none ∧
      (wrong.cred 330).pin ≠ some (wrong.terminal 3).buffer) ∧
    ((right.cred 330).pin = some (right.terminal 3).buffer ∧ (right.gateCfg 3).mode ≠ .openHold ∧
      (right.cred 330).state ≠ .free ∧ ((hold right).gateCfg 3).mode = .openHold) ∧
    ((alone.terminal 3).card = none ∧ alone.credByPin (alone.terminal 3).buffer = some 330) := by decide

theorem witness_KeypadTakesItsKeys :
    let s := terminalState .pin [9, 9, 9, 9] none .none
    let locked := withGtc fun g => { g with terminals := [(3, { startTerminal with lockoutSince := some 0 })] }
    let read := fun (reading : KeyReading) (scanner : Scanner) (n : Nat) =>
      (withGtc fun g => { g with terminals := [(3, { startTerminal with reading, scanner, equalScans := n })] }).terminal 3
    ((s.terminal 3).lockoutSince = none ∧ s.gtc.fuel.offer = none ∧ (s.terminal 3).card = none ∧ (s.terminal 3).buffer ≠ [] ∧
      s.credByPin (s.terminal 3).buffer = none) ∧
    (locked.terminal 3).lockoutSince.isSome = true ∧
    ((read (.one 5) .idle 1).equalScans < 2 ∧ (read (.one 5) .idle 1).reading = .one 5) ∧
    (2 ≤ (read (.one 5) .idle 2).equalScans ∧ (read (.one 5) .idle 2).scanner = .idle ∧
      (read (.one 5) (.key 4) 2).scanner = .key 4 ∧ (read (.one 5) (.key 5) 3).scanner = .key 5 ∧
      (read (.one 5) .multi 2).scanner = .multi) ∧
    (read .none (.key 5) 2).reading = .none ∧ (read .multi .idle 2).reading = .multi := by decide

theorem witness_DockTerminalOpensItsWindows :
    let s := terminalState .card [] none .none
    let pin := terminalState .cardPin [0, 1, 2, 3] (some ⟨330, 0⟩) .pin
    let hose := fun d => terminalState .card [d] (some ⟨330, 0⟩) .hose
    (s.running = true ∧ (s.terminal 7).lockoutSince = none ∧ s.gtc.fuel.offer = none ∧ s.credByToken 777 = some 330 ∧
      s.dockRefusal (s.cred 330) = none) ∧
    (gateState .secure .normal).dockRefusal { (gateState .secure .normal).cred 330 with fuel := false } = some .gate ∧
    (pin.gtc.fuel.window = .pin ∧ (pin.cred 330).pin = some (pin.terminal 7).buffer) ∧
    ((hose 4).gtc.fuel.window = .hose ∧ ((hose 4).terminal 7).buffer = [4]) ∧ ((hose 5).terminal 7).buffer = [5] ∧
    (let wrong := terminalState .cardPin [9, 9, 9, 9] (some ⟨330, 0⟩) .pin
     (wrong.cred 330).pin ≠ some (wrong.terminal 7).buffer ∧ (wrong.terminal 7).card = some ⟨330, 0⟩) ∧
    (let locked := withGtc fun g => { g with terminals := [(7, { startTerminal with lockoutSince := some 0 })] }
     (locked.terminal 7).lockoutSince.isSome = true) ∧
    s.credByToken 778 = none ∧
    (let shut := terminalState .card [1] none .none
     shut.gtc.fuel.window = .none ∧ (shut.terminal 7).buffer ≠ []) := by decide

theorem witness_TerminalTimersEnd :
    let s := terminalState .cardPin [1] (some ⟨330, 0⟩) .pin
    s.running = true ∧ (s.terminal 3).keySince.isSome = true ∧ (s.terminal 3).card.isSome = true ∧ s.gtc.fuel.window ≠ .none := by
  decide

/-- A state that meets the invariant, and a step from it. -/
theorem witness_EveryStepKeepsTheInvariant :
    ∃ s t, Inv s ∧ step s = .next t := ⟨bookingState .arrived (some 5), _, bookingState_inv _ _, rfl⟩

/-- A state that meets the feeders' invariant, and a step from it. -/
theorem witness_EveryStepKeepsFeedersWithinTheirLimit :
    ∃ s t, FeedersSound s ∧ step s = .next t := ⟨feederState grantedSocket, _, feederState_granted, rfl⟩

end Sys2Proof.Tests
end

section
/-! SUPPORT. The state in which a request or an event leaves the part: as its owner left it, but for the reply and the
transmit path (R194, R195); and what each request's owner has to say of itself for the command to answer so. -/

namespace Sys2Proof.Machine

/-- What every operation of a run keeps, the run keeps. -/
theorem foldl_keeps {σ α : Type} {kept : σ → σ → Prop} (refl : ∀ s, kept s s)
    (trans : ∀ {s t u}, kept s t → kept t u → kept s u) (f : σ → α → σ) (each : ∀ s a, kept s (f s a)) (l : List α)
    (s : σ) : kept s (l.foldl f s) := by
  induction l generalizing s with
  | nil => exact refl s
  | cons a rest ih => exact trans (each s a) (ih _)

/-! ## A command leaves the part as its owner did -/

namespace AsLeft

variable {s u t : State}

theorem trans {v : State} (h : AsLeft u t) (k : AsLeft t v) : AsLeft u v :=
  ⟨k.blocks.trans (by rw [h.blocks]), h.link.trans k.link, k.outgoing.trans h.outgoing⟩

theorem clk (h : AsLeft u t) : t.clk = u.clk := by rw [h.blocks]
theorem bal (h : AsLeft u t) : t.bal = u.bal := by rw [h.blocks]
theorem booking (h : AsLeft u t) (i : Nat) : t.booking i = u.booking i := by rw [State.booking, h.bal]; rfl
theorem berth (h : AsLeft u t) (i : Nat) : t.berth i = u.berth i := by rw [State.berth, h.bal]; rfl
theorem lowWaterOf (h : AsLeft u t) (day : Nat) : t.lowWaterOf day = u.lowWaterOf day := by
  rw [State.lowWaterOf, h.bal]; rfl

/-- What the owner left as it was is as it was. -/
theorem sameBut {parts : List Part} (h : AsLeft u t) (k : SameBut parts s u) : SameBut parts s t := by
  have hw : SameBut parts u { u with hlc := t.hlc } := .writeHlc u _ h.link
  exact k.trans (h.blocks ▸ hw)

theorem raises {l : List NoticeBody} (h : AsLeft u t) (k : Raises l s u) : Raises l s t :=
  fun room => h.outgoing.trans (k room)

theorem onlyBooking {b : Nat} (h : AsLeft u t) (k : OnlyBooking b s u) : OnlyBooking b s t :=
  ⟨by rw [h.bal]; exact k.1, fun j hj => (h.booking j).trans (k.2 j hj)⟩

end AsLeft

theorem asLeft_pump (u : State) : AsLeft u (pump u) where
  blocks := by unfold pump; split <;> rfl
  link := by
    unfold pump
    split
    · exact chooseFrame_linkKept _
    · exact LinkKept.refl _
  outgoing := pump_outgoing u

theorem asLeft_takeRequest (kind tag : Nat) (o : State → State × Answer) (s : State) :
    AsLeft (o s).1 (takeRequest kind tag o s) := ⟨rfl, ⟨rfl, rfl, rfl, rfl, rfl, rfl⟩, rfl⟩

/-- A request taken at once is answered as its owner says, and leaves the part as its owner does. -/
theorem request_answers {i : Instr} {kind tag : Nat} {items : List RawItem} {o : State → State × Answer} {s u : State}
    {a : Answer} (he : encodeRequest i = some ⟨kind, tag, items⟩) (hx : exec i s = .next (request i o s))
    (ht : s.takes = true) (ho : o s = (u, a)) : ∃ t, Replies i s t kind tag a ∧ AsLeft u t := by
  refine ⟨pump (takeRequest kind tag o s), ⟨by rw [hx, request_taken he ht], by simp [ho]⟩, ?_⟩
  have h := (asLeft_takeRequest kind tag o s).trans (asLeft_pump _)
  rwa [ho] at h

/-- An event of a running part leaves it as the event's operation does, the slot too. -/
theorem event_asLeft {f : State → State} {s : State} (h : s.running = true) :
    AsLeft (f s) (event f s) ∧ (event f s).reply = (f s).reply := by
  rw [event_running h]
  exact ⟨asLeft_pump _, pump_reply _⟩

theorem within_iff {lo hi v : Nat} : within lo hi v = true ↔ lo ≤ v ∧ v ≤ hi := by simp [within]

theorem within_true {lo hi v : Nat} (h : lo ≤ v) (k : v ≤ hi) : within lo hi v = true := within_iff.2 ⟨h, k⟩

theorem raises_of_hlc {s t : State} (h : t.hlc = s.hlc) : Raises [] s t := raises_nil (by rw [h])

end Sys2Proof.Machine
end

section
/-! SUPPORT. The low-water table (R5, R6, O20). -/

namespace Sys2Proof.Machine

/-- The low-water table read as a table whose unlisted days hold the default. -/
theorem lowWaterOf_eq_tableGet (s : State) (day : Nat) :
    s.lowWaterOf day = tableGet s.bal.lowWater s.bal.tides day := by
  unfold State.lowWaterOf
  induction s.bal.tides with
  | nil => rfl
  | cons e rest ih =>
    by_cases h : e.1 = day
    · simp [tableGet, h]
    · simpa [tableGet, h] using ih

/-- A table holds its start value at an index that no entry bears. -/
theorem tableGet_of_unlisted {α : Type} (d : α) (t : Table α) (i : Nat) (h : ∀ e ∈ t, e.1 ≠ i) : tableGet d t i = d := by
  induction t with
  | nil => rfl
  | cons e rest ih =>
    rw [tableGet, if_neg (h e List.mem_cons_self)]
    exact ih fun e he => h e (List.mem_cons_of_mem _ he)

theorem length_tableInsert_of_unlisted {α : Type} (t : Table α) (i : Nat) (x : α) (h : ∀ e ∈ t, e.1 ≠ i) :
    (tableInsert t i x).length = t.length + 1 := by
  induction t with
  | nil => rfl
  | cons e rest ih =>
    simp only [tableInsert, if_neg (h e List.mem_cons_self)]
    split
    · rfl
    · simp [ih fun e he => h e (List.mem_cons_of_mem _ he)]

section
variable {s : State} {day : Nat} (hl : s.clk.lastRoll ≤ day) (hd : day ≤ 65535)
include hl hd

theorem tideRow_absent (k : Nat) : tideRow k ⟨day, none⟩ s = .ok (s.setTides (tableErase s.bal.tides day)) := by
  simp [tideRow, within_true hl hd]

theorem tideRow_room {h : Int} (k : Nat) (lo : -300 ≤ h) (hi : h ≤ 800)
    (room : (∃ e ∈ s.bal.tides, e.1 = day) ∨ s.bal.tides.length < 64) :
    tideRow k ⟨day, some h⟩ s = .ok (s.setTides (tableInsert s.bal.tides day h)) := by
  have hr : (s.bal.tides.any fun e => decide (e.1 = day)) = true ∨ s.bal.tides.length < tideCapacity := by
    simpa [tideCapacity] using room
  simp only [tideRow, within_true hl hd, tideInsert, Bool.not_true, Bool.false_eq_true, if_false]
  rw [if_neg (by omega), if_pos hr]

/-- R6: a full table gives up its oldest entry for a later day. -/
theorem tideRow_full {h height : Int} {oldest : Nat} {rest : List (Nat × Int)} (k : Nat) (lo : -300 ≤ h) (hi : h ≤ 800)
    (ht : s.bal.tides = (oldest, height) :: rest) (full : s.bal.tides.length = 64) (new : ∀ e ∈ s.bal.tides, e.1 ≠ day)
    (older : oldest < day) : tideRow k ⟨day, some h⟩ s = .ok (s.setTides (tableInsert rest day h)) := by
  have hr : ¬((s.bal.tides.any fun e => decide (e.1 = day)) = true ∨ s.bal.tides.length < tideCapacity) := by
    rintro (hp | hp)
    · obtain ⟨e, he, hd⟩ := List.any_eq_true.1 hp
      exact new e he (of_decide_eq_true hd)
    · exact absurd hp (by simp [tideCapacity, full])
  simp only [tideRow, within_true hl hd, tideInsert, Bool.not_true, Bool.false_eq_true, if_false]
  rw [if_neg (by omega), if_neg hr]
  simp [ht, older]

end

/-- A TIDE_PUT of one row that is accepted answers so, and writes the low-water table alone. -/
theorem tidePut_answers {tag : Nat} {r : TideRow} {s : State} {l : List (Nat × Int)} (ht : s.takes = true)
    (hr : tideRow 0 r s = .ok (s.setTides l)) :
    ∃ t, Replies (.tidePut tag [.row r]) s t 0x12 tag (rowsWritten 1) ∧ AsLeft (s.setTides l) t :=
  request_answers rfl rfl ht (multiPut_one (most := 16) (by decide) hr)

theorem setTides_sameBut (s : State) (l : List (Nat × Int)) : SameBut [.berths] s (s.setTides l) :=
  (SameBut.refl _ s).setTides (by decide) l

/-- Settles O20: the low-water table is a table whose unlisted days hold the default, and a row inserts or erases its
day's entry. -/
theorem tidePutSetsTheDay : Obligations.TidePutSetsTheDay := by
  unfold Obligations.TidePutSetsTheDay
  intro tag day h s ht hl hd
  refine ⟨fun lo hi room => ?_, fun oldest height rest lo hi hs full new unique older => ?_, ?_⟩
  · obtain ⟨t, hr, hu⟩ := tidePut_answers (tag := tag) ht (tideRow_room hl hd 0 lo hi room)
    refine ⟨t, hr, hu.sameBut (setTides_sameBut ..), by rw [hu.bal]; rfl, hu.raises (raises_of_hlc rfl), fun j => ?_⟩
    rw [hu.lowWaterOf, lowWaterOf_eq_tableGet, lowWaterOf_eq_tableGet]
    exact tableGet_tableInsert ..
  · obtain ⟨t, hr, hu⟩ := tidePut_answers (tag := tag) ht (tideRow_full hl hd 0 lo hi hs full new older)
    rw [hs] at full new
    have fresh : ∀ e ∈ rest, e.1 ≠ day := fun e he => new e (List.mem_cons_of_mem _ he)
    refine ⟨t, hr, hu.sameBut (setTides_sameBut ..), by rw [hu.bal]; rfl, ?_, fun j => ?_⟩
    · rw [hu.bal]
      exact (length_tableInsert_of_unlisted rest day h fresh).trans full
    · rw [hu.lowWaterOf, lowWaterOf_eq_tableGet, lowWaterOf_eq_tableGet, hs]
      refine (tableGet_tableInsert _ rest day j h).trans (if_congr Iff.rfl rfl ?_)
      by_cases hj : j = oldest
      · simp [hj, tableGet_of_unlisted _ rest oldest unique]
      · simp [tableGet, hj, Ne.symm hj]
  · obtain ⟨t, hr, hu⟩ := tidePut_answers (tag := tag) ht (tideRow_absent hl hd 0)
    refine ⟨t, hr, hu.sameBut (setTides_sameBut ..), by rw [hu.bal]; rfl, hu.raises (raises_of_hlc rfl), fun j => ?_⟩
    rw [hu.lowWaterOf, lowWaterOf_eq_tableGet, lowWaterOf_eq_tableGet]
    exact tableGet_tableErase ..

end Sys2Proof.Machine
end

section
/-! SUPPORT. The choice of a least element of an ascending list, as placement (R15) and the choice of a record (R27) make
it: the library's `List.argmin`. -/

namespace Sys2Proof.Machine

/-- Of an ascending list, the first element with the least key. -/
theorem argmin_eq_some_of_ascending {β : Type} [LinearOrder β] {key : Nat → β} {l : List Nat} {m : Nat}
    (asc : l.Pairwise (· < ·)) :
    l.argmin key = some m ↔ m ∈ l ∧ ∀ a ∈ l, a ≠ m → key m < key a ∨ (key m = key a ∧ m < a) := by
  have before : ∀ a ∈ l, ∀ b ∈ l, a < b → l.idxOf a < l.idxOf b := by
    intro a ha b hb hab
    by_contra hle
    have hle : l.idxOf b ≤ l.idxOf a := by omega
    have hle := asc.sortedLT.strictMono_get.monotone
      (show (⟨_, List.idxOf_lt_length_of_mem hb⟩ : Fin l.length) ≤ ⟨_, List.idxOf_lt_length_of_mem ha⟩ from hle)
    simp only [List.get_eq_getElem, List.getElem_idxOf] at hle
    omega
  rw [List.argmin_eq_some_iff]
  refine and_congr_right fun hm => ⟨fun ⟨least, first⟩ a ha hne => ?_, fun h => ⟨fun a ha => ?_, fun a ha hle => ?_⟩⟩
  · rcases (least a ha).lt_or_eq with hlt | heq
    · exact .inl hlt
    · refine .inr ⟨heq, lt_of_not_ge fun hge => ?_⟩
      have := before a ha m hm (by omega)
      have := first a ha heq.ge
      omega
  · by_cases hne : a = m
    · rw [hne]
    · rcases h a ha hne with hlt | ⟨heq, -⟩
      · exact hlt.le
      · exact heq.le
  · by_cases hne : a = m
    · rw [hne]
    · rcases h a ha hne with hlt | ⟨-, hlt⟩
      · exact absurd hle (not_le_of_gt hlt)
      · exact (before m hm a ha hlt).le

theorem ascending_filter_range (n : Nat) (p : Nat → Bool) : ((List.range n).filter p).Pairwise (· < ·) :=
  List.pairwise_lt_range.filter p

end Sys2Proof.Machine
end

section
/-! SUPPORT. Placement (R13 to R15, O21). -/

namespace Sys2Proof.Machine

/-! ## The tests of R13 and R14 -/

theorem onBerth_iff (k : Booking) (b : Nat) :
    k.onBerth b = true ↔ (k.state = .confirmed ∨ k.state = .arrived) ∧ k.berth = some b := by
  simp [Booking.onBerth]

/-- Test 4 of R13. -/
theorem nightsFree_iff (s : State) (berth : Nat) (self : Option Nat) (a z : Nat) :
    s.nightsFree berth self a z = true ↔
      ∀ e ∈ s.bal.bookings, e.2.state = .confirmed ∨ e.2.state = .arrived → e.2.berth = some berth → self ≠ some e.1 →
        e.2.dep ≤ a ∨ z ≤ e.2.arr := by
  unfold State.nightsFree
  rw [List.all_eq_true]
  refine forall₂_congr fun e _ => ?_
  have hn : e.2.holdsAny a z = true ↔ e.2.arr < z ∧ a < e.2.dep := by simp [Booking.holdsAny]
  have ho := onBerth_iff e.2 berth
  constructor
  · intro h hs hb hself
    have : e.2.holdsAny a z = false := by simpa [ho.2 ⟨hs, hb⟩, hself] using h
    by_contra hc
    rw [hn.2 (by omega)] at this
    cases this
  · intro h
    simp only [Bool.or_eq_true, Bool.not_eq_true', decide_eq_true_eq]
    by_cases hself : self = some e.1
    · exact .inr hself
    · by_cases hon : e.2.onBerth berth = true
      · have hfree := h (ho.1 hon).1 (ho.1 hon).2 hself
        refine .inl (.inr (Bool.eq_false_iff.2 fun hh => ?_))
        have := hn.1 hh
        omega
      · exact .inl (.inl (Bool.eq_false_iff.2 hon))

theorem le_foldl_min_iff {α : Type} (f : α → Int) (l : List α) (x y : Int) :
    x ≤ l.foldl (fun m a => min m (f a)) y ↔ x ≤ y ∧ ∀ a ∈ l, x ≤ f a := by
  induction l generalizing y with
  | nil => simp
  | cons a rest ih => simp [ih, and_assoc]

/-- R14: a bound is at most the lowest of the low waters when it is at most each. -/
theorem le_lowest_iff (water : Nat → Int) {arr dep : Nat} (h : arr ≤ dep) (x : Int) :
    x ≤ lowest water arr dep ↔ ∀ day, arr ≤ day → day ≤ dep → x ≤ water day := by
  unfold lowest
  rw [le_foldl_min_iff]
  constructor
  · rintro ⟨first, later⟩ day lo hi
    rcases Nat.eq_or_lt_of_le lo with rfl | lo
    · exact first
    · have := later (day - arr - 1) (List.mem_range.2 (by omega))
      rwa [show arr + (day - arr - 1) + 1 = day by omega] at this
  · intro all
    refine ⟨all arr (le_refl _) h, fun k hk => all _ (by omega) ?_⟩
    have := List.mem_range.1 hk
    omega

theorem deepEnough_iff (margin : Nat) (water : Nat → Int) (x : Berth) (boat : Boat) (h : boat.arr ≤ boat.dep) :
    deepEnough margin water x boat = true ↔
      ∀ day, boat.arr ≤ day → day ≤ boat.dep → (boat.draught : Int) + margin ≤ x.depth + water day := by
  have hw := le_lowest_iff water h ((boat.draught : Int) + margin - x.depth)
  simp only [sub_le_iff_le_add'] at hw
  simpa [deepEnough, add_comm] using hw

theorem offered_iff (x : Berth) : x.offered = true ↔ x.cls = .visitor ∨ x.cls = .resident ∧ x.visitorOk = true := by
  simp [Berth.offered]

theorem holds_iff (x : Berth) (boat : Boat) : x.holds boat = true ↔ boat.loa ≤ x.maxLoa ∧ boat.beam ≤ x.maxBeam := by
  simp [Berth.holds]

theorem fitsBoat_iff (s : State) (water : Nat → Int) (berth : Nat) (boat : Boat) (h : boat.arr ≤ boat.dep) :
    s.fitsBoat water berth boat = true ↔
      ((s.berth berth).cls = .visitor ∨ (s.berth berth).cls = .resident ∧ (s.berth berth).visitorOk = true) ∧
      boat.loa ≤ (s.berth berth).maxLoa ∧ boat.beam ≤ (s.berth berth).maxBeam ∧
      ∀ day, boat.arr ≤ day → day ≤ boat.dep → (boat.draught : Int) + s.bal.margin ≤ (s.berth berth).depth + water day := by
  simp only [State.fitsBoat, Bool.and_eq_true, offered_iff, holds_iff, deepEnough_iff _ _ _ _ h, and_assoc]

theorem candidate_iff (s : State) (water : Nat → Int) (boat : Boat) (left : Option Nat) (b : Nat) :
    s.candidate water boat left b = true ↔
      (s.berth b).state = .inService ∧ s.fitsBoat water b boat = true ∧ left ≠ some b ∧
      s.nightsFree b boat.self boat.arr boat.dep = true := by
  simp only [State.candidate, State.fitsBoat, Bool.and_eq_true, decide_eq_true_eq]
  tauto

/-! ## The choice of R15 -/

theorem keyBefore_iff (x y : Nat × Nat × Nat × Nat) :
    keyBefore x y = true ↔
      x.1 < y.1 ∨ (x.1 = y.1 ∧ (x.2.1 < y.2.1 ∨ (x.2.1 = y.2.1 ∧
        (x.2.2.1 < y.2.2.1 ∨ (x.2.2.1 = y.2.2.1 ∧ x.2.2.2 < y.2.2.2))))) := by
  simp [keyBefore]

/-- The keys of R15 as an element of the lexicographic order. -/
def placeKey (s : State) (preference b : Nat) : Nat ×ₗ Nat ×ₗ Nat ×ₗ Nat :=
  toLex ((s.keys preference b).1, toLex ((s.keys preference b).2.1,
    toLex ((s.keys preference b).2.2.1, (s.keys preference b).2.2.2)))

theorem placeKey_lt_iff (s : State) (preference b c : Nat) :
    placeKey s preference b < placeKey s preference c ↔
      keyBefore (s.keys preference b) (s.keys preference c) = true := by
  simp only [placeKey, keyBefore_iff, Prod.Lex.toLex_lt_toLex]

theorem better_eq_argAux (s : State) (preference : Nat) :
    s.better preference = List.argAux fun b c => placeKey s preference b < placeKey s preference c := by
  funext best b
  cases best with
  | none => rfl
  | some c => simp [State.better, List.argAux, placeKey_lt_iff]

/-- R15: placement takes the least of the candidates by the keys. -/
theorem place_eq_argmin (s : State) (water : Nat → Int) (boat : Boat) (preference : Nat) (left : Option Nat) :
    s.place water boat preference left =
      ((List.range 256).filter (s.candidate water boat left)).argmin (placeKey s preference) := by
  rw [State.place, better_eq_argAux]
  rfl

theorem place_eq_none_iff (s : State) (water : Nat → Int) (boat : Boat) (preference : Nat) (left : Option Nat) :
    s.place water boat preference left = none ↔ ∀ b < 256, s.candidate water boat left b = false := by
  simp [place_eq_argmin]

theorem place_eq_some_iff (s : State) (water : Nat → Int) (boat : Boat) (preference : Nat) (left : Option Nat) (b : Nat) :
    s.place water boat preference left = some b ↔
      b < 256 ∧ s.candidate water boat left b = true ∧
      ∀ c < 256, s.candidate water boat left c = true → c ≠ b →
        keyBefore (s.keys preference b) (s.keys preference c) = true := by
  rw [place_eq_argmin, argmin_eq_some_of_ascending (ascending_filter_range _ _)]
  have own : ∀ c, c ≠ b → placeKey s preference b ≠ placeKey s preference c := by
    intro c hc h
    exact hc (congrArg (fun k => (ofLex (ofLex (ofLex k).2).2).2) h).symm
  simp only [List.mem_filter, List.mem_range, and_imp, and_assoc, ← placeKey_lt_iff]
  refine and_congr_right fun _ => and_congr_right fun _ => forall₂_congr fun c _ => forall₂_congr fun _ hne => ?_
  simp [own c hne]

/-- R22: a move does not lead back to the berth it leaves. -/
theorem place_ne_left {s : State} {water : Nat → Int} {boat : Boat} {preference old new : Nat}
    (h : s.place water boat preference (some old) = some new) : new ≠ old := by
  have hc := (candidate_iff ..).1 ((place_eq_some_iff ..).1 h).2.1
  rintro rfl
  exact hc.2.2.1 rfl

/-- Settles O21: placement is the least of the candidates by the lexicographic order of R15's keys, which tell any two
berths apart. -/
theorem placementChoosesTheTightestBerth : Obligations.PlacementChoosesTheTightestBerth := by
  unfold Obligations.PlacementChoosesTheTightestBerth
  refine ⟨fun water boat left b s h => ?_, fun day s => ?_, fun water boat preference left s => ⟨?_, fun b => ?_⟩⟩
  · rw [candidate_iff, fitsBoat_iff _ _ _ _ h, nightsFree_iff]
    tauto
  · unfold State.lowWaterOf
    cases s.bal.tides.find? fun e => decide (e.1 = day) <;> rfl
  · exact place_eq_none_iff ..
  · simp only [place_eq_some_iff, keyBefore_iff]
    rfl

end Sys2Proof.Machine
end

section
/-! SUPPORT. The record of a new booking (R27), and the requests that place a booking (R17 to R20, O22). -/

namespace Sys2Proof.Machine

/-! ## The choice of a record (R27) -/

theorem isClosed_iff (k : Booking) : k.isClosed = true ↔ k.state ∈ [BookState.departed, .cancelled, .noShow] := by
  simp [Booking.isClosed, or_assoc]

/-- A record whose booking goes on is neither FREE nor in one of the closed states (R25). -/
theorem open_iff_not_free_not_closed (k : Booking) :
    k.state ∈ [BookState.confirmed, .arrived, .unplaced] ↔ k.state ≠ .free ∧ k.isClosed = false := by
  cases h : k.state <;> simp [Booking.isClosed, h]

/-- The closed time of a record as R27 compares it. -/
def State.closedAt (s : State) (i : Nat) : Stamp := (s.booking i).closedTime.getD ⟨0, 0⟩

/-- A moment as an element of the lexicographic order. -/
def stampKey (t : Stamp) : Nat ×ₗ Nat := toLex (t.day, t.sec)

theorem stampKey_lt_iff (t u : Stamp) : stampKey t < stampKey u ↔ t.day < u.day ∨ t.day = u.day ∧ t.sec < u.sec := by
  simp only [stampKey, Prod.Lex.toLex_lt_toLex]

theorem stampKey_eq_iff (t u : Stamp) : stampKey t = stampKey u ↔ t.day = u.day ∧ t.sec = u.sec := by
  simp [stampKey]

/-- The closed records, ascending. -/
def State.closedRecords (s : State) : List Nat := (List.range 512).filter fun i => (s.booking i).isClosed

theorem closedRecords_ascending (s : State) : s.closedRecords.Pairwise (· < ·) := ascending_filter_range _ _

theorem mem_closedRecords (s : State) (i : Nat) :
    i ∈ s.closedRecords ↔ i < 512 ∧ (s.booking i).state ∈ [BookState.departed, .cancelled, .noShow] := by
  rw [State.closedRecords, List.mem_filter, List.mem_range, isClosed_iff]

/-- The older by its closed time of a record so far and a further one. -/
def State.olderClosed (s : State) (best : Option Nat) (i : Nat) : Option Nat :=
  match best with
  | none => some i
  | some j => if stampBefore (s.closedAt i) (s.closedAt j) then some i else some j

theorem olderClosed_eq_argAux (s : State) :
    s.olderClosed = List.argAux fun b c => stampKey (s.closedAt b) < stampKey (s.closedAt c) := by
  funext best i
  cases best with
  | none => rfl
  | some j => simp [State.olderClosed, List.argAux, stampKey_lt_iff, stampBefore]

theorem foldl_olderClosed (s : State) (l : List Nat) :
    l.foldl s.olderClosed none = l.argmin fun i => stampKey (s.closedAt i) := by
  rw [olderClosed_eq_argAux]
  rfl

/-- R27: the lowest FREE record, else the first of the closed ones with the oldest closed time. -/
theorem recordFor_eq (s : State) :
    s.recordFor = ((List.range 512).find? fun i => decide ((s.booking i).state = .free)).or
      (s.closedRecords.argmin fun i => stampKey (s.closedAt i)) := by
  rw [← foldl_olderClosed]
  unfold State.recordFor State.closedRecords
  generalize hl : List.range 512 = l
  have hcount : List.range bookingCount = l := hl
  rw [hcount]
  cases l.find? fun i => decide ((s.booking i).state = .free) <;> rfl

theorem recordFor_of_free {s : State} {r : Nat} (hr : r < 512) (hf : (s.booking r).state = .free)
    (first : ∀ i < r, (s.booking i).state ≠ .free) : s.recordFor = some r := by
  have h : ((List.range 512).find? fun i => decide ((s.booking i).state = .free)) = some r :=
    List.find?_range_eq_some.2 ⟨by simpa using hf, List.mem_range.2 hr, fun j hj => by simpa using first j hj⟩
  rw [recordFor_eq, h, Option.some_or]

theorem recordFor_of_no_free {s : State} (h : ∀ i < 512, (s.booking i).state ≠ .free) :
    s.recordFor = s.closedRecords.argmin fun i => stampKey (s.closedAt i) := by
  have hn : ((List.range 512).find? fun i => decide ((s.booking i).state = .free)) = none := by
    simpa using h
  rw [recordFor_eq, hn, Option.none_or]

/-- There is a FREE record of the lowest index, or there is none. -/
theorem first_free_or_none (s : State) :
    (∃ r < 512, (s.booking r).state = .free ∧ ∀ i < r, (s.booking i).state ≠ .free) ∨
      ∀ i < 512, (s.booking i).state ≠ .free := by
  by_cases h : ∃ r, r < 512 ∧ (s.booking r).state = .free
  · have hr := Nat.find_spec h
    refine .inl ⟨Nat.find h, hr.1, hr.2, fun i hi hf => Nat.find_min h hi ⟨by omega, hf⟩⟩
  · exact .inr fun i hi hf => h ⟨i, hi, hf⟩

theorem recordFor_eq_none_iff (s : State) :
    s.recordFor = none ↔ ∀ i < 512, (s.booking i).state ∈ [BookState.confirmed, .arrived, .unplaced] := by
  rcases first_free_or_none s with ⟨r, hr, hf, first⟩ | none
  · rw [recordFor_of_free hr hf first]
    refine iff_of_false (by simp) fun h => ?_
    simpa [hf] using h r hr
  · rw [recordFor_of_no_free none, List.argmin_eq_none]
    simp only [State.closedRecords, List.filter_eq_nil_iff, List.mem_range, Bool.not_eq_true]
    refine forall₂_congr fun i hi => ?_
    rw [open_iff_not_free_not_closed]
    exact (and_iff_right (none i hi)).symm

/-- The order of R27 on closed records. -/
def closedBefore (s : State) (i j : Nat) : Prop :=
  (s.closedAt i).day < (s.closedAt j).day ∨ ((s.closedAt i).day = (s.closedAt j).day ∧
    ((s.closedAt i).sec < (s.closedAt j).sec ∨ ((s.closedAt i).sec = (s.closedAt j).sec ∧ i < j)))

theorem recordFor_eq_some_iff (s : State) (r : Nat) :
    s.recordFor = some r ↔
      r < 512 ∧
      (((s.booking r).state = .free ∧ ∀ i < r, (s.booking i).state ≠ .free) ∨
        ((∀ i < 512, (s.booking i).state ≠ .free) ∧ (s.booking r).state ∈ [BookState.departed, .cancelled, .noShow] ∧
          ∀ i < 512, (s.booking i).state ∈ [BookState.departed, .cancelled, .noShow] → i ≠ r → closedBefore s r i)) := by
  rcases first_free_or_none s with ⟨q, hq, hf, first⟩ | none
  · rw [recordFor_of_free hq hf first]
    constructor
    · rintro ⟨⟩
      exact ⟨hq, .inl ⟨hf, first⟩⟩
    · rintro ⟨hr, ⟨hfr, firstr⟩ | ⟨none, -⟩⟩
      · congr 1
        by_contra hne
        rcases Nat.lt_or_gt_of_ne hne with hlt | hlt
        · exact firstr q hlt hf
        · exact first r hlt hfr
      · exact absurd hf (none q hq)
  · rw [recordFor_of_no_free none, argmin_eq_some_of_ascending (closedRecords_ascending s)]
    have order : ∀ i, (stampKey (s.closedAt r) < stampKey (s.closedAt i) ∨
        stampKey (s.closedAt r) = stampKey (s.closedAt i) ∧ r < i) ↔ closedBefore s r i := by
      intro i
      rw [stampKey_lt_iff, stampKey_eq_iff, closedBefore]
      tauto
    simp only [mem_closedRecords, and_imp, order]
    constructor
    · rintro ⟨⟨hr, hc⟩, least⟩
      exact ⟨hr, .inr ⟨none, hc, least⟩⟩
    · rintro ⟨hr, ⟨hfr, -⟩ | ⟨-, hc, least⟩⟩
      · exact absurd hfr (none r hr)
      · exact ⟨⟨hr, hc⟩, least⟩

/-! ## Writing one booking -/

theorem setBooking_onlyBooking (s : State) (b : Nat) (x : Booking) : OnlyBooking b s (s.setBooking b x) :=
  ⟨rfl, fun j hj => by simp [hj]⟩

/-- A request that is accepted and writes one booking answers so, and nothing else changes. -/
theorem booking_request_answers {i : Instr} {kind tag b : Nat} {raw : List RawItem} {items : List Item}
    {o : State → State × Answer} {s : State} {x : Booking} (he : encodeRequest i = some ⟨kind, tag, raw⟩)
    (hx : exec i s = .next (request i o s)) (ht : s.takes = true) (ho : o s = accept items (s.setBooking b x)) :
    ∃ t, Replies i s t kind tag ⟨.ok, 0, items⟩ ∧ SameBut [.berths] s t ∧ Raises [] s t ∧ OnlyBooking b s t ∧
      t.booking b = x := by
  obtain ⟨t, hr, hu⟩ := request_answers he hx ht ho
  refine ⟨t, hr, hu.sameBut ((SameBut.refl _ s).setBooking (by decide) b x), hu.raises (raises_of_hlc rfl),
    hu.onlyBooking (setBooking_onlyBooking s b x), ?_⟩
  rw [hu.booking]
  simp

/-! ## The checks of R16, R18 and R19 -/

/-- R16: an acceptable booking passes the checks of its fields. -/
theorem newChecks_pass {n : NewBooking} {s : State} (h : Acceptable n s) : ∀ c ∈ newChecks n false s, c.1 = false := by
  obtain ⟨hset, ⟨ha, ha'⟩, ⟨hl, hl'⟩, ⟨hb, hb'⟩, ⟨hd, hd'⟩, ⟨hn, hn', hn''⟩, ⟨hv, hv'⟩, ho⟩ := h
  have e₁ := within_true ha ha'
  have e₂ := within_true hl hl'
  have e₃ := within_true hb hb'
  have e₄ := within_true hd hd'
  have e₅ : within 0 65535 n.arr = true := within_true (Nat.zero_le _) (by omega)
  have e₆ := within_true (Nat.zero_le _) hn''
  have e₇ : within (n.arr + 1) (n.arr + 60) n.dep = true := within_true hn hn'
  have e₈ := within_true hv hv'
  simp [newChecks, hset, e₁, e₂, e₃, e₄, e₅, e₆, e₇, e₈, ho]

section
variable {berth : Nat} {boat : Boat} {force : Bool} {s : State}

/-- R18: a named berth that is IN_SERVICE, not SERVICE, free in the nights, and fits unless forced, passes. -/
theorem berthChecks_pass (hs : (s.berth berth).state = .inService) (hc : (s.berth berth).cls ≠ .service)
    (hn : s.nightsFree berth boat.self boat.arr boat.dep = true)
    (hf : force = true ∨ s.fitsBoat s.lowWaterOf berth boat = true) : ∀ c ∈ berthChecks berth boat force s, c.1 = false := by
  rcases hf with hf | hf <;> simp [berthChecks, hs, hc, hn, hf]

/-- R19: an UNPLACED booking whose stay is not over passes. -/
theorem placeChecks_pass {b : Nat} (hset : s.clk.isSet = true) (hb : b ≤ 511) (hu : (s.booking b).state = .unplaced)
    (hd : s.night < (s.booking b).dep) : ∀ c ∈ placeChecks b false s, c.1 = false := by
  simp [placeChecks, hset, within_true (Nat.zero_le b) hb, hu, hd]

end

/-! ## The requests -/

section
variable {n : NewBooking} {r berth : Nat} {s : State} (ha : Acceptable n s) (hr : s.recordFor = some r)
include ha hr

/-- R17. -/
theorem bookAlloc_placed {preference : Nat} (hp : preference ≤ 8)
    (hb : s.place s.lowWaterOf (boatOfNew n) preference none = some berth) :
    bookAlloc n preference s = accept [⟨0x11, [.u 2 r, .u 1 berth]⟩] (s.setBooking r (newRecord n berth)) := by
  have checks := newChecks_pass ha
  rw [bookAlloc, within_true (Nat.zero_le _) hp, Bool.not_true, checked_pass checks]
  simp only [hr, hb]
  rfl

/-- R18. -/
theorem bookFixed_placed {force : Bool} (hb : berth ≤ 255) (hs : (s.berth berth).state = .inService)
    (hc : (s.berth berth).cls ≠ .service) (hn : s.nightsFree berth none n.arr n.dep = true)
    (hf : force = true ∨ s.fitsBoat s.lowWaterOf berth (boatOfNew n) = true) :
    bookFixed n berth force s = accept [⟨0x11, [.u 2 r, .u 1 berth]⟩] (s.setBooking r (newRecord n berth)) := by
  have checks := newChecks_pass ha
  rw [bookFixed, within_true (Nat.zero_le _) hb, Bool.not_true, checked_pass checks]
  simp only [hr]
  rw [checked_pass (berthChecks_pass hs hc hn hf)]
  rfl

end

section
variable {b berth : Nat} {s : State} (hset : s.clk.isSet = true) (hb : b ≤ 511) (hu : (s.booking b).state = .unplaced)
  (hd : s.night < (s.booking b).dep)
include hset hb hu hd

/-- R19. -/
theorem bookFixedIndex_placed {force : Bool} (hi : berth ≤ 255) (hs : (s.berth berth).state = .inService)
    (hc : (s.berth berth).cls ≠ .service) (hn : s.nightsFree berth (some b) (s.booking b).arr (s.booking b).dep = true)
    (hf : force = true ∨ s.fitsBoat s.lowWaterOf berth (boatOf b (s.booking b)) = true) :
    bookFixedIndex b berth force s =
      accept [⟨0x11, [.u 1 berth]⟩] (s.setBooking b { s.booking b with state := .confirmed, berth := some berth }) := by
  rw [bookFixedIndex, within_true (Nat.zero_le _) hi, Bool.not_true, checked_pass]
  · rfl
  · intro c hc'
    rcases List.mem_append.1 hc' with h | h
    · exact placeChecks_pass hset hb hu hd c h
    · exact berthChecks_pass hs hc hn hf c h

/-- R20. -/
theorem bookPlace_placed {preference : Nat} (hp : preference ≤ 8)
    (hw : s.place s.lowWaterOf (boatOf b (s.booking b)) preference none = some berth) :
    bookPlace b preference s =
      accept [⟨0x11, [.u 1 berth]⟩] (s.setBooking b { s.booking b with state := .confirmed, berth := some berth }) := by
  rw [bookPlace, within_true (Nat.zero_le _) hp, Bool.not_true, checked_pass (placeChecks_pass hset hb hu hd)]
  simp only [hw]
  rfl

end

/-- Settles O22: the record is the first FREE one or the argmin of the closed times, and each request whose checks pass
writes one booking record. -/
theorem bookingTakesItsBerth : Obligations.BookingTakesItsBerth := by
  unfold Obligations.BookingTakesItsBerth
  refine ⟨fun s => ⟨recordFor_eq_none_iff s, recordFor_eq_some_iff s⟩,
    fun berth self a z s => nightsFree_iff s berth self a z,
    fun water berth boat s h => fitsBoat_iff s water berth boat h, ?_, ?_⟩
  · intro tag r berth n s ht ha hr
    exact ⟨fun preference hp hb => booking_request_answers rfl rfl ht (bookAlloc_placed ha hr hp hb),
      fun force hb hs hc hn hf => booking_request_answers rfl rfl ht (bookFixed_placed ha hr hb hs hc hn hf)⟩
  · intro tag b berth s ht hset hb hu hd
    exact ⟨fun force hi hs hc hn hf =>
        booking_request_answers rfl rfl ht (bookFixedIndex_placed hset hb hu hd hi hs hc hn hf),
      fun preference hp hw => booking_request_answers rfl rfl ht (bookPlace_placed hset hb hu hd hp hw)⟩

end Sys2Proof.Machine
end

section
/-! SUPPORT. The reads (R4, R7, R26, R56, R61, R75, R101, R109, R115, R135, R136, R139, R159, R165, R198, O18). -/

namespace Sys2Proof.Machine

/-- A request whose owner changes nothing answers as the owner says, and nothing changes. -/
theorem read_answers {i : Instr} {kind tag : Nat} {raw : List RawItem} {o : State → State × Answer} {s : State}
    {a : Answer} (he : encodeRequest i = some ⟨kind, tag, raw⟩) (hx : exec i s = .next (request i o s))
    (ht : s.takes = true) (ho : o s = (s, a)) : ∃ t, Replies i s t kind tag a ∧ SameBut [] s t ∧ Raises [] s t := by
  obtain ⟨t, hr, hu⟩ := request_answers he hx ht ho
  exact ⟨t, hr, hu.sameBut (.refl _ s), hu.raises (raises_of_hlc rfl)⟩

/-- R206: a get within its ranges answers the number of its records and the records. -/
theorem getRecords_accept {start count first last most per : Nat} (items : Nat → List Item) (s : State)
    (h₁ : first ≤ start) (h₂ : start ≤ last) (h₃ : 1 ≤ count) (h₄ : count ≤ most) :
    getRecords start count first last most per items s =
      accept (⟨0x11, [.u 1 (min (min count (last + 1 - start)) (14 / per))]⟩ ::
        (List.range (min (min count (last + 1 - start)) (14 / per))).flatMap fun k => items (start + k)) s := by
  simp [getRecords, within_true h₁ h₂, within_true h₃ h₄, getRange, resultItem, List.flatMap_map, Nat.add_comm]

/-- R4: the entries of berths, their nightly fees in the result item. -/
theorem berthGet_entries {start count : Nat} (s : State) (h₂ : start ≤ 255) (h₃ : 1 ≤ count) (h₄ : count ≤ 16) :
    berthGet (.entries start count) s =
      let l := (List.range (min (min count (256 - start)) 14)).map (start + ·)
      accept (⟨0x11, .u 1 l.length :: l.map fun i => .u 4 (s.berth i).fee⟩ :: l.map (berthItem s)) s := by
  have hrange : getRange start count 255 1 = (List.range (min (min count (256 - start)) 14)).map (start + ·) := by
    simp [getRange, Nat.add_comm]
  simp only [berthGet, within_true (Nat.zero_le start) h₂, within_true h₃ h₄, Bool.and_self, if_true, hrange]
  rfl

/-- R4: sixteen of a berth's calendar at most. -/
theorem berthGet_calendar {berth : Nat} (position : Nat) (s : State) (h : berth ≤ 255) :
    berthGet (.calendar berth position) s =
      let l := ((s.calendar berth).drop position).take 16
      accept [⟨0x11, .u 1 l.length :: l.flatMap fun e => [.u 2 e.1, .u 2 e.2.arr, .u 2 e.2.dep]⟩] s := by
  simp only [berthGet, within_true (Nat.zero_le berth) h, if_true]
  rfl

/-- R7. -/
theorem tideGet_accept {start count : Nat} (s : State) (h₂ : start ≤ 65535) (h₃ : 1 ≤ count) (h₄ : count ≤ 16) :
    tideGet start count s =
      let l := (s.bal.tides.filter fun e => decide (start ≤ e.1)).take (min count 14)
      accept (⟨0x11, [.u 1 l.length, .u 1 s.bal.tides.length, .i 2 s.bal.lowWater]⟩ :: l.map tideItem) s := by
  simp only [tideGet, within_true (Nat.zero_le start) h₂, within_true h₃ h₄, Bool.and_self, if_true]
  rfl

/-- R75. -/
theorem clockGet_accept (s : State) :
    clockGet s = accept
      [⟨0x11, [.u 2 s.clk.day, .u 3 s.clk.sec, .u 1 s.clk.frac, .u 1 (if s.clk.isSet then 1 else 0), .u 2 s.clk.lastRoll,
        .u 2 s.night, enumField bands s.band,
        .u 2 (if 65535 ≤ max s.clk.lastRoll s.night then Config.nextRolloverPastRange (max s.clk.lastRoll s.night)
          else max s.clk.lastRoll s.night + 1),
        .u 3 (s.clk.rollHour * 3600),
        .u 3 (if s.clk.isSet then s.clk.settleTimer else nextInterval s.clk.interval s.clk.sec)]⟩] s := rfl

/-- R115. -/
theorem feederPoll_accept {f : Nat} (s : State) (h₁ : 1 ≤ f) (h₂ : f ≤ 8) :
    feederPoll f s = accept [⟨0x11, pollFields f s⟩] s := by
  simp only [feederPoll, within_true h₁ h₂, if_true]
  rfl

/-- R139: the record of a number in the queue. -/
theorem salePeek_found {n : Nat} {x : Sale} {s : State} (h₁ : 1 ≤ n) (h₂ : n ≤ 65535) (hx : s.sale n = some x) :
    salePeek (some n) s = accept [saleCounts s, saleItem x] s := by
  simp only [salePeek, within_true h₁ h₂, hx]
  rfl

/-- R139, R206: a refused SALE_PEEK carries the counts too. -/
theorem salePeek_refused {n : Nat} {code : Status} {s : State}
    (h : (code = .range ∧ (n < 1 ∨ 65535 < n)) ∨ (code = .noSuch ∧ 1 ≤ n ∧ n ≤ 65535 ∧ s.sale n = none)) :
    salePeek (some n) s = (s, ⟨code, 0, [saleCounts s]⟩) := by
  rcases h with ⟨rfl, hn⟩ | ⟨rfl, h₁, h₂, hx⟩
  · have hw : within 1 65535 n = false := by
      simp only [within, Bool.and_eq_false_iff, decide_eq_false_iff_not]
      omega
    simp only [salePeek, hw]
    rfl
  · simp only [salePeek, within_true h₁ h₂, hx]
    rfl

/-- R159: the credential a token finds. -/
theorem credGet_token {token n : Nat} {s : State} (h : s.credByToken token = some n) :
    credGet (.token token) s = accept [⟨0x11, [.u 1 1]⟩, credItem s n] s := by
  simp only [credGet, h]
  rfl

/-- Settles O18: each read's owner leaves the state and accepts with the records of its rule. -/
theorem readsReturnTheRecords : Obligations.ReadsReturnTheRecords := by
  unfold Obligations.ReadsReturnTheRecords
  refine ⟨fun tag start count s ht hc => ?_, fun tag s ht => ?_⟩
  · have first := Nat.zero_le start
    exact ⟨fun h k => read_answers rfl rfl ht (getRecords_accept _ s first h hc k),
      fun h k => read_answers rfl rfl ht (getRecords_accept _ s first h hc k),
      fun h k => read_answers rfl rfl ht (getRecords_accept _ s first h hc k),
      fun l h k => read_answers rfl rfl ht (getRecords_accept _ s l h hc k),
      fun l h k => read_answers rfl rfl ht (getRecords_accept _ s l h hc k),
      fun l h k => read_answers rfl rfl ht (getRecords_accept _ s l h hc k),
      fun h k => read_answers rfl rfl ht (getRecords_accept _ s first h hc k),
      fun l h k => read_answers rfl rfl ht (getRecords_accept _ s l h hc k)⟩
  · exact ⟨read_answers rfl rfl ht rfl,
      read_answers rfl rfl ht (clockGet_accept s),
      fun start count h hc k => read_answers rfl rfl ht (berthGet_entries s h hc k),
      fun berth position h => read_answers rfl rfl ht (berthGet_calendar position s h),
      fun start count h hc k => read_answers rfl rfl ht (tideGet_accept s h hc k),
      fun f l h => read_answers rfl rfl ht (feederPoll_accept s l h),
      read_answers rfl rfl ht rfl,
      read_answers rfl rfl ht rfl,
      fun n x l h hx => read_answers rfl rfl ht (salePeek_found l h hx),
      fun n code h => read_answers rfl rfl ht (salePeek_refused h),
      fun token n h => read_answers rfl rfl ht (credGet_token h)⟩

end Sys2Proof.Machine
end

section
/-! SUPPORT. What a table in its form (log entry 3) and a calendar (R10) hold. -/

namespace Sys2Proof.Machine

variable {α : Type}

/-- The indices of a table in its form are strictly ascending. -/
theorem tableOk_ascending [DecidableEq α] {d : α} {t : Table α} (h : tableOk d t = true) :
    t.Pairwise fun x y => x.1 < y.1 := by
  induction t with
  | nil => exact .nil
  | cons e rest ih =>
    obtain ⟨-, above, hr⟩ := (tableOk_cons d e.1 e.2 rest).1 h
    exact .cons above (ih hr)

/-- A table in its form reads as each of its entries. -/
theorem tableGet_of_mem [DecidableEq α] {d : α} {t : Table α} (h : tableOk d t = true) {e : Nat × α} (he : e ∈ t) :
    tableGet d t e.1 = e.2 := by
  induction t with
  | nil => cases he
  | cons f rest ih =>
    obtain ⟨-, above, hr⟩ := (tableOk_cons d f.1 f.2 rest).1 h
    rcases List.mem_cons.1 he with rfl | he
    · simp [tableGet]
    · rw [tableGet, if_neg (Nat.ne_of_lt (above e he))]
      exact ih hr he

/-- What is not the start value is listed. -/
theorem mem_of_tableGet_ne {d : α} {t : Table α} {i : Nat} (h : tableGet d t i ≠ d) : (i, tableGet d t i) ∈ t := by
  induction t with
  | nil => exact absurd rfl h
  | cons e rest ih =>
    obtain ⟨k, v⟩ := e
    by_cases hk : k = i
    · subst hk
      simp [tableGet]
    · simp only [tableGet, if_neg hk] at h ⊢
      exact List.mem_cons_of_mem _ (ih h)

theorem insertBy_perm (before : α → α → Bool) (x : α) (l : List α) : (insertBy before x l).Perm (x :: l) := by
  induction l with
  | nil => exact .refl _
  | cons y rest ih =>
    rw [insertBy]
    split
    · exact .refl _
    · exact (ih.cons y).trans (.swap ..)

theorem sortBy_perm (before : α → α → Bool) (l : List α) : (sortBy before l).Perm l := by
  induction l with
  | nil => exact .refl _
  | cons x rest ih => exact (insertBy_perm ..).trans (ih.cons x)

theorem mem_calendar (s : State) (berth : Nat) (e : Nat × Booking) :
    e ∈ s.calendar berth ↔ e ∈ s.bal.bookings ∧ e.2.onBerth berth = true := by
  rw [State.calendar, (sortBy_perm ..).mem_iff, List.mem_filter]

/-- A booking stands once in a calendar. -/
theorem calendar_nodup {s : State} (h : tableOk coldBooking s.bal.bookings = true) (berth : Nat) :
    ((s.calendar berth).map (·.1)).Nodup := by
  have hn : ((s.bal.bookings.filter fun e => e.2.onBerth berth).map (·.1)).Nodup :=
    List.pairwise_map.2 (((tableOk_ascending h).filter _).imp Nat.ne_of_lt)
  exact (((sortBy_perm _ _).map _).nodup_iff).2 hn

end Sys2Proof.Machine
end

section
/-! SUPPORT. A move (R22, R23): its two outcomes, and what it leaves as it was. -/

namespace Sys2Proof.Machine

/-! ## What of the berth allocator stays -/

theorem SameBut.bal_eq {parts : List Part} {s t : State} (h : SameBut parts s t) (hn : Part.berths ∉ parts) :
    t.bal = s.bal := h.berths.resolve_left hn

theorem SameBut.clk_eq {parts : List Part} {s t : State} (h : SameBut parts s t) (hn : Part.clock ∉ parts) :
    t.clk = s.clk := h.clock.resolve_left hn

/-- Of the BAL, only booking records differ. -/
def BookingsOnly (s t : State) : Prop := t.bal = { s.bal with bookings := t.bal.bookings }

namespace BookingsOnly

variable {s t u : State}

theorem refl (s : State) : BookingsOnly s s := rfl

theorem trans (h : BookingsOnly s t) (k : BookingsOnly t u) : BookingsOnly s u := Eq.trans k (by rw [h])

theorem foldl {α : Type} (f : State → α → State) (h : ∀ s a, BookingsOnly s (f s a)) (l : List α) (s : State) :
    BookingsOnly s (l.foldl f s) := foldl_keeps refl trans f h l s

theorem setBooking (h : BookingsOnly s t) (i : Nat) (x : Booking) : BookingsOnly s (t.setBooking i x) :=
  h.trans (u := t.setBooking i x) rfl

theorem raise (h : BookingsOnly s t) (b : NoticeBody) : BookingsOnly s (t.raise b) := h.trans (u := t.raise b) rfl

theorem berths_eq (h : BookingsOnly s t) : t.bal.berths = s.bal.berths := by rw [h]
theorem tides_eq (h : BookingsOnly s t) : t.bal.tides = s.bal.tides := by rw [h]
theorem berth (h : BookingsOnly s t) (i : Nat) : t.berth i = s.berth i := by rw [State.berth, h]; rfl

end BookingsOnly

theorem booking_of_bal_eq {s t : State} (h : t.bal = s.bal) (j : Nat) : t.booking j = s.booking j := by
  rw [State.booking, h]; rfl

/-! ## The two outcomes of a move -/

section
variable {water : State → Nat → Int} {n : Nat} {s : State}

theorem moveBooking_of_not_confirmed (h : (s.booking n).state ≠ .confirmed) : moveBooking water n s = s := by
  simp only [moveBooking, if_pos h]
  split <;> rfl

variable {old : Nat} (hs : (s.booking n).state = .confirmed) (hb : (s.booking n).berth = some old)
include hs hb

/-- R22. -/
theorem moveBooking_placed {new : Nat}
    (hp : s.place (water s) (boatOf n (s.booking n)) (s.berth old).pontoon (some old) = some new) :
    moveBooking water n s =
      (s.setBooking n { s.booking n with berth := some new }).raise (.bookingMoved n old new) := by
  simp only [moveBooking, hb, hs, hp]
  rfl

/-- R23. -/
theorem moveBooking_unplaced
    (hp : s.place (water s) (boatOf n (s.booking n)) (s.berth old).pontoon (some old) = none) :
    moveBooking water n s =
      (s.setBooking n { s.booking n with state := .unplaced, berth := none }).raise (.bookingUnplaced n old) := by
  simp only [moveBooking, hb, hs, hp]
  rfl

end

/-- A move changes nothing, or writes the booking it moves and raises a notice; a booking moved off a berth is then not
CONFIRMED on it. -/
theorem moveBooking_cases (water : State → Nat → Int) (n : Nat) (s : State) :
    (moveBooking water n s = s ∧ ¬∃ old, (s.booking n).state = .confirmed ∧ (s.booking n).berth = some old) ∨
      ∃ old k b, (s.booking n).state = .confirmed ∧ (s.booking n).berth = some old ∧
        ¬(k.state = .confirmed ∧ k.berth = some old) ∧ moveBooking water n s = (s.setBooking n k).raise b := by
  by_cases hs : (s.booking n).state = .confirmed
  · cases hb : (s.booking n).berth with
    | none =>
      refine .inl ⟨?_, by simp⟩
      simp only [moveBooking, hb]
    | some old =>
      cases hp : s.place (water s) (boatOf n (s.booking n)) (s.berth old).pontoon (some old) with
      | some new =>
        exact .inr ⟨old, { s.booking n with berth := some new }, _, hs, rfl,
          fun h => place_ne_left hp (Option.some.inj h.2), moveBooking_placed hs hb hp⟩
      | none =>
        exact .inr ⟨old, { s.booking n with state := .unplaced, berth := none }, _, hs, rfl, by simp,
          moveBooking_unplaced hs hb hp⟩
  · exact .inl ⟨moveBooking_of_not_confirmed hs, fun ⟨_, h, _⟩ => hs h⟩

theorem moveBooking_bookingsOnly (water : State → Nat → Int) (n : Nat) (s : State) :
    BookingsOnly s (moveBooking water n s) := by
  rcases moveBooking_cases water n s with ⟨h, -⟩ | ⟨old, k, b, -, -, -, h⟩ <;> rw [h] <;> rfl

theorem moveBooking_booking_other (water : State → Nat → Int) {n j : Nat} (s : State) (hj : j ≠ n) :
    (moveBooking water n s).booking j = s.booking j := by
  rcases moveBooking_cases water n s with ⟨h, -⟩ | ⟨old, k, b, -, -, -, h⟩ <;> rw [h]
  exact (State.booking_setBooking s n j k).trans (if_neg hj)

theorem moveBooking_tableOk (water : State → Nat → Int) (n : Nat) {s : State}
    (h : tableOk coldBooking s.bal.bookings = true) :
    tableOk coldBooking (moveBooking water n s).bal.bookings = true := by
  rcases moveBooking_cases water n s with ⟨e, -⟩ | ⟨old, k, b, -, -, -, e⟩ <;> rw [e]
  · exact h
  · exact tableOk_tableSet coldBooking _ n k h

/-- A booking is CONFIRMED on a berth. -/
def ConfirmedOn (berth j : Nat) (s : State) : Prop :=
  (s.booking j).state = .confirmed ∧ (s.booking j).berth = some berth

theorem moveBooking_leaves {water : State → Nat → Int} {berth n : Nat} {s : State} (h : ConfirmedOn berth n s) :
    ¬ConfirmedOn berth n (moveBooking water n s) := by
  rcases moveBooking_cases water n s with ⟨-, none⟩ | ⟨old, k, b, -, hb, gone, e⟩
  · exact absurd ⟨berth, h⟩ none
  · obtain rfl : old = berth := Option.some.inj (hb.symm.trans h.2)
    have hk : ((s.setBooking n k).raise b).booking n = k := (State.booking_setBooking s n n k).trans (if_pos rfl)
    rw [ConfirmedOn, e, hk]
    exact gone

/-! ## Moves in a row -/

/-- The moves of bookings of a list, in its order. -/
def moveList (water : State → Nat → Int) (l : List (Nat × Booking)) (s : State) : State :=
  l.foldl (fun t e => moveBooking water e.1 t) s

theorem moveList_bookingsOnly (water : State → Nat → Int) (l : List (Nat × Booking)) (s : State) :
    BookingsOnly s (moveList water l s) :=
  .foldl (fun t (e : Nat × Booking) => moveBooking water e.1 t) (fun t e => moveBooking_bookingsOnly water e.1 t) l s

theorem moveList_tableOk (water : State → Nat → Int) (l : List (Nat × Booking)) {s : State}
    (h : tableOk coldBooking s.bal.bookings = true) :
    tableOk coldBooking (moveList water l s).bal.bookings = true := by
  induction l generalizing s with
  | nil => exact h
  | cons e rest ih => exact ih (moveBooking_tableOk water e.1 h)

theorem moveList_booking_other (water : State → Nat → Int) (l : List (Nat × Booking)) (s : State) {j : Nat}
    (hj : ∀ e ∈ l, e.1 ≠ j) : (moveList water l s).booking j = s.booking j := by
  induction l generalizing s with
  | nil => rfl
  | cons e rest ih =>
    exact (ih _ fun f hf => hj f (List.mem_cons_of_mem _ hf)).trans
      (moveBooking_booking_other water s (hj e List.mem_cons_self).symm)

/-- Moving bookings that are CONFIRMED on a berth, each once, leaves there only such as were there and are not moved. -/
theorem confirmedOn_of_moveList {water : State → Nat → Int} {berth j : Nat} {l : List (Nat × Booking)} {s : State}
    (once : (l.map (·.1)).Nodup) (there : ∀ e ∈ l, ConfirmedOn berth e.1 s)
    (h : ConfirmedOn berth j (moveList water l s)) : ConfirmedOn berth j s ∧ ∀ e ∈ l, e.1 ≠ j := by
  induction l generalizing s with
  | nil => exact ⟨h, by simp⟩
  | cons e rest ih =>
    obtain ⟨fresh, once⟩ := List.nodup_cons.1 once
    have kept : ∀ i, i ≠ e.1 → (ConfirmedOn berth i (moveBooking water e.1 s) ↔ ConfirmedOn berth i s) := by
      intro i hi
      rw [ConfirmedOn, moveBooking_booking_other water s hi, ConfirmedOn]
    have ne_of_mem : ∀ f ∈ rest, f.1 ≠ e.1 := fun f hf hfe => fresh (List.mem_map.2 ⟨f, hf, hfe⟩)
    obtain ⟨hj, hrest⟩ := ih once
      (fun f hf => (kept _ (ne_of_mem f hf)).2 (there f (List.mem_cons_of_mem _ hf))) h
    have hje : j ≠ e.1 := by
      rintro rfl
      exact moveBooking_leaves (there e List.mem_cons_self) hj
    exact ⟨(kept j hje).1 hj, List.forall_mem_cons.2 ⟨hje.symm, hrest⟩⟩

end Sys2Proof.Machine
end

section
/-! SUPPORT. BERTH_PUT (R2, R3, R21, O19). -/

namespace Sys2Proof.Machine

/-- R21: a berth all of whose bookings are moved keeps no CONFIRMED one. -/
theorem moveAll_leaves_none {i : Nat} {s : State} (h : tableOk coldBooking s.bal.bookings = true) :
    ∀ e ∈ (moveAll i s).bal.bookings, ¬(e.2.state = .confirmed ∧ e.2.berth = some i) := by
  intro e he hc
  have hget : (moveAll i s).booking e.1 = e.2 := tableGet_of_mem (moveList_tableOk State.lowWaterOf _ h) he
  have hon : ConfirmedOn i e.1 (moveAll i s) := by rwa [ConfirmedOn, hget]
  have mem_moved : ∀ f : Nat × Booking, f ∈ (s.calendar i).filter (fun e => decide (e.2.state = .confirmed)) ↔
      f ∈ s.bal.bookings ∧ f.2.state = .confirmed ∧ f.2.berth = some i := by
    intro f
    rw [List.mem_filter, mem_calendar, onBerth_iff, decide_eq_true_eq]
    tauto
  have once : (((s.calendar i).filter fun e => decide (e.2.state = .confirmed)).map (·.1)).Nodup :=
    (calendar_nodup h i).sublist (List.filter_sublist.map _)
  obtain ⟨⟨hs, hb⟩, unmoved⟩ := confirmedOn_of_moveList once (fun f hf => by
    obtain ⟨hm, hf⟩ := (mem_moved f).1 hf
    rwa [ConfirmedOn, State.booking, tableGet_of_mem h hm]) hon
  have hm : (e.1, s.booking e.1) ∈ s.bal.bookings := by
    refine mem_of_tableGet_ne fun hcold => ?_
    rw [State.booking, hcold] at hs
    cases hs
  exact unmoved _ ((mem_moved _).2 ⟨hm, hs, hb⟩) rfl

/-- The entry a row writes (R3). -/
def berthEntry (r : BerthRow) (cls : BerthClass) (state : BerthState) : Berth :=
  { pontoon := r.pontoon, cls, visitorOk := r.visitorOk && decide (cls = .resident), state, maxLoa := r.maxLoa,
    maxBeam := r.maxBeam, depth := r.depth, fee := r.fee }

/-- A berth whose entry is written and whose change of class the other blocks are told. -/
def writeBerth (i : Nat) (r : BerthRow) (cls : BerthClass) (state : BerthState) (s : State) : State :=
  tellClass i (s.berth i).cls cls (s.setBerth i (berthEntry r cls state))

theorem writeBerth_sameBut (i : Nat) (r : BerthRow) (cls : BerthClass) (state : BerthState) (s : State) :
    SameBut holdParts (s.setBerth i (berthEntry r cls state)) (writeBerth i r cls state s) :=
  tellClass_sameBut (fun _ h => h) ..

theorem writeBerth_bal (i : Nat) (r : BerthRow) (cls : BerthClass) (state : BerthState) (s : State) :
    (writeBerth i r cls state s).bal = (s.setBerth i (berthEntry r cls state)).bal :=
  (writeBerth_sameBut ..).bal_eq (by decide)

/-- R3: no block is told of a row that does not make the berth SERVICE or end its being so. -/
theorem writeBerth_of_service_iff {i : Nat} {r : BerthRow} {cls : BerthClass} {state : BerthState} {s : State}
    (h : cls = .service ↔ (s.berth i).cls = .service) :
    writeBerth i r cls state s = s.setBerth i (berthEntry r cls state) := by
  unfold writeBerth tellClass
  by_cases hn : cls = .service
  · rw [if_pos ((h.1 hn).trans hn.symm)]
  · rw [if_neg hn, if_neg fun ho => hn (h.2 ho), ite_self]

theorem berthRow_written {i : Nat} {r : BerthRow} {cls : BerthClass} {state : BerthState} {s : State} (hi : i ≤ 255)
    (hr : berthRowInRange r = true) (hcls : valueOf berthClasses r.cls = some cls)
    (hstate : valueOf berthStates r.state = some state)
    (hs : cls = .service → (s.berth i).cls = .service ∨ s.calendar i = []) (hb : state = .blocked → s.arrivedOn i = none) :
    berthRow i r s =
      .ok (if state = .blocked then moveAll i (writeBerth i r cls state s) else writeBerth i r cls state s) := by
  have noBooking : ¬(cls = .service ∧ (s.berth i).cls ≠ .service ∧ s.calendar i ≠ []) :=
    fun ⟨h₁, h₂, h₃⟩ => (hs h₁).elim h₂ h₃
  have noArrived : ¬(state = .blocked ∧ (s.arrivedOn i).isSome = true) := fun ⟨h₁, h₂⟩ => by simp [hb h₁] at h₂
  simp only [berthRow, hcls, hstate, within_true (Nat.zero_le i) hi, hr, if_neg noBooking, if_neg noArrived]
  rfl

/-- Settles O19: the row is written, then the blocks are told of a change from or to SERVICE, which leaves the BAL as it
is, and then a BLOCKED berth's CONFIRMED bookings are moved, each once and off the berth. -/
theorem berthPutWritesTheRow : Obligations.BerthPutWritesTheRow := by
  unfold Obligations.BerthPutWritesTheRow
  intro tag i r cls state s ht hi ⟨hp, hp'⟩ ⟨hl, hl'⟩ ⟨hw, hw'⟩ hd hf hcls hstate hs hb hok
  have inRange : berthRowInRange r = true := by
    simp [berthRowInRange, within_true hp hp', within_true hl hl', within_true hw hw', within_true (Nat.zero_le _) hd,
      within_true (Nat.zero_le _) hf]
  have row := berthRow_written hi inRange hcls hstate hs hb
  obtain ⟨t, hr, hu⟩ :=
    request_answers (i := .berthPut tag i [.row r]) rfl rfl ht (multiPut_one (most := 15) (by decide) row)
  have written := writeBerth_bal i r cls state s
  have moved : BookingsOnly (writeBerth i r cls state s)
      (if state = .blocked then moveAll i (writeBerth i r cls state s) else writeBerth i r cls state s) := by
    split
    · exact moveList_bookingsOnly ..
    · exact .refl _
  have movedParts {parts : List Part} (hbp : .berths ∈ parts) : SameBut parts (writeBerth i r cls state s)
      (if state = .blocked then moveAll i (writeBerth i r cls state s) else writeBerth i r cls state s) := by
    split
    · exact moveAll_sameBut hbp ..
    · exact .refl _ _
  have setParts {parts : List Part} (hbp : .berths ∈ parts) : SameBut parts s (s.setBerth i (berthEntry r cls state)) :=
    (SameBut.refl _ s).setBerth hbp ..
  have entry (j : Nat) : t.berth j = if j = i then berthEntry r cls state else s.berth j := by
    rw [hu.berth, moved.berth, State.berth, written]
    exact State.berth_setBerth ..
  refine ⟨t, hr, hu.sameBut ?_, (entry i).trans (if_pos rfl), fun j hj => (entry j).trans (if_neg hj),
    fun hblocked => ?_, fun hin => ?_, fun hsame => hu.sameBut ?_⟩
  · exact ((setParts (by decide)).trans ((writeBerth_sameBut ..).mono (by decide))).trans (movedParts (by decide))
  · rw [hu.bal, if_pos hblocked]
    refine moveAll_leaves_none ?_
    rw [written]
    exact hok
  · rw [hu.bal, if_neg (by rw [hin]; decide), written]
    rfl
  · refine (setParts (by decide)).trans ?_
    have := movedParts (parts := [.berths]) (by decide)
    rwa [writeBerth_of_service_iff hsame] at this ⊢

end Sys2Proof.Machine
end

section
/-! SUPPORT. What the operations behind a posting, a booking's close and a rollover do to the link: they raise notices and
leave the reply slot and the frame being sent alone (R194 to R196). -/

namespace Sys2Proof.Machine

/-- A state has the other's reply slot and the frame it was sending, and its notices with further ones behind them. -/
structure Speaks (s t : State) : Prop where
  slot : t.hlc.slot = s.hlc.slot
  tx : t.hlc.tx = s.hlc.tx
  notices : s.hlc.notices <+: t.hlc.notices

namespace Speaks

variable {s t u : State}

theorem of_hlc (h : t.hlc = s.hlc) : Speaks s t := ⟨by rw [h], by rw [h], by rw [h]⟩

theorem refl (s : State) : Speaks s s := of_hlc rfl

theorem trans (h : Speaks s t) (k : Speaks t u) : Speaks s u :=
  ⟨k.slot.trans h.slot, k.tx.trans h.tx, h.notices.trans k.notices⟩

/-- An operation that leaves the link as it was may follow. -/
theorem andThen (h : Speaks s t) (k : u.hlc = t.hlc) : Speaks s u := h.trans (of_hlc k)

/-- An operation that leaves the link as it was may come first. -/
theorem after (k : Speaks t u) (h : t.hlc = s.hlc) : Speaks s u := (of_hlc h).trans k

theorem raise (h : Speaks s t) (b : NoticeBody) : Speaks s (t.raise b) := by
  refine h.trans ⟨enterNotice_slot .., enterNotice_tx .., ?_⟩
  change t.hlc.notices <+: (enterNotice t.now b t.hlc).notices
  unfold enterNotice
  split
  · exact List.prefix_rfl
  · exact List.prefix_append ..

theorem foldl {α : Type} (f : State → α → State) (h : ∀ s a, Speaks s (f s a)) (l : List α) (s : State) :
    Speaks s (l.foldl f s) := foldl_keeps refl trans f h l s

theorem reply (h : Speaks s t) : t.reply = s.reply := by rw [State.reply, h.slot]; rfl

/-- What has still to leave is what had, with more behind it. -/
theorem outgoing (h : Speaks s t) : s.hlc.outgoing <+: t.hlc.outgoing := by
  obtain ⟨l, hl⟩ := h.notices
  rw [outgoing_of_notices h.tx hl.symm]
  exact List.prefix_append ..

end Speaks

/-! ## Feeders -/

theorem takeStamp_speaks (s : State) : Speaks s (takeStamp s).1 := by
  have renumbered : Speaks s (renumber s) :=
    (Speaks.foldl (fun t (e : (Nat × Socket) × Nat) => t.setSocket e.1.1 { t.socket e.1.1 with stamp := some e.2 })
      (fun s _ => .of_hlc rfl) _ s).andThen rfl
  unfold takeStamp
  dsimp only
  split
  · exact renumbered.andThen rfl
  · exact .of_hlc rfl

theorem grant_speaks (f n : Nat) (skipped : List Nat) (s : State) : Speaks s (grant f n skipped s) := by
  have granted : Speaks s ((takeStamp s).1.setSocket n
      { (takeStamp s).1.socket n with
        state := .granted, reservation := some (s.reservation n), stamp := some (takeStamp s).2, confirm := some 0,
        bypass := 0 }) := (takeStamp_speaks s).andThen rfl
  unfold grant
  refine Speaks.raise ?_ _
  dsimp only
  split
  · exact granted.andThen rfl
  · exact (granted.trans (.foldl countBypass (fun s _ => .of_hlc rfl) skipped _)).andThen rfl

theorem grantSearch_speaks (f : Nat) (s : State) : Speaks s (grantSearch f s) := by
  unfold grantSearch
  generalize (s.feeder f).pending.length + 1 = n
  induction n generalizing s with
  | zero => exact .refl s
  | succ n ih =>
    simp only [searchPasses]
    split
    · exact .refl s
    · exact (grant_speaks ..).trans (ih _)

theorem withdraw_speaks (n : Nat) (d : SocketState) (s : State) : Speaks s (withdraw n d s) := by
  have dropped : Speaks s (dropPending n d s) := .of_hlc rfl
  unfold withdraw
  dsimp only
  split
  · exact dropped.raise _
  · exact dropped

theorem leaveAllPending_speaks (d : Nat → SocketState) (l : List Nat) (s : State) :
    Speaks s (leaveAllPending d l s) :=
  Speaks.trans (.foldl _ (fun s n => withdraw_speaks n _ s) _ _) (.foldl _ (fun s _ => grantSearch_speaks _ s) _ _)

theorem reevaluate_speaks (n : Nat) (s : State) : Speaks s (reevaluate n s) := by
  unfold reevaluate
  dsimp only
  split
  · exact .refl s
  split
  · split
    · exact .refl s
    · exact (grantSearch_speaks _ (placePending n s)).after rfl
  · split
    · exact leaveAllPending_speaks ..
    · exact .of_hlc rfl

theorem farHold_speaks (a : Nat) (s : State) : Speaks s (farHold a s) :=
  (leaveAllPending_speaks _ _ s).trans (.foldl _ (fun s n => reevaluate_speaks n s) _ _)

/-! ## Postings -/

theorem evaluateHold_speaks (a : Nat) (s : State) : Speaks s (evaluateHold a s).1 := by
  have written (k : Account) (b : NoticeBody) : Speaks s ((s.setAccount a k).raise b) :=
    ((Speaks.refl _).raise b).after (State.setAccount_hlc s a k)
  simp only [evaluateHold]
  repeat' split
  · exact .refl s
  · exact written ..
  · exact written ..
  · exact .refl s

theorem postOnly_speaks (a : Nat) (x : Int) (s : State) : Speaks s (postOnly a x s).1 := by
  unfold postOnly
  split
  · exact .refl s
  · exact (evaluateHold_speaks a (addBalance a x s)).after rfl

theorem closeTapBy_speaks {settle : Nat → State → State} (h : ∀ n s, Speaks s (settle n s)) (n : Nat) (c : TapCause)
    (s : State) : Speaks s (closeTapBy settle n c s) := by
  unfold closeTapBy
  split
  · exact .refl s
  · exact ((h n (s.setRun n none)).raise _).after rfl

theorem settleTapBy_speaks {post : Nat → Int → State → State} (h : ∀ a x s, Speaks s (post a x s)) (n : Nat) (s : State) :
    Speaks s (settleTapBy post n s) := by
  unfold settleTapBy
  exact (h ..).after rfl

theorem pdlHold_speaks (a : Nat) (s : State) : Speaks s (pdlHold a s) :=
  .foldl _ (fun s n => closeTapBy_speaks (settleTapBy_speaks postOnly_speaks) n _ s) _ _

theorem dropCard_speaks (n : Nat) (s : State) : Speaks s (dropCard n s) := by
  unfold dropCard
  dsimp only
  split <;> exact .of_hlc rfl

theorem gtcHold_speaks (a : Nat) (s : State) : Speaks s (gtcHold a s) := by
  unfold gtcHold
  split
  · exact .refl s
  · split
    · exact ((dropCard_speaks 7 s).andThen (State.setFuel_hlc ..)).raise _
    · exact .refl s

theorem tellHold_speaks (a : Nat) (s : State) : Speaks s (tellHold a s) := by
  unfold tellHold
  dsimp only
  split
  · exact ((farHold_speaks a s).trans (pdlHold_speaks ..)).trans (gtcHold_speaks ..)
  · exact farHold_speaks a s

theorem post_speaks (a : Nat) (x : Int) (s : State) : Speaks s (post a x s) := by
  unfold post
  dsimp only
  split
  · exact (postOnly_speaks a x s).trans (tellHold_speaks ..)
  · exact postOnly_speaks a x s

/-! ## Credentials of a closed booking -/

/-- Only the gate controller differs. -/
structure GatesOnly (s t : State) : Prop where
  blocks : t = { s with gtc := t.gtc }

namespace GatesOnly

variable {s t u : State}

theorem refl (s : State) : GatesOnly s s := ⟨rfl⟩

theorem trans (h : GatesOnly s t) (k : GatesOnly t u) : GatesOnly s u :=
  ⟨k.blocks.trans (congrArg (fun v : State => { v with gtc := u.gtc }) h.blocks)⟩

theorem foldl {α : Type} (f : State → α → State) (h : ∀ s a, GatesOnly s (f s a)) (l : List α) (s : State) :
    GatesOnly s (l.foldl f s) := foldl_keeps refl trans f h l s

theorem hlc (h : GatesOnly s t) : t.hlc = s.hlc := by rw [h.blocks]
theorem clk (h : GatesOnly s t) : t.clk = s.clk := by rw [h.blocks]
theorem bal (h : GatesOnly s t) : t.bal = s.bal := by rw [h.blocks]

end GatesOnly

/-- Only the uses of credentials at gates and terminals differ (R158). -/
structure CredUsesOnly (s t : State) : Prop where
  gatesOnly : GatesOnly s t
  creds : t.gtc.creds = s.gtc.creds

namespace CredUsesOnly

variable {s t u : State}

theorem refl (s : State) : CredUsesOnly s s := ⟨.refl s, rfl⟩

theorem trans (h : CredUsesOnly s t) (k : CredUsesOnly t u) : CredUsesOnly s u :=
  ⟨h.gatesOnly.trans k.gatesOnly, k.creds.trans h.creds⟩

theorem foldl {α : Type} (f : State → α → State) (h : ∀ s a, CredUsesOnly s (f s a)) (l : List α) (s : State) :
    CredUsesOnly s (l.foldl f s) := foldl_keeps refl trans f h l s

end CredUsesOnly

theorem dropCard_credUsesOnly (n : Nat) (s : State) : CredUsesOnly s (dropCard n s) := by
  unfold dropCard
  dsimp only
  split <;> exact ⟨⟨rfl⟩, rfl⟩

theorem endCredUse_credUsesOnly (c : Nat) (s : State) : CredUsesOnly s (endCredUse c s) := by
  refine .trans (.foldl _ (fun s n => ?_) _ _) (.foldl _ (fun s n => ?_) _ _)
  · unfold endAttribution
    split
    · exact ⟨⟨rfl⟩, rfl⟩
    · exact .refl s
  · unfold endCard
    split
    · split
      · exact (dropCard_credUsesOnly n s).trans ⟨⟨rfl⟩, rfl⟩
      · exact .refl s
    · exact .refl s

/-- A credential made FREE leaves its table (R160; log entry 3). -/
theorem freeCred_creds (c : Nat) (s : State) : (freeCred c s).gtc.creds = tableErase s.gtc.creds c := by
  rw [freeCred, (endCredUse_credUsesOnly c (s.setCred c coldCred)).creds]
  simp [State.setCred, tableSet]

theorem freeCred_gatesOnly (c : Nat) (s : State) : GatesOnly s (freeCred c s) :=
  have written : GatesOnly s (s.setCred c coldCred) := ⟨rfl⟩
  written.trans (endCredUse_credUsesOnly c _).gatesOnly

theorem not_mem_tableErase {α : Type} (t : Table α) (i : Nat) (x : α) : (i, x) ∉ tableErase t i := by
  induction t with
  | nil => exact List.not_mem_nil
  | cons e rest ih =>
    rw [tableErase]
    split
    · exact ih
    · rename_i hne
      exact fun h => (List.mem_cons.1 h).elim (fun h => hne (congrArg Prod.fst h).symm) ih

/-- What is listed after credentials are made FREE was listed, under another number. -/
theorem mem_freeCreds {l : List Nat} {s : State} {e : Nat × Cred}
    (h : e ∈ (l.foldl (fun t n => freeCred n t) s).gtc.creds) : e ∈ s.gtc.creds ∧ e.1 ∉ l := by
  induction l generalizing s with
  | nil => exact ⟨h, List.not_mem_nil⟩
  | cons c rest ih =>
    rw [List.foldl_cons] at h
    obtain ⟨hm, hrest⟩ := ih h
    rw [freeCred_creds] at hm
    refine ⟨mem_tableErase hm, List.not_mem_cons_of_ne_of_not_mem ?_ hrest⟩
    rintro rfl
    exact not_mem_tableErase _ _ _ hm

/-- R161: no credential of a closed booking is left. -/
theorem freeBookingCreds_none_left {b : Nat} {s : State} :
    ∀ e ∈ (freeBookingCreds b s).gtc.creds, e.2.state ≠ .free → e.2.booking ≠ some b := by
  intro e he hs hb
  obtain ⟨hm, hn⟩ := mem_freeCreds he
  refine hn (List.mem_map.2 ⟨e, List.mem_filter.2 ⟨hm, ?_⟩, rfl⟩)
  simp [hs, hb]

theorem freeBookingCreds_gatesOnly (b : Nat) (s : State) : GatesOnly s (freeBookingCreds b s) :=
  .foldl _ (fun s n => freeCred_gatesOnly n s) _ _

/-! ## A booking closes (R28) -/

/-- The record a close leaves. -/
def closedRecord (state : BookState) (moment : Stamp) (k : Booking) : Booking :=
  { k with state, berth := none, closedTime := some moment }

section
variable (state : BookState) (moment : Stamp) (b : Nat) (s : State)

theorem closeBooking_gatesOnly :
    GatesOnly (s.setBooking b (closedRecord state moment (s.booking b))) (closeBooking state moment b s) :=
  freeBookingCreds_gatesOnly b _

theorem closeBooking_hlc : (closeBooking state moment b s).hlc = s.hlc :=
  (closeBooking_gatesOnly ..).hlc

theorem closeBooking_clk : (closeBooking state moment b s).clk = s.clk :=
  (closeBooking_gatesOnly ..).clk

theorem closeBooking_bal :
    (closeBooking state moment b s).bal = (s.setBooking b (closedRecord state moment (s.booking b))).bal :=
  (closeBooking_gatesOnly ..).bal

theorem closeBooking_booking (j : Nat) :
    (closeBooking state moment b s).booking j =
      if j = b then closedRecord state moment (s.booking b) else s.booking j := by
  rw [booking_of_bal_eq (closeBooking_bal ..)]
  exact State.booking_setBooking ..

theorem closeBooking_bookingsOnly : BookingsOnly s (closeBooking state moment b s) := by
  rw [BookingsOnly, closeBooking_bal]
  rfl

end

end Sys2Proof.Machine
end

section
/-! SUPPORT. One record of a rollover's walk (R38 to R41, O14): what it does in each case, and what it leaves as it was. -/

namespace Sys2Proof.Machine

/-! ## The nightly fee (R38) -/

/-- One nightly fee charged to a booking whose count has room for it. -/
def charge (b : Nat) (s : State) : State :=
  post (s.booking b).account (-((s.berth ((s.booking b).berth.getD 0)).fee : Int))
    (s.setBooking b { s.booking b with nightsCharged := (s.booking b).nightsCharged + 1 })

theorem countNight_of_lt {n : Nat} (h : n < 65535) : countNight n = n + 1 := if_neg (by omega)

theorem postFee_eq_charge {b : Nat} {s : State} (h : (s.booking b).nightsCharged < 65535) : postFee b s = charge b s := by
  simp only [postFee, charge, countNight_of_lt h]

theorem post_bal (a : Nat) (x : Int) (s : State) : (post a x s).bal = s.bal :=
  (post_sameBut (parts := holdParts) (fun _ h => h) a x s).bal_eq (by decide)

theorem postFee_bal (b : Nat) (s : State) :
    (postFee b s).bal =
      (s.setBooking b { s.booking b with nightsCharged := countNight (s.booking b).nightsCharged }).bal := post_bal ..

theorem postFee_booking (b j : Nat) (s : State) :
    (postFee b s).booking j =
      if j = b then { s.booking b with nightsCharged := countNight (s.booking b).nightsCharged } else s.booking j := by
  rw [booking_of_bal_eq (postFee_bal b s)]
  exact State.booking_setBooking ..

theorem charge_booking_self (b : Nat) (s : State) :
    (charge b s).booking b = { s.booking b with nightsCharged := (s.booking b).nightsCharged + 1 } := by
  rw [charge, booking_of_bal_eq (post_bal ..), State.booking_setBooking, if_pos rfl]

theorem charge_booking_other {b j : Nat} (s : State) (h : j ≠ b) : (charge b s).booking j = s.booking j := by
  rw [charge, booking_of_bal_eq (post_bal ..), State.booking_setBooking, if_neg h]

theorem postFee_bookingsOnly (b : Nat) (s : State) : BookingsOnly s (postFee b s) := by
  rw [BookingsOnly, postFee_bal]
  rfl

/-- A record after the walk has charged it its fee, if one is due. -/
def feePhase (d b : Nat) (s : State) : State := if (s.booking b).feeDue d then postFee b s else s

theorem feePhase_cases (d b : Nat) (s : State) :
    ((s.booking b).feeDue d = true ∧ feePhase d b s = postFee b s) ∨
      ((s.booking b).feeDue d = false ∧ feePhase d b s = s) := by
  unfold feePhase
  cases h : (s.booking b).feeDue d <;> simp

theorem feePhase_booking_other (d : Nat) {b j : Nat} (s : State) (hj : j ≠ b) :
    (feePhase d b s).booking j = s.booking j := by
  rcases feePhase_cases d b s with ⟨-, h⟩ | ⟨-, h⟩ <;> rw [h]
  rw [postFee_booking, if_neg hj]

/-- The fee changes of the record the count of nights alone. -/
theorem feePhase_booking_self (d b : Nat) (s : State) :
    ∃ n, (feePhase d b s).booking b = { s.booking b with nightsCharged := n } := by
  rcases feePhase_cases d b s with ⟨-, h⟩ | ⟨-, h⟩ <;> rw [h]
  · exact ⟨_, by rw [postFee_booking, if_pos rfl]⟩
  · exact ⟨_, rfl⟩

theorem feePhase_noShowDue (d b grace : Nat) (s : State) :
    ((feePhase d b s).booking b).noShowDue grace d = (s.booking b).noShowDue grace d := by
  obtain ⟨n, h⟩ := feePhase_booking_self d b s
  rw [h]
  rfl

theorem feePhase_extendDue (d b : Nat) (s : State) :
    ((feePhase d b s).booking b).extendDue d = (s.booking b).extendDue d := by
  obtain ⟨n, h⟩ := feePhase_booking_self d b s
  rw [h]
  rfl

/-! ## The three tests of the walk -/

theorem feeDue_iff (k : Booking) (d : Nat) :
    k.feeDue d = true ↔ k.arr + 1 ≤ d ∧ (k.state = .arrived ∨ k.state = .confirmed ∧ d ≤ k.dep) := by
  simp only [Booking.feeDue, Bool.or_eq_true, Bool.and_eq_true, decide_eq_true_eq, Nat.lt_succ_iff]
  tauto

theorem noShowDue_iff (k : Booking) (grace d : Nat) :
    k.noShowDue grace d = true ↔ (k.state = .confirmed ∨ k.state = .unplaced) ∧ k.arr + grace + 1 ≤ d := by
  simp [Booking.noShowDue]

theorem extendDue_iff (k : Booking) (d : Nat) : k.extendDue d = true ↔ k.state = .arrived ∧ k.dep ≤ d := by
  simp [Booking.extendDue]

/-! ## The walk of one record (R37) -/

/-- A number counted when something was done. -/
def countIf (done : Bool) (n : Nat) : Nat := n + (if done then 1 else 0)

section
variable {d b : Nat} {moment : Stamp} {s : State} {c : WalkCounts}

/-- A record that does not become NO_SHOW: its fee, and its extension. -/
theorem walkRecord_of_present (h : (s.booking b).noShowDue s.bal.grace d = false) :
    walkRecord d moment b (s, c) =
      (if (s.booking b).extendDue d then extendBooking d b (feePhase d b s) else feePhase d b s,
        ⟨countIf ((s.booking b).feeDue d) c.fees, c.noShows, countIf ((s.booking b).extendDue d) c.extended⟩) := by
  have hn := (feePhase_noShowDue d b s.bal.grace s).trans h
  rw [← feePhase_extendDue]
  unfold feePhase at hn ⊢
  simp only [walkRecord, hn]
  rfl

/-- A record that becomes NO_SHOW, after its fee. -/
theorem walkRecord_of_noShow (h : (s.booking b).noShowDue s.bal.grace d = true) :
    walkRecord d moment b (s, c) =
      ((closeBooking .noShow moment b (feePhase d b s)).raise (.bookingNoShow b (s.booking b).berth),
        ⟨countIf ((s.booking b).feeDue d) c.fees, c.noShows + 1, c.extended⟩) := by
  have hn := (feePhase_noShowDue d b s.bal.grace s).trans h
  have hb : ((feePhase d b s).booking b).berth = (s.booking b).berth := by
    obtain ⟨n, hk⟩ := feePhase_booking_self d b s
    rw [hk]
  have gone : (((closeBooking .noShow moment b (feePhase d b s)).raise (.bookingNoShow b (s.booking b).berth)).booking
      b).extendDue d = false := by
    have hc := closeBooking_booking .noShow moment b (feePhase d b s) b
    rw [if_pos rfl] at hc
    rw [booking_of_bal_eq (raise_bal ..), hc]
    rfl
  rw [← hb] at gone ⊢
  unfold feePhase at hn gone ⊢
  simp only [walkRecord, hn, if_true, gone]
  rfl

/-! ## Each case -/

theorem walkRecord_unconcerned
    (h : (s.booking b).state ∉ [BookState.confirmed, .arrived, .unplaced] ∨
      ((s.booking b).state ∈ [BookState.confirmed, .unplaced] ∧ d ≤ (s.booking b).arr)) :
    walkRecord d moment b (s, c) = (s, c) := by
  have hf : (s.booking b).feeDue d = false := by
    rw [Bool.eq_false_iff, Ne, feeDue_iff]
    rcases h with h | ⟨h, hd⟩
    · rintro ⟨-, h' | ⟨h', -⟩⟩ <;> simp [h'] at h
    · omega
  have hn : (s.booking b).noShowDue s.bal.grace d = false := by
    rw [Bool.eq_false_iff, Ne, noShowDue_iff]
    rcases h with h | ⟨h, hd⟩
    · rintro ⟨h' | h', -⟩ <;> simp [h'] at h
    · omega
  have he : (s.booking b).extendDue d = false := by
    rw [Bool.eq_false_iff, Ne, extendDue_iff]
    rintro ⟨h', -⟩
    simp [h'] at h
  rw [walkRecord_of_present hn, hf, he, feePhase, hf]
  rfl

/-- A booking charged one night and neither closed nor extended. -/
theorem walkRecord_charged (room : (s.booking b).nightsCharged < 65535) (hf : (s.booking b).feeDue d = true)
    (hn : (s.booking b).noShowDue s.bal.grace d = false) (he : (s.booking b).extendDue d = false) :
    walkRecord d moment b (s, c) = (charge b s, ⟨c.fees + 1, c.noShows, c.extended⟩) := by
  rw [walkRecord_of_present hn, hf, he, feePhase, hf, ← postFee_eq_charge room]
  rfl

/-- The bookings other than `b` of a berth's calendar that hold a night from `dep` to `d`: those that R41 moves. -/
def addedHolders (d b berth dep : Nat) (s : State) : List (Nat × Booking) :=
  (s.calendar berth).filter fun e => decide (e.1 ≠ b ∧ e.2.arr ≤ d ∧ dep < e.2.dep)

theorem addedHolders_ne {d b berth dep : Nat} {s : State} : ∀ e ∈ addedHolders d b berth dep s, e.1 ≠ b :=
  fun _ he => (of_decide_eq_true (List.mem_filter.1 he).2).1

/-- The state in which the bookings in an extension's way have been moved (R41). -/
def clearedFor (d b berth dep : Nat) (s : State) : State :=
  moveList (fun v => v.lowWaterFrom d) (addedHolders d b berth dep s) s

/-- A booking extended to cover night `d` (R40). -/
def extended (d : Nat) (k : Booking) : Booking :=
  { k with dep := min (d + 1) 65535, overstay := k.overstay + (min (d + 1) 65535 - k.dep) }

theorem addOverstay_of_le {n more : Nat} (h : n + more ≤ 65535) : addOverstay n more = n + more := if_neg (by omega)

theorem extendBooking_eq {k : Booking} (hk : s.booking b = k)
    (room : k.overstay + (min (d + 1) 65535 - k.dep) ≤ 65535) :
    extendBooking d b s =
      ((clearedFor d b (k.berth.getD 0) k.dep s).setBooking b (extended d k)).raise
        (.bookingExtended b (k.berth.getD 0) (min (d + 1) 65535)) := by
  have held : ((s.calendar (k.berth.getD 0)).filter fun e => decide (e.1 ≠ b) && e.2.holdsAny k.dep (d + 1)) =
      addedHolders d b (k.berth.getD 0) k.dep s := by
    refine List.filter_congr fun e _ => ?_
    simp [Booking.holdsAny]
  have own : (clearedFor d b (k.berth.getD 0) k.dep s).booking b = k :=
    (moveList_booking_other _ _ s addedHolders_ne).trans hk
  subst hk
  unfold clearedFor moveList at own ⊢
  simp only [extendBooking, held, own, addOverstay_of_le room, extended]

theorem not_noShowDue_of_arrived (arrived : (s.booking b).state = .arrived) :
    (s.booking b).noShowDue s.bal.grace d = false := by
  simp [Booking.noShowDue, arrived]

section
variable (arrived : (s.booking b).state = .arrived) (due : (s.booking b).arr + 1 ≤ d)
  (room : (s.booking b).nightsCharged < 65535)
include arrived due room

theorem walkRecord_arrived (h : d < (s.booking b).dep) :
    walkRecord d moment b (s, c) = (charge b s, ⟨c.fees + 1, c.noShows, c.extended⟩) := by
  refine walkRecord_charged room ((feeDue_iff ..).2 ⟨due, .inl arrived⟩) (not_noShowDue_of_arrived arrived) ?_
  rw [Bool.eq_false_iff, Ne, extendDue_iff]
  omega

/-- R40, R41. -/
theorem walkRecord_overstaying (h : (s.booking b).dep ≤ d)
    (overRoom : (s.booking b).overstay + (min (d + 1) 65535 - (s.booking b).dep) ≤ 65535) :
    walkRecord d moment b (s, c) =
      (((clearedFor d b ((s.booking b).berth.getD 0) (s.booking b).dep (charge b s)).setBooking b
          (extended d { s.booking b with nightsCharged := (s.booking b).nightsCharged + 1 })).raise
        (.bookingExtended b ((s.booking b).berth.getD 0) (min (d + 1) 65535)),
        ⟨c.fees + 1, c.noShows, c.extended + 1⟩) := by
  have hf : (s.booking b).feeDue d = true := (feeDue_iff ..).2 ⟨due, .inl arrived⟩
  have he : (s.booking b).extendDue d = true := (extendDue_iff ..).2 ⟨arrived, h⟩
  rw [walkRecord_of_present (not_noShowDue_of_arrived arrived), hf, he, feePhase, hf, if_pos rfl, if_pos rfl,
    postFee_eq_charge room, extendBooking_eq (charge_booking_self b s) overRoom]
  rfl

end

end

theorem extendBooking_bookingsOnly (d b : Nat) (s : State) : BookingsOnly s (extendBooking d b s) := by
  unfold extendBooking
  exact ((moveList_bookingsOnly (fun v => v.lowWaterFrom d) _ s).setBooking b _).raise _

theorem walkRecord_bookingsOnly (d : Nat) (moment : Stamp) (b : Nat) (w : State × WalkCounts) :
    BookingsOnly w.1 (walkRecord d moment b w).1 := by
  obtain ⟨s, c⟩ := w
  have fee : BookingsOnly s (feePhase d b s) := by
    rcases feePhase_cases d b s with ⟨-, h⟩ | ⟨-, h⟩ <;> rw [h]
    · exact postFee_bookingsOnly b s
    · exact .refl s
  cases hn : (s.booking b).noShowDue s.bal.grace d with
  | true =>
    rw [walkRecord_of_noShow hn]
    exact (fee.trans (closeBooking_bookingsOnly ..)).raise _
  | false =>
    rw [walkRecord_of_present hn]
    dsimp only
    split
    · exact fee.trans (extendBooking_bookingsOnly ..)
    · exact fee

/-! ## The obligation -/

/-- R22, R23: what a move makes of one booking. -/
theorem moveBooking_spec (water : State → Nat → Int) (n old : Nat) (s : State) (hs : (s.booking n).state = .confirmed)
    (hb : (s.booking n).berth = some old) :
    SameBut [.berths] s (moveBooking water n s) ∧ OnlyBooking n s (moveBooking water n s) ∧
      match s.place (water s) (boatOf n (s.booking n)) (s.berth old).pontoon (some old) with
      | some new => (moveBooking water n s).booking n = { s.booking n with berth := some new } ∧
          Raises [.bookingMoved n old new] s (moveBooking water n s)
      | none => (moveBooking water n s).booking n = { s.booking n with state := .unplaced, berth := none } ∧
          Raises [.bookingUnplaced n old] s (moveBooking water n s) := by
  refine ⟨moveBooking_sameBut (by decide) water n s,
    ⟨moveBooking_bookingsOnly water n s, fun j hj => moveBooking_booking_other water s hj⟩, ?_⟩
  have written (k : Booking) (body : NoticeBody) :
      ((s.setBooking n k).raise body).booking n = k ∧ Raises [body] s ((s.setBooking n k).raise body) :=
    ⟨(State.booking_setBooking s n n k).trans (if_pos rfl), raises_raise body rfl rfl⟩
  cases hp : s.place (water s) (boatOf n (s.booking n)) (s.berth old).pontoon (some old) with
  | some new =>
    rw [moveBooking_placed hs hb hp]
    exact written ..
  | none =>
    rw [moveBooking_unplaced hs hb hp]
    exact written ..

/-- R39: what the walk makes of a booking past its grace. -/
theorem walkRecord_noShow_spec {d b : Nat} (moment : Stamp) (c : WalkCounts) {s : State}
    (hs : (s.booking b).state = .confirmed ∨ (s.booking b).state = .unplaced)
    (past : (s.booking b).arr + s.bal.grace + 1 ≤ d) :
    let walked := walkRecord d moment b (s, c)
    let t := walked.1
    (t.booking b).state = .noShow ∧ (t.booking b).berth = none ∧ (t.booking b).closedTime = some moment ∧
      (∀ e ∈ t.gtc.creds, e.2.state ≠ .free → e.2.booking ≠ some b) ∧
      SameBut [.berths, .accounts, .feeders, .line, .gates] s t ∧ (∀ j, j ≠ b → t.booking j = s.booking j) ∧
      walked.2 = ⟨if (s.booking b).state = .confirmed ∧ d ≤ (s.booking b).dep then c.fees + 1 else c.fees, c.noShows + 1,
        c.extended⟩ ∧
      ((s.booking b).state = .unplaced ∨ (s.booking b).dep < d → Raises [.bookingNoShow b (s.booking b).berth] s t) := by
  have hn := (noShowDue_iff (s.booking b) s.bal.grace d).2 ⟨hs, past⟩
  have parts : SameBut [.berths, .accounts, .feeders, .line, .gates] s (walkRecord d moment b (s, c)).1 :=
    walkRecord_sameBut (by decide) (by decide) d moment b (s, c)
  have hf : (s.booking b).feeDue d = true ↔ (s.booking b).state = .confirmed ∧ d ≤ (s.booking b).dep := by
    rw [feeDue_iff]
    constructor
    · rintro ⟨-, h | h⟩
      · simp [h] at hs
      · exact h
    · exact fun h => ⟨by omega, .inr h⟩
  have record (j : Nat) := closeBooking_booking .noShow moment b (feePhase d b s) j
  intro walked t
  have hw : walked = _ := walkRecord_of_noShow hn
  have ht : t = (closeBooking .noShow moment b (feePhase d b s)).raise (.bookingNoShow b (s.booking b).berth) :=
    congrArg Prod.fst hw
  have hbook (j : Nat) : t.booking j =
      if j = b then closedRecord .noShow moment ((feePhase d b s).booking b) else (feePhase d b s).booking j := by
    rw [ht, booking_of_bal_eq (raise_bal ..), record]
  have hself := (hbook b).trans (if_pos rfl)
  refine ⟨by rw [hself]; rfl, by rw [hself]; rfl, by rw [hself]; rfl, ?_, parts, fun j hj => ?_, ?_, fun noFee => ?_⟩
  · rw [ht]
    exact freeBookingCreds_none_left
  · rw [hbook, if_neg hj, feePhase_booking_other d s hj]
  · rw [hw]
    simp only [countIf, hf]
    split <;> rfl
  · have none : feePhase d b s = s := by
      refine if_neg fun h => ?_
      obtain ⟨h₁, h₂⟩ := hf.1 h
      rcases noFee with h | h
      · simp [h₁] at h
      · omega
    rw [ht, none]
    exact raises_raise _ (closeBooking_hlc ..) (closeBooking_clk ..)

/-- Settles O14: a move's two outcomes, and the walk's record by its tests: fee, NO_SHOW, extension. -/
theorem rolloverClosesTheNightOfABooking : Obligations.RolloverClosesTheNightOfABooking := by
  unfold Obligations.RolloverClosesTheNightOfABooking
  refine ⟨fun water n s => ⟨moveBooking_of_not_confirmed, fun old hs hb => moveBooking_spec water n old s hs hb⟩,
    fun d b moment c s => ?_⟩
  refine ⟨walkRecord_unconcerned, fun confirmed due stays room grace => ?_, fun arrived due stays room => ?_,
    fun arrived due late room => ?_, walkRecord_noShow_spec moment c⟩
  · refine walkRecord_charged room ((feeDue_iff ..).2 ⟨due, .inr ⟨confirmed, stays⟩⟩) ?_ ?_
    · rw [Bool.eq_false_iff, Ne, noShowDue_iff]
      omega
    · rw [Bool.eq_false_iff, Ne, extendDue_iff, confirmed]
      simp
  · exact walkRecord_arrived arrived due room stays
  · intro held moved dep overstay overRoom after
    have hw := walkRecord_overstaying (moment := moment) (c := c) arrived due room late overRoom
    have hbook (j : Nat) : (walkRecord d moment b (s, c)).1.booking j = if j = b then after else moved.booking j := by
      rw [hw]
      exact State.booking_setBooking ..
    refine ⟨hw, (hbook b).trans (if_pos rfl), fun j hj unheld => ?_⟩
    rw [hbook, if_neg hj]
    exact (moveList_booking_other _ _ _ unheld).trans (charge_booking_other s hj)

end Sys2Proof.Machine
end

section
/-! SUPPORT. A rollover, a run of rollovers, and the events that make them (R8, R37, R76 to R78, O13): what they leave as it
was, and what they do to the clock and the notices. -/

namespace Sys2Proof.Machine

/-! ## The walk's notices -/

theorem moveBooking_speaks (water : State → Nat → Int) (n : Nat) (s : State) : Speaks s (moveBooking water n s) := by
  rcases moveBooking_cases water n s with ⟨h, -⟩ | ⟨old, k, b, -, -, -, h⟩ <;> rw [h]
  · exact .refl s
  · exact ((Speaks.refl _).raise b).after (State.setBooking_hlc s n k)

theorem extendBooking_speaks (d b : Nat) (s : State) : Speaks s (extendBooking d b s) := by
  have moved (l : List (Nat × Booking)) : Speaks s (moveList (fun v => v.lowWaterFrom d) l s) :=
    .foldl (fun t (e : Nat × Booking) => moveBooking (fun v => v.lowWaterFrom d) e.1 t)
      (fun t e => moveBooking_speaks _ e.1 t) l s
  unfold extendBooking
  exact ((moved _).andThen (State.setBooking_hlc ..)).raise _

theorem feePhase_speaks (d b : Nat) (s : State) : Speaks s (feePhase d b s) := by
  rcases feePhase_cases d b s with ⟨-, h⟩ | ⟨-, h⟩ <;> rw [h]
  · exact (post_speaks _ _ (s.setBooking b _)).after rfl
  · exact .refl s

theorem walkRecord_speaks (d : Nat) (moment : Stamp) (b : Nat) (w : State × WalkCounts) :
    Speaks w.1 (walkRecord d moment b w).1 := by
  obtain ⟨s, c⟩ := w
  cases hn : (s.booking b).noShowDue s.bal.grace d with
  | true =>
    rw [walkRecord_of_noShow hn]
    exact ((feePhase_speaks d b s).andThen (closeBooking_hlc ..)).raise _
  | false =>
    rw [walkRecord_of_present hn]
    dsimp only
    split
    · exact (feePhase_speaks d b s).trans (extendBooking_speaks ..)
    · exact feePhase_speaks d b s

/-- R37: the walk takes the booking table's 512 records. -/
theorem walk_eq (d : Nat) (moment : Stamp) (s : State) :
    walk d moment s = (List.range 512).foldl (fun w b => walkRecord d moment b w) (s, ⟨0, 0, 0⟩) := by
  have hcount : bookingCount = 512 := rfl
  rw [walk, hcount]

/-- What each record of a walk keeps of the state, the walk keeps. -/
theorem walk_keeps {kept : State → State → Prop} (refl : ∀ s, kept s s)
    (trans : ∀ {s t u}, kept s t → kept t u → kept s u) {d : Nat} {moment : Stamp}
    (record : ∀ b w, kept w.1 (walkRecord d moment b w).1) (s : State) : kept s (walk d moment s).1 :=
  foldl_keeps (kept := fun w v : State × WalkCounts => kept w.1 v.1) (fun w => refl w.1) trans
    (fun w b => walkRecord d moment b w) (fun w b => record b w) (List.range bookingCount) (s, ⟨0, 0, 0⟩)

/-! ## One rollover -/

section
variable (src : RolloverSource) (moment : Stamp) (d : Nat) (s : State)

/-- The state in which a rollover's walk begins: the last rollover day written, the earlier days' low water removed. -/
def rolloverBegun : State := purgeTides d (s.setClk { s.clk with lastRoll := d })

theorem rolloverBegun_eq :
    rolloverBegun d s =
      { s with
        clk := { s.clk with lastRoll := d }, bal := { s.bal with tides := s.bal.tides.filter fun e => decide (d ≤ e.1) } } :=
  rfl

theorem rollOver_eq :
    rollOver src moment d s =
      (walk d moment (rolloverBegun d s)).1.raise (.rolloverDone d src (walk d moment (rolloverBegun d s)).2.fees
        (walk d moment (rolloverBegun d s)).2.noShows (walk d moment (rolloverBegun d s)).2.extended) := by
  simp only [rollOver, rolloverBegun]

theorem rollOver_speaks : Speaks s (rollOver src moment d s) := by
  rw [rollOver_eq]
  exact ((walk_keeps .refl .trans (walkRecord_speaks d moment) (rolloverBegun d s)).raise _).after rfl

theorem rollOver_bookingsOnly : BookingsOnly (rolloverBegun d s) (rollOver src moment d s) := by
  rw [rollOver_eq]
  exact (walk_keeps .refl .trans (walkRecord_bookingsOnly d moment) (rolloverBegun d s)).raise _

theorem rollOver_clk : (rollOver src moment d s).clk = { s.clk with lastRoll := d } :=
  (rollOver_sameBut (parts := .berths :: holdParts) (by decide) (by decide) src moment d s).clk_eq (by decide)

/-- The blocks a rollover works on. -/
def rolloverParts : List Part := [.clock, .berths, .accounts, .feeders, .line, .gates]

theorem rollOver_parts : SameBut rolloverParts s (rollOver src moment d s) :=
  ((SameBut.refl _ s).setClk (by decide) _).trans (rollOver_sameBut (by decide) (by decide) src moment d s)

end

/-! ## A run of rollovers -/

section
variable (src : RolloverSource) (first count : Nat) (s : State)

theorem rollRun_succ :
    rollRun src first (count + 1) s = rollOverAtHour src (first + count) (rollRun src first count s) := by
  simp [rollRun, List.range_succ]

theorem rollRun_speaks : Speaks s (rollRun src first count s) :=
  .foldl _ (fun s _ => rollOver_speaks _ _ _ s) _ s

theorem rollRun_parts : SameBut rolloverParts s (rollRun src first count s) :=
  .foldl _ (fun s _ => rollOver_parts _ _ _ s) _ s

/-- A run writes the last rollover day alone of the clock: the day of its last rollover. -/
theorem rollRun_clk (more : Nat) : (rollRun src first (more + 1) s).clk = { s.clk with lastRoll := first + more } := by
  induction more with
  | zero => exact rollOver_clk ..
  | succ n ih => rw [rollRun_succ, rollOverAtHour, rollOver_clk, ih]

theorem rollRun_rollHour : (rollRun src first count s).clk.rollHour = s.clk.rollHour := by
  cases count with
  | zero => rfl
  | succ n => rw [rollRun_clk]

/-- R77: each rollover of a run sees the rollover hour of its own day. -/
theorem rollRun_eq :
    rollRun src first count s =
      (List.range count).foldl (fun u k => rollOver src ⟨first + k, s.clk.rollHour * 3600⟩ (first + k) u) s := by
  induction count with
  | zero => simp [rollRun]
  | succ n ih =>
    rw [rollRun_succ, rollOverAtHour, rollRun_rollHour, List.range_succ, List.foldl_append, ← ih]
    rfl

end

/-! ## The events -/

/-- R76: the rollover at the hour. -/
theorem hourRollover_due {s : State} (set : s.clk.isSet = true) (owed : s.clk.catchUpDue = false)
    (late : s.clk.lastRoll < s.night) : hourRollover s = rollOver .hour s.now s.night s :=
  if_pos (by simp [State.rolloverDue, set, owed, late])

/-- The state in which a catch-up run begins. -/
def catchUpTaken (s : State) : State := { s with clk := { s.clk with catchUpDue := false } }

/-- The notice of the rollovers a catch-up run leaves out (R78). -/
def skippedNotice (s : State) : NoticeBody :=
  .rolloverSkipped (s.night - s.clk.lastRoll - 7) (s.clk.lastRoll + 1) (s.night - 7)

section
variable {s : State}

theorem catchUpRun_none (h : s.clk.isSet = false ∨ s.night ≤ s.clk.lastRoll) : catchUpRun s = catchUpTaken s :=
  if_pos (by simpa using h)

/-- R78: at most seven days missed. -/
theorem catchUpRun_all (set : s.clk.isSet = true) (late : s.clk.lastRoll < s.night) (few : s.night ≤ s.clk.lastRoll + 7) :
    catchUpRun s = rollRun .catchUp (s.clk.lastRoll + 1) (s.night - s.clk.lastRoll) (catchUpTaken s) := by
  unfold catchUpRun
  dsimp only
  rw [if_neg (by simp [set, late]), if_pos (by omega)]
  rfl

/-- R78: the latest seven days of more. -/
theorem catchUpRun_latest (set : s.clk.isSet = true) (many : s.clk.lastRoll + 7 < s.night) :
    catchUpRun s = rollRun .catchUp (s.night - 6) 7 ((catchUpTaken s).raise (skippedNotice s)) := by
  unfold catchUpRun
  dsimp only
  rw [if_neg (by simp only [set]; simp; omega), if_neg (by omega)]
  rfl

/-- A catch-up run reaches the current night, when it is later than the last rollover day. -/
theorem catchUpRun_clk (set : s.clk.isSet = true) (late : s.clk.lastRoll < s.night) :
    (catchUpRun s).clk = { s.clk with catchUpDue := false, lastRoll := s.night } := by
  by_cases few : s.night ≤ s.clk.lastRoll + 7
  · obtain ⟨more, hm⟩ : ∃ more, s.night = s.clk.lastRoll + 1 + more := ⟨s.night - s.clk.lastRoll - 1, by omega⟩
    rw [catchUpRun_all set late few, show s.night - s.clk.lastRoll = more + 1 by omega, rollRun_clk, ← hm]
    rfl
  · rw [catchUpRun_latest set (by omega), rollRun_clk _ _ _ 6, show s.night - 6 + 6 = s.night by omega]
    rfl

theorem catchUpTaken_parts {parts : List Part} (h : .clock ∈ parts) (s : State) : SameBut parts s (catchUpTaken s) :=
  .writeClk h s _

/-- Of a catch-up run's outcomes: it takes the mark alone, or it is a run from there, or from behind the notice. -/
theorem catchUpRun_cases (s : State) :
    catchUpRun s = catchUpTaken s ∨
      (∃ first count, catchUpRun s = rollRun .catchUp first count (catchUpTaken s)) ∨
      ∃ first count, catchUpRun s = rollRun .catchUp first count ((catchUpTaken s).raise (skippedNotice s)) := by
  by_cases idle : s.clk.isSet = false ∨ s.night ≤ s.clk.lastRoll
  · exact .inl (catchUpRun_none idle)
  · have set : s.clk.isSet = true := by simpa using fun h => idle (.inl h)
    by_cases few : s.night ≤ s.clk.lastRoll + 7
    · exact .inr (.inl ⟨_, _, catchUpRun_all set (by omega) few⟩)
    · exact .inr (.inr ⟨_, _, catchUpRun_latest set (by omega)⟩)

theorem catchUpRun_speaks (s : State) : Speaks s (catchUpRun s) := by
  have taken : Speaks s (catchUpTaken s) := .of_hlc rfl
  rcases catchUpRun_cases s with h | ⟨first, count, h⟩ | ⟨first, count, h⟩ <;> rw [h]
  · exact taken
  · exact taken.trans (rollRun_speaks ..)
  · exact (taken.raise _).trans (rollRun_speaks ..)

theorem catchUpRun_parts (s : State) : SameBut rolloverParts s (catchUpRun s) := by
  have taken : SameBut rolloverParts s (catchUpTaken s) := catchUpTaken_parts (by decide) s
  rcases catchUpRun_cases s with h | ⟨first, count, h⟩ | ⟨first, count, h⟩ <;> rw [h]
  · exact taken
  · exact taken.trans (rollRun_parts ..)
  · exact (taken.raise _).trans (rollRun_parts ..)

/-- R78: the days left out are reported before any rollover of the run speaks. -/
theorem catchUpRun_reports (set : s.clk.isSet = true) (many : s.clk.lastRoll + 7 < s.night)
    (room : s.hlc.notices.length < 32) :
    ∃ later, (catchUpRun s).hlc.outgoing = s.hlc.outgoing ++ ⟨s.now, skippedNotice s⟩ :: later := by
  have raised : Raises [skippedNotice s] (catchUpTaken s) ((catchUpTaken s).raise (skippedNotice s)) :=
    raises_raise (skippedNotice s) rfl rfl
  obtain ⟨later, hl⟩ := (rollRun_speaks .catchUp (s.night - 6) 7 ((catchUpTaken s).raise (skippedNotice s))).outgoing
  refine ⟨later, ?_⟩
  rw [catchUpRun_latest set many, ← hl, raised room, List.append_assoc]
  rfl

end

/-- CATCH_UP of a running part that owes its catch-up. -/
theorem exec_catchUp {s : State} (run : s.running = true) (owed : s.clk.catchUpDue = true) :
    ∃ t, exec .catchUp s = .next t ∧ AsLeft (catchUpRun s) t ∧ t.reply = s.reply := by
  have h := event_asLeft (f := fun s => if s.clk.catchUpDue then catchUpRun s else s) run
  simp only [owed, if_true] at h
  exact ⟨_, rfl, h.1, h.2.trans (catchUpRun_speaks s).reply⟩

/-- ROLLOVER of a running part whose rollover is due. -/
theorem exec_rollover {s : State} (run : s.running = true) (set : s.clk.isSet = true) (owed : s.clk.catchUpDue = false)
    (late : s.clk.lastRoll < s.night) :
    ∃ t, exec .rollover s = .next t ∧ AsLeft (rollOver .hour s.now s.night s) t ∧ t.reply = s.reply := by
  have h := event_asLeft (f := hourRollover) run
  rw [hourRollover_due set owed late] at h
  exact ⟨_, rfl, h.1, h.2.trans (rollOver_speaks ..).reply⟩

/-- Settles O13: a rollover writes the last rollover day before its walk, which leaves the clock and the low water as they
are, and a run's rollovers see their own days because no rollover changes the hour. -/
theorem rolloversReachTheCurrentNight : Obligations.RolloversReachTheCurrentNight := by
  unfold Obligations.RolloversReachTheCurrentNight
  refine ⟨fun src moment d s => by simp only [rollOver_eq, walk_eq, rolloverBegun_eq],
    fun s run set owed late => ?_, fun s run owed => ?_⟩
  · obtain ⟨t, hx, hu, hr⟩ := exec_rollover run set owed late
    have hclk : t.clk = { s.clk with lastRoll := s.night } := hu.clk.trans (rollOver_clk ..)
    have hbal := rollOver_bookingsOnly .hour s.now s.night s
    refine ⟨t, hx, hu.sameBut (rollOver_parts ..), hu, hr, hclk, ?_, ?_, ?_⟩
    · have hnight : t.night = s.night := by rw [State.night, hclk]; rfl
      simp [State.rolloverDue, hnight, hclk]
    · rw [hu.bal]
      exact hbal.tides_eq
    · rw [hu.bal]
      exact hbal.berths_eq
  · obtain ⟨t, hx, hu, hr⟩ := exec_catchUp run owed
    refine ⟨t, hx, hu.sameBut (catchUpRun_parts s), hr, fun set late => ⟨?_, fun few => ?_, fun many => ?_⟩, fun idle => ?_,
      fun set many room => ?_⟩
    · exact hu.clk.trans (catchUpRun_clk set late)
    · rwa [catchUpRun_all set late few, rollRun_eq] at hu
    · rwa [catchUpRun_latest set many, rollRun_eq] at hu
    · rw [catchUpRun_none idle] at hu
      exact ⟨hu.clk, hu.sameBut (catchUpTaken_parts (by decide) s), hu.raises (raises_of_hlc rfl)⟩
    · obtain ⟨later, hl⟩ := catchUpRun_reports set many room
      exact ⟨later, hu.outgoing.trans hl⟩

end Sys2Proof.Machine
end

section
/-! SUPPORT. An arrival, from the host and from a passage (R29 to R32, O23). -/

namespace Sys2Proof.Machine

/-! ## The judgement of R29 and R30 -/

theorem firstFailing_of_pass {checks : List (Bool × Status)} (h : ∀ c ∈ checks, c.1 = false) :
    firstFailing checks = none := by
  induction checks with
  | nil => rfl
  | cons c rest ih =>
    obtain ⟨own, later⟩ := List.forall_mem_cons.1 h
    rw [firstFailing, own]
    exact ih later

section
variable {b : Nat} {case : ArriveCase} {s : State}

theorem arriveCase_of_arrivesAs (h : ArrivesAs s b case) : s.arriveCase (s.booking b) = case := by
  cases case with
  | onTime => exact if_pos h.1
  | morning =>
    obtain ⟨tonight, today, -⟩ := h
    rw [State.arriveCase, if_neg (by omega), if_pos ⟨tonight, today⟩]
  | early =>
    obtain ⟨later, notMorning, -⟩ := h
    rw [State.arriveCase, if_neg (by omega), if_neg notMorning]

theorem arriveRefusal_of_arrivesAs (h : ArrivesAs s b case) : s.arriveRefusal b (s.booking b) = none := by
  unfold State.arriveRefusal
  rw [arriveCase_of_arrivesAs h]
  cases case with
  | onTime => simp [h.2]
  | morning => simp [h.2.2]
  | early => exact if_pos h.2.2

/-- R29: a CONFIRMED booking whose stay is not over passes. -/
theorem arriveChecks_pass (hset : s.clk.isSet = true) (hb : b ≤ 511) (hc : (s.booking b).state = .confirmed)
    (hd : s.night < (s.booking b).dep) : ∀ c ∈ arriveChecks b s, c.1 = false := by
  simp [arriveChecks, hset, within_true (Nat.zero_le b) hb, hc, hd]

theorem arrivalRefused_none (hset : s.clk.isSet = true) (hb : b ≤ 511) (hc : (s.booking b).state = .confirmed)
    (hd : s.night < (s.booking b).dep) (h : ArrivesAs s b case) : s.arrivalRefused b = none := by
  simp only [State.arrivalRefused, firstFailing_of_pass (arriveChecks_pass hset hb hc hd)]
  exact arriveRefusal_of_arrivesAs h

end

/-! ## The effects of R31 -/

/-- The record an arrival of a case leaves at a state's present time. -/
def arrivedRecord (s : State) (case : ArriveCase) (k : Booking) : Booking :=
  { k with state := .arrived, arrivedTime := some s.now, arr := if case = .early then s.night else k.arr }

section
variable (b src : Nat) (s : State)

/-- Of the BAL, an arrival writes the booking's record alone. -/
theorem arrive_bal :
    (arrive b src s).bal =
      (s.setBooking b (arrivedRecord s (s.arriveCase (s.booking b)) (s.booking b))).bal :=
  (farEntitle_sameBut (parts := [.feeders]) (by decide) ..).bal_eq (by decide)

theorem arrive_onlyBooking : OnlyBooking b s (arrive b src s) := by
  refine ⟨by rw [arrive_bal]; rfl, fun j hj => ?_⟩
  rw [booking_of_bal_eq (arrive_bal b src s), State.booking_setBooking, if_neg hj]

theorem arrive_booking_self :
    (arrive b src s).booking b = arrivedRecord s (s.arriveCase (s.booking b)) (s.booking b) := by
  rw [booking_of_bal_eq (arrive_bal b src s), State.booking_setBooking, if_pos rfl]

end

/-! ## The two requests -/

section
variable {b : Nat} {s : State}

theorem bookArrive_accepted (h : s.arrivalRefused b = none) :
    bookArrive b s =
      accept [resultItem [enumField arriveCases (s.arriveCase (s.booking b)), .u 2 ((arrive b 0 s).booking b).arr]]
        (arrive b 0 s) := by
  simp only [bookArrive, h]

/-- AUTO_ARRIVE of a running part with a request to take. -/
theorem exec_autoArrive {a : Arrival} {rest : List Arrival} (run : s.running = true) (ha : s.bal.arrivals = a :: rest) :
    ∃ t, exec .autoArrive s = .next t ∧ AsLeft (autoArrive a (s.setArrivals rest)) t := by
  have h := (event_asLeft (f := takeArrival) run).1
  have taken : takeArrival s = autoArrive a (s.setArrivals rest) := by simp only [takeArrival, ha]
  rw [taken] at h
  exact ⟨_, rfl, h⟩

/-- The requests that wait behind an arrival do not bear on its judgement. -/
theorem arrivalRefused_setArrivals (l : List Arrival) : (s.setArrivals l).arrivalRefused b = s.arrivalRefused b := rfl

theorem autoArrive_accepted {a : Arrival} (h : s.arrivalRefused a.booking = none) :
    autoArrive a s = arrive a.booking a.gate s := by
  simp only [autoArrive, h]

theorem autoArrive_refused {a : Arrival} {code : Status} (h : s.arrivalRefused a.booking = some code) :
    autoArrive a s = s.raise (.arriveRefused a.booking a.cred a.gate code) := by
  simp only [autoArrive, h]

end

/-- Settles O23: the host's request and a passage's are judged alike, on a state whose waiting requests do not bear on it,
and an accepted one has the same effects. -/
theorem arrivalIsTakenOrReported : Obligations.ArrivalIsTakenOrReported := by
  unfold Obligations.ArrivalIsTakenOrReported
  refine ⟨fun b case s hset hb hc hd h => ?_, fun a rest code s run ha refused => ?_⟩
  · have passes : s.arrivalRefused b = none := arrivalRefused_none hset hb hc hd h
    have hcase := arriveCase_of_arrivesAs h
    refine ⟨fun tag ht => ?_, fun cred gate rest run ha => ?_⟩
    · have hself := arrive_booking_self b 0 s
      have accepted := bookArrive_accepted passes
      rw [hself, hcase] at accepted
      rw [hcase] at hself
      obtain ⟨t, hr, hu⟩ := request_answers (i := .bookArrive tag b) rfl rfl ht accepted
      exact ⟨t, hr, hu.sameBut (arrive_sameBut (by decide) (by decide) ..), hu.onlyBooking (arrive_onlyBooking ..),
        (hu.booking b).trans hself⟩
    · obtain ⟨t, hx, hu⟩ := exec_autoArrive run ha
      rw [autoArrive_accepted (arrivalRefused_setArrivals rest ▸ passes)] at hu
      obtain ⟨hbal, others⟩ := arrive_onlyBooking b gate (s.setArrivals rest)
      have hself := arrive_booking_self b gate (s.setArrivals rest)
      rw [show (s.setArrivals rest).arriveCase ((s.setArrivals rest).booking b) = case from hcase] at hself
      have parts : SameBut [.berths, .feeders] s (arrive b gate (s.setArrivals rest)) :=
        ((SameBut.refl _ s).setArrivals (by decide) rest).trans (arrive_sameBut (by decide) (by decide) ..)
      exact ⟨t, hx, hu.sameBut parts, by rw [hu.bal, hbal]; rfl, by rw [hu.bal, hbal]; rfl, (hu.booking b).trans hself,
        fun j hj => (hu.booking j).trans (others j hj)⟩
  · obtain ⟨t, hx, hu⟩ := exec_autoArrive run ha
    rw [autoArrive_refused (arrivalRefused_setArrivals rest ▸ refused)] at hu
    exact ⟨t, hx, hu.sameBut (((SameBut.refl _ s).setArrivals (by decide) rest).raise _), hu.bal,
      hu.raises (raises_raise _ rfl rfl)⟩

end Sys2Proof.Machine
end

section
/-! SUPPORT. The feeders' pending sets (R105, R110 to R113): that each holds PENDING sockets of its own and its blocking
request is one of them is kept by every operation of the FAR, and a grant search grants no socket that is not PENDING. -/

namespace Sys2Proof.Machine

/-- Of what every step keeps of the feeders, the part about the pending sets. -/
structure PendingSound (s : State) : Prop where
  pending : ∀ f n, n ∈ (s.feeder f).pending → (s.socket n).state = .pending ∧ s.feederOf n = f
  blocking : ∀ f n, (s.feeder f).blocking = some n → n ∈ (s.feeder f).pending

theorem FeedersSound.pendingSound {s : State} (h : FeedersSound s) : PendingSound s := ⟨h.pending, h.blocking⟩

/-- Nothing differs that bears on the pending sets. -/
structure SameQueues (s t : State) : Prop where
  state : ∀ n, (t.socket n).state = (s.socket n).state
  pending : ∀ f, (t.feeder f).pending = (s.feeder f).pending
  blocking : ∀ f, (t.feeder f).blocking = (s.feeder f).blocking
  pedestals : t.pdl.pedestals = s.pdl.pedestals

theorem feederOf_of_pedestals_eq {s t : State} (h : t.pdl.pedestals = s.pdl.pedestals) (n : Nat) :
    t.feederOf n = s.feederOf n := by
  rw [State.feederOf, State.pedestal, h]
  rfl

namespace SameQueues

variable {s t u : State}

theorem of_blocks (hf : t.far = s.far) (hp : t.pdl.pedestals = s.pdl.pedestals) : SameQueues s t :=
  ⟨fun n => by simp only [State.socket, hf], fun f => by simp only [State.feeder, hf],
    fun f => by simp only [State.feeder, hf], hp⟩

theorem refl (s : State) : SameQueues s s := of_blocks rfl rfl

theorem trans (h : SameQueues s t) (k : SameQueues t u) : SameQueues s u :=
  ⟨fun n => (k.state n).trans (h.state n), fun f => (k.pending f).trans (h.pending f),
    fun f => (k.blocking f).trans (h.blocking f), k.pedestals.trans h.pedestals⟩

theorem foldl {α : Type} (f : State → α → State) (h : ∀ s a, SameQueues s (f s a)) (l : List α) (s : State) :
    SameQueues s (l.foldl f s) := foldl_keeps refl trans f h l s

theorem setSocket (s : State) {n : Nat} {x : Socket} (h : x.state = (s.socket n).state) :
    SameQueues s (s.setSocket n x) := by
  refine ⟨fun m => ?_, fun _ => rfl, fun _ => rfl, rfl⟩
  rw [State.socket_setSocket]
  split
  · rename_i hm
    rw [hm, h]
  · rfl

theorem sound (h : SameQueues s t) (k : PendingSound s) : PendingSound t where
  pending f n hn := by
    rw [h.pending] at hn
    rw [h.state, feederOf_of_pedestals_eq h.pedestals]
    exact k.pending f n hn
  blocking f n hn := by
    rw [h.blocking] at hn
    rw [h.pending]
    exact k.blocking f n hn

end SameQueues

/-! ## One pass (R111, R112) -/

theorem takeStamp_sameQueues (s : State) : SameQueues s (takeStamp s).1 := by
  have renumbered : SameQueues s (renumber s) :=
    (SameQueues.foldl (fun t (e : (Nat × Socket) × Nat) => t.setSocket e.1.1 { t.socket e.1.1 with stamp := some e.2 })
      (fun t _ => .setSocket t rfl) _ s).trans ⟨fun _ => rfl, fun _ => rfl, fun _ => rfl, rfl⟩
  unfold takeStamp
  dsimp only
  split
  · exact renumbered.trans ⟨fun _ => rfl, fun _ => rfl, fun _ => rfl, rfl⟩
  · exact ⟨fun _ => rfl, fun _ => rfl, fun _ => rfl, rfl⟩

/-- The first that passes a test is of the list, and those skipped were so before or are of the list and fail. -/
theorem firstFit_mem {test : Nat → Bool} {l skipped later : List Nat} {n : Nat}
    (h : firstFit test skipped l = some (n, later)) :
    n ∈ l ∧ test n = true ∧ ∀ m ∈ later, m ∈ skipped ∨ m ∈ l ∧ test m = false := by
  induction l generalizing skipped with
  | nil => cases h
  | cons a rest ih =>
    rw [firstFit] at h
    split at h
    · rename_i ha
      cases h
      exact ⟨List.mem_cons_self, ha, fun m hm => .inl (List.mem_reverse.1 hm)⟩
    · rename_i ha
      obtain ⟨hn, passes, hl⟩ := ih h
      refine ⟨List.mem_cons_of_mem _ hn, passes, fun m hm => ?_⟩
      rcases hl m hm with hs | ⟨hr, fails⟩
      · rcases List.mem_cons.1 hs with rfl | hs
        · exact .inr ⟨List.mem_cons_self, by simpa using ha⟩
        · exact .inl hs
      · exact .inr ⟨List.mem_cons_of_mem _ hr, fails⟩

theorem mem_rotation {s : State} {f n : Nat} (h : n ∈ s.rotation f) : n ∈ (s.feeder f).pending := by
  obtain ⟨c, -, hc⟩ := List.mem_flatMap.1 h
  rcases List.mem_append.1 hc with hc | hc <;> exact List.mem_of_mem_filter (List.mem_of_mem_filter hc)

theorem mem_passOrder {s : State} (h : PendingSound s) {f n : Nat} (hn : n ∈ s.passOrder f) :
    n ∈ (s.feeder f).pending := by
  unfold State.passOrder at hn
  split at hn
  · rename_i m hm
    rw [List.mem_singleton.1 hn]
    exact h.blocking f m hm
  · exact mem_rotation hn

/-- A pass grants a PENDING socket of the feeder, and passes over other ones. -/
theorem pass_mem {s : State} (h : PendingSound s) {f n : Nat} {skipped : List Nat}
    (hp : s.pass f = some (n, skipped)) :
    n ∈ (s.feeder f).pending ∧ ∀ m ∈ skipped, m ∈ (s.feeder f).pending ∧ m ≠ n := by
  obtain ⟨hn, fits, hs⟩ := firstFit_mem hp
  refine ⟨mem_passOrder h hn, fun m hm => ?_⟩
  rcases hs m hm with none | ⟨hm, unfit⟩
  · cases none
  · refine ⟨mem_passOrder h hm, ?_⟩
    rintro rfl
    rw [fits] at unfit
    cases unfit

section
variable (f n : Nat) (skipped : List Nat) (s : State)

/-- A grant with its stamp taken and the sockets written, the feeder not yet. -/
def grantedSockets : State :=
  let granted := (takeStamp s).1.setSocket n
    { (takeStamp s).1.socket n with
      state := .granted, reservation := some (s.reservation n), stamp := some (takeStamp s).2, confirm := some 0,
      bypass := 0 }
  if ((takeStamp s).1.feeder f).blocking.isSome then granted else skipped.foldl countBypass granted

theorem grantedSockets_sameQueues :
    SameQueues (s.setSocket n { s.socket n with state := .granted }) (grantedSockets f n skipped s) := by
  have stamped := takeStamp_sameQueues s
  have granted : SameQueues (s.setSocket n { s.socket n with state := .granted })
      ((takeStamp s).1.setSocket n
        { (takeStamp s).1.socket n with
          state := .granted, reservation := some (s.reservation n), stamp := some (takeStamp s).2, confirm := some 0,
          bypass := 0 }) := by
    refine ⟨fun m => ?_, stamped.pending, stamped.blocking, stamped.pedestals⟩
    simp only [State.socket_setSocket]
    split
    · rfl
    · exact stamped.state m
  unfold grantedSockets
  dsimp only
  split
  · exact granted
  · exact granted.trans (.foldl countBypass (fun t m => .setSocket t rfl) skipped _)

/-- What a grant writes of its feeder: the socket leaves the pending set, and a blocking request is one that stays so or one
passed over. -/
theorem grant_eq :
    ∃ fd body, grant f n skipped s = ((grantedSockets f n skipped s).setFeeder f fd).raise body ∧
      fd.pending = (s.feeder f).pending.filter (fun m => decide (m ≠ n)) ∧
      ∀ m, fd.blocking = some m → ((s.feeder f).blocking = some m ∧ m ≠ n) ∨ m ∈ skipped := by
  have stamped := takeStamp_sameQueues s
  refine ⟨_, _, rfl, by rw [← stamped.pending f], fun m hm => ?_⟩
  dsimp only at hm
  split at hm
  · split at hm
    · cases hm
    · rename_i hne
      rw [stamped.blocking] at hm hne
      exact .inl ⟨hm, fun h => hne (h ▸ hm)⟩
  · exact .inr (List.mem_of_find?_eq_some hm)

theorem grant_socket_state (m : Nat) :
    ((grant f n skipped s).socket m).state = if m = n then .granted else (s.socket m).state := by
  obtain ⟨fd, body, h, -⟩ := grant_eq f n skipped s
  have written := (grantedSockets_sameQueues f n skipped s).state m
  rw [State.socket_setSocket] at written
  rw [h]
  refine written.trans ?_
  split <;> rfl

end

/-- A grant of a pass keeps the pending sets. -/
theorem grant_pendingSound {f n : Nat} {skipped : List Nat} {s : State} (h : PendingSound s)
    (hn : n ∈ (s.feeder f).pending) (hs : ∀ m ∈ skipped, m ∈ (s.feeder f).pending ∧ m ≠ n) :
    PendingSound (grant f n skipped s) := by
  obtain ⟨fd, body, he, hp, hb⟩ := grant_eq f n skipped s
  have written := grantedSockets_sameQueues f n skipped s
  have feeder (g : Nat) :
      (grant f n skipped s).feeder g = if g = f then fd else (grantedSockets f n skipped s).feeder g := by
    rw [he]
    exact State.feeder_setFeeder ..
  have pending (g : Nat) : ((grant f n skipped s).feeder g).pending =
      if g = f then (s.feeder f).pending.filter (fun m => decide (m ≠ n)) else (s.feeder g).pending := by
    rw [feeder]
    split
    · exact hp
    · exact written.pending g
  have stays {g m : Nat} (hm : m ∈ (s.feeder g).pending) (hne : m ≠ n) :
      m ∈ ((grant f n skipped s).feeder g).pending := by
    rw [pending]
    split
    · rename_i hg
      subst hg
      simpa [hne] using hm
    · exact hm
  refine ⟨fun g m hm => ?_, fun g m hm => ?_⟩
  · have hmem : m ∈ (s.feeder g).pending ∧ m ≠ n := by
      rw [pending] at hm
      split at hm
      · rename_i hg
        subst hg
        simpa using hm
      · rename_i hg
        refine ⟨hm, ?_⟩
        rintro rfl
        exact hg ((h.pending g m hm).2.symm.trans (h.pending f m hn).2)
    have pedestals : (grant f n skipped s).pdl.pedestals = s.pdl.pedestals := by
      rw [he]
      exact written.pedestals
    rw [grant_socket_state, if_neg hmem.2, feederOf_of_pedestals_eq pedestals]
    exact h.pending g m hmem.1
  · rw [feeder] at hm
    split at hm
    · rename_i hg
      subst hg
      rcases hb m hm with ⟨hm, hne⟩ | hm
      · exact stays (h.blocking g m hm) hne
      · obtain ⟨hm, hne⟩ := hs m hm
        exact stays hm hne
    · rename_i hg
      have hm : (s.feeder g).blocking = some m := (written.blocking g).symm.trans hm
      have hmem := h.blocking g m hm
      refine stays hmem ?_
      rintro rfl
      exact hg ((h.pending g m hmem).2.symm.trans (h.pending f m hn).2)

/-! ## What an operation of the FAR keeps -/

/-- The pending sets stay sound, and no socket that is not PENDING changes its state. -/
structure OnlyGrants (s t : State) : Prop where
  sound : PendingSound s → PendingSound t
  others : PendingSound s → ∀ n, (s.socket n).state ≠ .pending → (t.socket n).state = (s.socket n).state

namespace OnlyGrants

variable {s t u : State}

theorem refl (s : State) : OnlyGrants s s := ⟨id, fun _ _ _ => rfl⟩

theorem trans (h : OnlyGrants s t) (k : OnlyGrants t u) : OnlyGrants s u where
  sound := k.sound ∘ h.sound
  others hs n hn := by
    have same := h.others hs n hn
    exact (k.others (h.sound hs) n (same ▸ hn)).trans same

theorem foldl {α : Type} (f : State → α → State) (h : ∀ s a, OnlyGrants s (f s a)) (l : List α) (s : State) :
    OnlyGrants s (l.foldl f s) := foldl_keeps refl trans f h l s

end OnlyGrants

theorem grantSearch_onlyGrants (f : Nat) (s : State) : OnlyGrants s (grantSearch f s) := by
  unfold grantSearch
  generalize (s.feeder f).pending.length + 1 = fuel
  induction fuel generalizing s with
  | zero => exact .refl s
  | succ fuel ih =>
    rw [searchPasses]
    split
    · exact .refl s
    · rename_i n skipped hp
      refine .trans ⟨fun h => ?_, fun h m hm => ?_⟩ (ih _)
      · obtain ⟨hn, hs⟩ := pass_mem h hp
        exact grant_pendingSound h hn hs
      · rw [grant_socket_state, if_neg]
        rintro rfl
        exact hm (h.pending f m (pass_mem h hp).1).1

/-- A socket leaves its pending set (R105, R113). -/
theorem dropPending_socket (n m : Nat) (dest : SocketState) (s : State) :
    (dropPending n dest s).socket m = if m = n then { s.socket n with state := dest, bypass := 0 } else s.socket m :=
  State.socket_setSocket ..

theorem dropPending_pendingSound {n : Nat} {dest : SocketState} {s : State} (h : PendingSound s) :
    PendingSound (dropPending n dest s) := by
  have feeder (g : Nat) : (dropPending n dest s).feeder g = if g = s.feederOf n then
      { s.feeder (s.feederOf n) with
        pending := (s.feeder (s.feederOf n)).pending.filter fun m => decide (m ≠ n)
        blocking := if (s.feeder (s.feederOf n)).blocking = some n then none else (s.feeder (s.feederOf n)).blocking }
      else s.feeder g := State.feeder_setFeeder ..
  refine ⟨fun g m hm => ?_, fun g m hm => ?_⟩
  · have hmem : m ∈ (s.feeder g).pending ∧ m ≠ n := by
      rw [feeder] at hm
      split at hm
      · rename_i hg
        rw [hg]
        simpa using hm
      · rename_i hg
        refine ⟨hm, ?_⟩
        rintro rfl
        exact hg (h.pending g m hm).2.symm
    rw [dropPending_socket, if_neg hmem.2]
    exact h.pending g m hmem.1
  · rw [feeder] at hm ⊢
    split at hm
    · rename_i hg
      rw [if_pos hg]
      dsimp only at hm ⊢
      split at hm
      · cases hm
      · rename_i hne
        refine List.mem_filter.2 ⟨h.blocking _ m hm, ?_⟩
        rw [decide_eq_true_eq]
        rintro rfl
        exact hne hm
    · rename_i hg
      rw [if_neg hg]
      exact h.blocking g m hm

theorem withdraw_sameQueues (n : Nat) (dest : SocketState) (s : State) :
    SameQueues (dropPending n dest s) (withdraw n dest s) := by
  unfold withdraw
  dsimp only
  split
  · exact .of_blocks rfl rfl
  · exact .refl _

theorem withdraw_pendingSound {n : Nat} {dest : SocketState} {s : State} (h : PendingSound s) :
    PendingSound (withdraw n dest s) :=
  (withdraw_sameQueues n dest s).sound (dropPending_pendingSound h)

theorem withdraw_socket_state (n m : Nat) (dest : SocketState) (s : State) :
    ((withdraw n dest s).socket m).state = if m = n then dest else (s.socket m).state := by
  rw [(withdraw_sameQueues n dest s).state, dropPending_socket]
  split <;> rfl

/-! ## Leaving in one step (R105, R113) -/

section
variable (dest : Nat → SocketState) (l : List Nat) (s : State)

theorem withdrawAll_socket_state (m : Nat) :
    ((l.foldl (fun t n => withdraw n (dest n) t) s).socket m).state =
      if m ∈ l then dest m else (s.socket m).state := by
  induction l generalizing s with
  | nil => rfl
  | cons n rest ih =>
    rw [List.foldl_cons, ih, withdraw_socket_state]
    by_cases hm : m = n
    · simp [hm]
    · simp [hm]

theorem withdrawAll_pendingSound {s : State} (h : PendingSound s) :
    PendingSound (l.foldl (fun t n => withdraw n (dest n) t) s) := by
  induction l generalizing s with
  | nil => exact h
  | cons n rest ih => exact ih (withdraw_pendingSound h)

/-- The sockets of a list that leave the pending set. -/
def leaving : List Nat := l.filter fun n => decide ((s.socket n).state = .pending) && decide (dest n ≠ .pending)

theorem mem_leaving (n : Nat) :
    n ∈ leaving dest l s ↔ n ∈ l ∧ (s.socket n).state = .pending ∧ dest n ≠ .pending := by
  simp [leaving]

/-- The searches that follow a leaving. -/
theorem leaveAllPending_searches :
    OnlyGrants ((leaving dest l s).foldl (fun t n => withdraw n (dest n) t) s) (leaveAllPending dest l s) :=
  .foldl _ (fun t _ => grantSearch_onlyGrants _ t) _ _

theorem leaveAllPending_onlyGrants : OnlyGrants s (leaveAllPending dest l s) where
  sound h := (leaveAllPending_searches dest l s).sound (withdrawAll_pendingSound dest _ h)
  others h n hn := by
    have stayed := withdrawAll_socket_state dest (leaving dest l s) s n
    rw [if_neg fun hm => hn ((mem_leaving ..).1 hm).2.1] at stayed
    have searched := (leaveAllPending_searches dest l s).others (withdrawAll_pendingSound dest _ h) n
    rw [stayed] at searched
    exact searched hn

end

/-- None of the sockets that leave is granted by a search that follows. -/
theorem leaveAllPending_none_left {dest : Nat → SocketState} {l : List Nat} {s : State} (h : PendingSound s) {n : Nat}
    (hn : n ∈ l) (hd : dest n ≠ .pending) : ((leaveAllPending dest l s).socket n).state ≠ .pending := by
  have left : (((leaving dest l s).foldl (fun t n => withdraw n (dest n) t) s).socket n).state ≠ .pending := by
    rw [withdrawAll_socket_state]
    split
    · exact hd
    · rename_i hm
      exact fun hp => hm ((mem_leaving ..).2 ⟨hn, hp, hd⟩)
  rwa [(leaveAllPending_searches dest l s).others (withdrawAll_pendingSound dest _ h) n left]

/-! ## Re-evaluation (R105) and the hold message (R51) -/

section
variable {n : Nat} {s : State}

theorem mem_insertAsc (l : List Nat) (m : Nat) : m ∈ insertAsc l n ↔ m = n ∨ m ∈ l := by
  induction l with
  | nil => simp [insertAsc]
  | cons a rest ih =>
    rw [insertAsc]
    split
    · simp
    · split
      · rename_i h
        simp [h]
      · simp only [List.mem_cons, ih]
        tauto

theorem placePending_socket (n m : Nat) (s : State) :
    (placePending n s).socket m = if m = n then { s.socket n with state := .pending, bypass := 0 } else s.socket m :=
  State.socket_setSocket s n m { s.socket n with state := .pending, bypass := 0 }

theorem placePending_pendingSound (h : PendingSound s) : PendingSound (placePending n s) := by
  have feeder (g : Nat) : (placePending n s).feeder g = if g = s.feederOf n then
      { s.feeder (s.feederOf n) with pending := insertAsc (s.feeder (s.feederOf n)).pending n } else s.feeder g :=
    State.feeder_setFeeder ..
  refine ⟨fun g m hm => ?_, fun g m hm => ?_⟩
  · have hmem : m ∈ (s.feeder g).pending ∨ m = n ∧ g = s.feederOf n := by
      rw [feeder] at hm
      split at hm
      · rename_i hg
        subst hg
        exact ((mem_insertAsc ..).1 hm).symm.imp id fun hm => ⟨hm, rfl⟩
      · exact .inl hm
    rw [placePending_socket]
    rcases hmem with hm | ⟨rfl, rfl⟩
    · refine ⟨?_, (h.pending g m hm).2⟩
      split
      · rfl
      · exact (h.pending g m hm).1
    · exact ⟨by rw [if_pos rfl], rfl⟩
  · rw [feeder] at hm ⊢
    split at hm
    · rename_i hg
      rw [if_pos hg]
      exact (mem_insertAsc ..).2 (.inr (h.blocking _ m hm))
    · rename_i hg
      rw [if_neg hg]
      exact h.blocking g m hm

/-- A socket that is not PENDING takes another state. -/
theorem setSocket_pendingSound {x : Socket} (h : PendingSound s) (hn : (s.socket n).state ≠ .pending) :
    PendingSound (s.setSocket n x) where
  pending f m hm := by
    have hmem := h.pending f m hm
    rw [State.socket_setSocket, if_neg]
    · exact hmem
    · rintro rfl
      exact hn hmem.1
  blocking := h.blocking

theorem reevaluate_pendingSound (h : PendingSound s) : PendingSound (reevaluate n s) := by
  unfold reevaluate
  dsimp only
  split
  · exact h
  split
  · split
    · exact h
    · exact (grantSearch_onlyGrants ..).sound (placePending_pendingSound h)
  · split
    · exact (leaveAllPending_onlyGrants ..).sound h
    · rename_i hn
      exact setSocket_pendingSound h hn

theorem farHold_pendingSound {a : Nat} (h : PendingSound s) : PendingSound (farHold a s) :=
  foldl_keeps (kept := fun t u => PendingSound t → PendingSound u) (fun _ => id) (fun h k => k ∘ h) _
    (fun _ _ => reevaluate_pendingSound) _ _ ((leaveAllPending_onlyGrants ..).sound h)

end

end Sys2Proof.Machine
end

section
/-! SUPPORT. What a charge keeps, with the messages of the change of hold state it may cause (R51, R63 to R65, R98): the
static records, the meters that are settled, the taps that are CLOSED, and the pending sets. -/

namespace Sys2Proof.Machine

/-- A socket meter is settled: nothing is unsettled, and the residue is less than one unit of charge (R62, R63). -/
def SocketSettled (n : Nat) (s : State) : Prop := (s.socketMeter n).unsettled = 0 ∧ (s.socketAcct n).residue < 1000

/-- A tap meter is settled. -/
def TapSettled (n : Nat) (s : State) : Prop := (s.tapMeter n).unsettled = 0 ∧ s.tapResidue n < 1000

/-- Of the line and the accounts' meters and of the pending sets, what no charge undoes. -/
structure ChargeKept (s t : State) : Prop where
  pedestals : t.pdl.pedestals = s.pdl.pedestals
  sockets : t.pdl.sockets = s.pdl.sockets
  taps : t.pdl.taps = s.pdl.taps
  socketSettled : ∀ n, SocketSettled n s → SocketSettled n t
  tapSettled : ∀ n, TapSettled n s → TapSettled n t
  closed : ∀ n, s.run n = none → t.run n = none
  pending : PendingSound s → PendingSound t

namespace ChargeKept

variable {s t u : State}

theorem of_blocks (hp : t.pdl = s.pdl) (hs : t.acu.sockets = s.acu.sockets)
    (ht : t.acu.taps = s.acu.taps) (sound : PendingSound s → PendingSound t) : ChargeKept s t where
  pedestals := by rw [hp]
  sockets := by rw [hp]
  taps := by rw [hp]
  socketSettled n h := by
    rw [SocketSettled, State.socketMeter, State.socketAcct, hp, hs]
    exact h
  tapSettled n h := by
    rw [TapSettled, State.tapMeter, State.tapResidue, hp, ht]
    exact h
  closed n h := by
    rw [State.run, hp]
    exact h
  pending := sound

/-- An operation of the FAR. -/
theorem of_feeders (h : SameBut [.feeders] s t) (sound : PendingSound s → PendingSound t) : ChargeKept s t :=
  have acu : t.acu = s.acu := h.accounts.resolve_left (by decide)
  of_blocks (h.line.resolve_left (by decide)) (by rw [acu]) (by rw [acu]) sound

/-- An operation that works neither on the FAR nor on what a charge keeps. -/
theorem of_same (hp : t.pdl = s.pdl) (hf : t.far = s.far) (hs : t.acu.sockets = s.acu.sockets)
    (ht : t.acu.taps = s.acu.taps) : ChargeKept s t :=
  of_blocks hp hs ht (SameQueues.of_blocks hf (by rw [hp])).sound

theorem refl (s : State) : ChargeKept s s := of_same rfl rfl rfl rfl

theorem trans (h : ChargeKept s t) (k : ChargeKept t u) : ChargeKept s u where
  pedestals := k.pedestals.trans h.pedestals
  sockets := k.sockets.trans h.sockets
  taps := k.taps.trans h.taps
  socketSettled n := k.socketSettled n ∘ h.socketSettled n
  tapSettled n := k.tapSettled n ∘ h.tapSettled n
  closed n := k.closed n ∘ h.closed n
  pending := k.pending ∘ h.pending

theorem foldl {α : Type} (f : State → α → State) (h : ∀ s a, ChargeKept s (f s a)) (l : List α) (s : State) :
    ChargeKept s (l.foldl f s) := foldl_keeps refl trans f h l s

theorem raise (h : ChargeKept s t) (b : NoticeBody) : ChargeKept s (t.raise b) :=
  h.trans (of_same (t := t.raise b) rfl rfl rfl rfl)

theorem berthSockets (h : ChargeKept s t) (berth : Nat) : t.berthSockets berth = s.berthSockets berth := by
  rw [State.berthSockets, h.sockets]
  rfl

theorem berthTaps (h : ChargeKept s t) (berth : Nat) : t.berthTaps berth = s.berthTaps berth := by
  rw [State.berthTaps, h.taps]
  rfl

end ChargeKept

/-! ## A meter is emptied (R63) -/

theorem price_residue_lt (q r e : Nat) : (price q r e).2 < 1000 := by
  unfold price
  generalize q / 65535 = pieces
  induction pieces generalizing q e with
  | zero => exact Nat.mod_lt _ (by decide)
  | succ more ih =>
    rw [pricePieces]
    split
    · exact Nat.mod_lt _ (by decide)
    · exact ih ..

/-- A settled meter has nothing to charge. -/
theorem price_settled {q e : Nat} (r : Nat) (hq : q = 0) (he : e < 1000) : (price q r e).1 = 0 := by
  subst hq
  simp [price, pricePieces, Nat.div_eq_of_lt he]

section
variable (n : Nat) (s : State)

/-- The charge of a socket meter's settlement and the residue it leaves. -/
def socketPrice : Nat × Nat :=
  price (s.socketMeter n).unsettled
    (match (s.socketAcct n).band with
      | .day => (s.tariff (s.socketCfg n).tariff).dayRate
      | .night => (s.tariff (s.socketCfg n).tariff).nightRate)
    (s.socketAcct n).residue

/-- A socket meter has been emptied, its charge not yet posted. -/
def emptiedSocket : State :=
  (s.setSocketMeter n { s.socketMeter n with unsettled := 0 }).setSocketAcct n ⟨(socketPrice n s).2, s.band⟩

theorem settleSocketBy_eq (post : Nat → Int → State → State) :
    settleSocketBy post n s =
      post (s.receiver (s.socketCfg n).berth) (-((socketPrice n s).1 : Int)) (emptiedSocket n s) := rfl

theorem emptiedSocket_settled : SocketSettled n (emptiedSocket n s) := by
  refine ⟨?_, ?_⟩
  · refine (congrArg Meter.unsettled (State.socketMeter_setSocketMeter s n n _)).trans ?_
    rw [if_pos rfl]
  · refine lt_of_eq_of_lt (congrArg SocketAcct.residue (State.socketAcct_setSocketAcct ..)) ?_
    rw [if_pos rfl]
    exact price_residue_lt ..

theorem emptiedSocket_kept : ChargeKept s (emptiedSocket n s) where
  pedestals := rfl
  sockets := rfl
  taps := rfl
  socketSettled m h := by
    by_cases hm : m = n
    · rw [hm]
      exact emptiedSocket_settled n s
    · refine ⟨(congrArg Meter.unsettled ((State.socketMeter_setSocketMeter s n m _).trans (if_neg hm))).trans h.1, ?_⟩
      exact lt_of_eq_of_lt (congrArg SocketAcct.residue ((State.socketAcct_setSocketAcct ..).trans (if_neg hm))) h.2
  tapSettled _ h := h
  closed _ h := h
  pending := (SameQueues.of_blocks (s := s) (t := emptiedSocket n s) rfl rfl).sound

/-- The charge of a tap meter's settlement and the residue it leaves. -/
def tapPrice : Nat × Nat :=
  price (s.tapMeter n).unsettled (s.tariff (s.tapCfg n).tariff).waterRate (s.tapResidue n)

/-- A tap meter has been emptied, its charge not yet posted. -/
def emptiedTap : State := (s.setTapMeter n { s.tapMeter n with unsettled := 0 }).setTapResidue n (tapPrice n s).2

theorem settleTapBy_eq (post : Nat → Int → State → State) :
    settleTapBy post n s = post (s.receiver (s.tapCfg n).berth) (-((tapPrice n s).1 : Int)) (emptiedTap n s) := rfl

theorem emptiedTap_settled : TapSettled n (emptiedTap n s) := by
  refine ⟨?_, ?_⟩
  · refine (congrArg Meter.unsettled (State.tapMeter_setTapMeter s n n _)).trans ?_
    rw [if_pos rfl]
  · refine lt_of_eq_of_lt (State.tapResidue_setTapResidue ..) ?_
    rw [if_pos rfl]
    exact price_residue_lt ..

theorem emptiedTap_kept : ChargeKept s (emptiedTap n s) where
  pedestals := rfl
  sockets := rfl
  taps := rfl
  socketSettled _ h := h
  tapSettled m h := by
    by_cases hm : m = n
    · rw [hm]
      exact emptiedTap_settled n s
    · refine ⟨(congrArg Meter.unsettled ((State.tapMeter_setTapMeter s n m _).trans (if_neg hm))).trans h.1, ?_⟩
      exact lt_of_eq_of_lt ((State.tapResidue_setTapResidue ..).trans (if_neg hm)) h.2
  closed _ h := h
  pending := (SameQueues.of_blocks (s := s) (t := emptiedTap n s) rfl rfl).sound

/-- A tap's run ends. -/
theorem setRun_none_kept : ChargeKept s (s.setRun n none) where
  pedestals := rfl
  sockets := rfl
  taps := rfl
  socketSettled _ h := h
  tapSettled _ h := h
  closed m h := by
    rw [State.run_setRun]
    split
    · rfl
    · exact h
  pending := (SameQueues.of_blocks (s := s) (t := s.setRun n none) rfl rfl).sound

end

/-! ## Postings and settlements -/

section
variable {charge : Nat → Int → State → State} (h : ∀ a x s, ChargeKept s (charge a x s)) (n : Nat) (s : State)
include h

theorem settleSocketBy_kept : ChargeKept s (settleSocketBy charge n s) :=
  settleSocketBy_eq n s charge ▸ (emptiedSocket_kept n s).trans (h ..)

theorem settleTapBy_kept : ChargeKept s (settleTapBy charge n s) :=
  settleTapBy_eq n s charge ▸ (emptiedTap_kept n s).trans (h ..)

theorem settleSocketBy_settles : SocketSettled n (settleSocketBy charge n s) :=
  settleSocketBy_eq n s charge ▸ (h ..).socketSettled n (emptiedSocket_settled n s)

theorem settleTapBy_settles : TapSettled n (settleTapBy charge n s) :=
  settleTapBy_eq n s charge ▸ (h ..).tapSettled n (emptiedTap_settled n s)

end

theorem closeTapBy_kept {settle : Nat → State → State} (h : ∀ n s, ChargeKept s (settle n s)) (n : Nat) (c : TapCause)
    (s : State) : ChargeKept s (closeTapBy settle n c s) := by
  unfold closeTapBy
  split
  · exact .refl s
  · exact ((setRun_none_kept n s).trans (h ..)).raise _

theorem closeTapBy_closes {settle : Nat → State → State} (h : ∀ n s, ChargeKept s (settle n s)) (n : Nat) (c : TapCause)
    (s : State) : (closeTapBy settle n c s).run n = none := by
  unfold closeTapBy
  split
  · assumption
  · refine (h n (s.setRun n none)).closed n ?_
    rw [State.run_setRun, if_pos rfl]

section
variable (a : Nat) (x : Int) (s : State)

theorem evaluateHold_kept : ChargeKept s (evaluateHold a s).1 := by
  have written (k : Account) (b : NoticeBody) : ChargeKept s ((s.setAccount a k).raise b) :=
    .of_same rfl rfl rfl rfl
  simp only [evaluateHold]
  repeat' split
  · exact .refl s
  · exact written ..
  · exact written ..
  · exact .refl s

theorem postOnly_kept : ChargeKept s (postOnly a x s).1 := by
  have added : ChargeKept s (addBalance a x s) := .of_same rfl rfl rfl rfl
  unfold postOnly
  split
  · exact .refl s
  · exact added.trans (evaluateHold_kept ..)

theorem farHold_kept : ChargeKept s (farHold a s) :=
  .of_feeders (farHold_sameBut (by decide) a s) farHold_pendingSound

theorem pdlHold_kept : ChargeKept s (pdlHold a s) :=
  .foldl _ (fun s n => closeTapBy_kept (settleTapBy_kept postOnly_kept) n _ s) _ _

theorem gtcHold_kept : ChargeKept s (gtcHold a s) := by
  have dropped : ChargeKept s (lampRed (dropCard 7 s)) := by
    rw [(dropCard_credUsesOnly 7 s).gatesOnly.blocks]
    exact .of_same rfl rfl rfl rfl
  unfold gtcHold
  split
  · exact .refl s
  · split
    · exact dropped.raise _
    · exact .refl s

theorem tellHold_kept : ChargeKept s (tellHold a s) := by
  unfold tellHold
  dsimp only
  split
  · exact ((farHold_kept a s).trans (pdlHold_kept ..)).trans (gtcHold_kept ..)
  · exact farHold_kept a s

theorem post_kept : ChargeKept s (post a x s) := by
  unfold post
  dsimp only
  split
  · exact (postOnly_kept a x s).trans (tellHold_kept ..)
  · exact postOnly_kept a x s

end

theorem post_zero (a : Nat) (s : State) : post a 0 s = s := rfl

theorem settleSocket_kept (n : Nat) (s : State) : ChargeKept s (settleSocket n s) := settleSocketBy_kept post_kept n s

theorem settleTap_kept (n : Nat) (s : State) : ChargeKept s (settleTap n s) := settleTapBy_kept post_kept n s

theorem closeTap_kept (n : Nat) (c : TapCause) (s : State) : ChargeKept s (closeTap n c s) :=
  closeTapBy_kept settleTap_kept n c s

/-- The settlement of a settled meter posts nothing. -/
theorem settleSocket_of_settled {n : Nat} {s : State} (h : SocketSettled n s) : settleSocket n s = emptiedSocket n s := by
  rw [settleSocket, settleSocketBy_eq, show (socketPrice n s).1 = 0 from price_settled _ h.1 h.2]
  exact post_zero ..

theorem settleTap_of_settled {n : Nat} {s : State} (h : TapSettled n s) : settleTap n s = emptiedTap n s := by
  rw [settleTap, settleTapBy_eq, show (tapPrice n s).1 = 0 from price_settled _ h.1 h.2]
  exact post_zero ..

end Sys2Proof.Machine
end

section
/-! SUPPORT. A departure (R34, R35): its steps, and that it leaves the berth without supply (R98, R120, O25). -/

namespace Sys2Proof.Machine

/-- A run of operations each of which establishes something of its own subject and keeps it of every other, while an
invariant holds, establishes it of all its subjects. -/
theorem foldl_establishes {σ α : Type} {inv : σ → Prop} {P : α → σ → Prop} {f : σ → α → σ} {l : List α}
    (keepsInv : ∀ s, ∀ a ∈ l, inv s → inv (f s a)) (own : ∀ s, ∀ a ∈ l, inv s → P a (f s a))
    (keeps : ∀ s, ∀ a ∈ l, ∀ b ∈ l, inv s → P b s → P b (f s a)) {s : σ} (h : inv s) :
    inv (l.foldl f s) ∧ ∀ a ∈ l, P a (l.foldl f s) := by
  suffices all : ∀ done ⊆ l, ∀ s, inv s →
      inv (done.foldl f s) ∧ ∀ b ∈ l, P b s ∨ b ∈ done → P b (done.foldl f s) by
    obtain ⟨hi, hp⟩ := all l (List.Subset.refl l) s h
    exact ⟨hi, fun a ha => hp a ha (.inr ha)⟩
  intro done
  induction done with
  | nil => exact fun _ s hs => ⟨hs, fun b _ hb => hb.resolve_right List.not_mem_nil⟩
  | cons a rest ih =>
    intro sub s hs
    have ha := sub List.mem_cons_self
    obtain ⟨hi, hp⟩ := ih (fun _ hb => sub (List.mem_cons_of_mem _ hb)) (f s a) (keepsInv s a ha hs)
    refine ⟨hi, fun b hb hb' => hp b hb ?_⟩
    rcases hb' with hb' | hb'
    · exact .inl (keeps s a ha b hb hs hb')
    · exact (List.mem_cons.1 hb').imp (fun e => by rw [e]; exact own s a ha hs) id

/-! ## The settlement (R35 step 2) -/

section
variable (berth : Nat) (s : State)

theorem settleBerth_kept : ChargeKept s (settleBerth berth s) :=
  .trans (.foldl _ (fun s n => settleSocket_kept n s) _ _) (.foldl _ (fun s n => settleTap_kept n s) _ _)

theorem settleBerth_settles :
    (∀ n ∈ s.berthSockets berth, SocketSettled n (settleBerth berth s)) ∧
      ∀ n ∈ s.berthTaps berth, TapSettled n (settleBerth berth s) := by
  have sockets := (foldl_establishes (inv := fun _ => True) (P := SocketSettled) (f := fun t n => settleSocket n t)
    (l := s.berthSockets berth) (fun _ _ _ h => h) (fun t n _ _ => settleSocketBy_settles post_kept n t)
    (fun t n _ m _ _ => (settleSocket_kept n t).socketSettled m) (s := s) trivial).2
  have taps := (foldl_establishes (inv := fun _ => True) (P := TapSettled) (f := fun t n => settleTap n t)
    (l := s.berthTaps berth) (fun _ _ _ h => h) (fun t n _ _ => settleTapBy_settles post_kept n t)
    (fun t n _ m _ _ => (settleTap_kept n t).tapSettled m)
    (s := (s.berthSockets berth).foldl (fun t n => settleSocket n t) s) trivial).2
  have tapsKept : ChargeKept ((s.berthSockets berth).foldl (fun t n => settleSocket n t) s) (settleBerth berth s) :=
    .foldl _ (fun s n => settleTap_kept n s) _ _
  exact ⟨fun n hn => tapsKept.socketSettled n (sockets n hn), taps⟩

end

/-! ## The release of the sockets (R118, R120) -/

/-- The sockets of a berth as its departure releases them: settled, and none of them PENDING. -/
structure Departing (l : List Nat) (s : State) : Prop where
  sound : PendingSound s
  not_pending : ∀ n ∈ l, (s.socket n).state ≠ .pending
  settled : ∀ n ∈ l, SocketSettled n s

/-- A settled socket has been released, the search not yet run. -/
def released (n : Nat) (land : Landing) (s : State) : State :=
  ((emptiedSocket n s).setFeeder (s.feederOf n)
      { s.feeder (s.feederOf n) with
        reserved := (s.feeder (s.feederOf n)).reserved - (s.socket n).reservation.getD 0 }).setSocket n
    { s.socket n with
      state := land.state, reservation := none, stamp := none, confirm := none, shedSource := land.shedSource,
      holdOffEnd := land.holdOffEnd, fault := land.fault }

section
variable {l : List Nat} {n : Nat} {land : Landing} {s : State}

theorem release_of_settled (h : SocketSettled n s) :
    release n land none s = grantSearch (s.feederOf n) (released n land s) := by
  rw [release, settleSocket_of_settled h]
  rfl

theorem released_sameQueues :
    SameQueues (s.setSocket n { s.socket n with state := land.state }) (released n land s) := by
  have feeder (g : Nat) : (released n land s).feeder g = if g = s.feederOf n then
      { s.feeder (s.feederOf n) with
        reserved := (s.feeder (s.feederOf n)).reserved - (s.socket n).reservation.getD 0 }
      else s.feeder g := State.feeder_setFeeder (emptiedSocket n s) _ _ _
  refine ⟨fun m => ?_, fun g => ?_, fun g => ?_, rfl⟩
  · rw [released]
    simp only [State.socket_setSocket]
    split <;> rfl
  · rw [feeder]
    split
    · rename_i hg
      rw [hg]
      rfl
    · rfl
  · rw [feeder]
    split
    · rename_i hg
      rw [hg]
      rfl
    · rfl

theorem released_pendingSound (sound : PendingSound s) (hn : (s.socket n).state ≠ .pending) :
    PendingSound (released n land s) :=
  released_sameQueues.sound (setSocket_pendingSound sound hn)

theorem release_kept (h : Departing l s) (hn : n ∈ l) : ChargeKept s (release n land none s) := by
  rw [release_of_settled (h.settled n hn)]
  have emptied := emptiedSocket_kept n s
  have written : ChargeKept s (released n land s) :=
    ⟨emptied.pedestals, emptied.sockets, emptied.taps, emptied.socketSettled, emptied.tapSettled,
      emptied.closed, fun sound => released_pendingSound sound (h.not_pending n hn)⟩
  exact written.trans (.of_feeders (grantSearch_sameBut (by decide) ..) (grantSearch_onlyGrants ..).sound)

/-- A release gives its own socket the state it names, and no other socket of the berth another one. -/
theorem release_socket_state (h : Departing l s) (hn : n ∈ l) (hl : land.state ≠ .pending) {m : Nat} (hm : m ∈ l) :
    ((release n land none s).socket m).state = if m = n then land.state else (s.socket m).state := by
  have written : ((released n land s).socket m).state = if m = n then land.state else (s.socket m).state := by
    rw [released_sameQueues.state, State.socket_setSocket]
    split <;> rfl
  have left : ((released n land s).socket m).state ≠ .pending := by
    rw [written]
    split
    · exact hl
    · exact h.not_pending m hm
  rw [release_of_settled (h.settled n hn), ← written]
  exact (grantSearch_onlyGrants ..).others (released_pendingSound h.sound (h.not_pending n hn)) m left

theorem release_departing (h : Departing l s) (hn : n ∈ l) (hl : land.state ≠ .pending) :
    Departing l (release n land none s) where
  sound := (release_kept h hn).pending h.sound
  not_pending m hm := by
    rw [release_socket_state h hn hl hm]
    split
    · exact hl
    · exact h.not_pending m hm
  settled m hm := (release_kept h hn).socketSettled m (h.settled m hm)

end

theorem supplied_iff (k : Socket) : k.supplied = true ↔ k.state = .granted ∨ k.state = .energised := by
  simp [Socket.supplied]

theorem unentitled_cases (s : State) (n : Nat) : s.unentitled n = .waiting ∨ s.unentitled n = .idle := by
  unfold State.unentitled
  split
  · exact .inl rfl
  · exact .inr rfl

/-- What R120 does with one socket of the berth. -/
def releaseSupplied (n : Nat) (s : State) : State :=
  if (s.socket n).supplied then release n (landIn (s.unentitled n)) none s else s

/-- R120: of the berth's settled sockets none is left supplied or PENDING. -/
theorem farDepart_takes {berth : Nat} {s : State} (sound : PendingSound s)
    (settled : ∀ n ∈ s.berthSockets berth, SocketSettled n s) :
    ChargeKept s (farDepart berth s) ∧
      ∀ n ∈ s.berthSockets berth,
        ((farDepart berth s).socket n).supplied = false ∧ ((farDepart berth s).socket n).state ≠ .pending := by
  have unpended : Departing (s.berthSockets berth) (leaveAllPending (fun _ => .waiting) (s.berthSockets berth) s) ∧
      ChargeKept s (leaveAllPending (fun _ => .waiting) (s.berthSockets berth) s) := by
    have sound' := (leaveAllPending_onlyGrants (fun _ => .waiting) (s.berthSockets berth) s).sound
    have kept : ChargeKept s (leaveAllPending (fun _ => .waiting) (s.berthSockets berth) s) :=
      .of_feeders (leaveAllPending_sameBut (by decide) ..) sound'
    exact ⟨⟨sound' sound, fun n hn => leaveAllPending_none_left sound hn (by decide),
      fun n hn => kept.socketSettled n (settled n hn)⟩, kept⟩
  have landing (t : State) (n : Nat) :
      (landIn (t.unentitled n)).state ≠ .pending ∧ (landIn (t.unentitled n)).state ≠ .granted ∧
        (landIn (t.unentitled n)).state ≠ .energised := by
    rcases unentitled_cases t n with h | h <;> rw [h] <;> decide
  obtain ⟨⟨departing, kept⟩, unsupplied⟩ := foldl_establishes
    (inv := fun t => Departing (s.berthSockets berth) t ∧ ChargeKept s t)
    (P := fun n t => (t.socket n).supplied = false) (f := fun t n => releaseSupplied n t)
    (l := s.berthSockets berth)
    (fun t n hn ⟨departing, kept⟩ => by
      unfold releaseSupplied
      split
      · exact ⟨release_departing departing hn (landing t n).1, kept.trans (release_kept departing hn)⟩
      · exact ⟨departing, kept⟩)
    (fun t n hn ⟨departing, _⟩ => by
      unfold releaseSupplied
      split
      · rw [Bool.eq_false_iff, Ne, supplied_iff, release_socket_state departing hn (landing t n).1 hn, if_pos rfl]
        exact not_or.2 (landing t n).2
      · rename_i h
        simpa using h)
    (fun t n hn m hm ⟨departing, _⟩ h => by
      unfold releaseSupplied
      split
      · rw [Bool.eq_false_iff, Ne, supplied_iff, release_socket_state departing hn (landing t n).1 hm]
        split
        · exact not_or.2 (landing t n).2
        · rwa [Bool.eq_false_iff, Ne, supplied_iff] at h
      · exact h)
    unpended
  exact ⟨kept, fun n hn => ⟨unsupplied n hn, departing.not_pending n hn⟩⟩

/-! ## The close of the taps (R98) -/

/-- The close of a settled tap posts nothing, so it tells no other block. -/
theorem closeTap_far_of_settled {n : Nat} (c : TapCause) {s : State} (h : TapSettled n s) :
    (closeTap n c s).far = s.far := by
  have settled : TapSettled n (s.setRun n none) := h
  unfold closeTap closeTapBy
  split
  · rfl
  · rw [settleTap_of_settled settled]
    rfl

theorem closeBerthTaps_closes {berth : Nat} {c : TapCause} {s : State}
    (settled : ∀ n ∈ s.berthTaps berth, TapSettled n s) :
    (closeBerthTaps berth c s).far = s.far ∧ ∀ n ∈ s.berthTaps berth, (closeBerthTaps berth c s).run n = none := by
  obtain ⟨⟨-, far⟩, closed⟩ := foldl_establishes
    (inv := fun t => (∀ n ∈ s.berthTaps berth, TapSettled n t) ∧ t.far = s.far)
    (P := fun n t => t.run n = none) (f := fun t n => closeTap n c t) (l := s.berthTaps berth)
    (fun t n hn ⟨settled, far⟩ => ⟨fun m hm => (closeTap_kept n c t).tapSettled m (settled m hm),
      (closeTap_far_of_settled c (settled n hn)).trans far⟩)
    (fun t n _ _ => closeTapBy_closes settleTap_kept n c t)
    (fun t n _ m _ _ h => (closeTap_kept n c t).closed m h)
    (s := s) ⟨settled, rfl⟩
  exact ⟨far, closed⟩

/-! ## The departure -/

/-- A booking's close works on the bookings and the credentials alone. -/
theorem closeBooking_rest (state : BookState) (moment : Stamp) (b : Nat) (s : State) :
    (closeBooking state moment b s).acu = s.acu ∧ (closeBooking state moment b s).far = s.far ∧
      (closeBooking state moment b s).pdl = s.pdl ∧ (closeBooking state moment b s).hlc = s.hlc := by
  have blocks := (closeBooking_gatesOnly state moment b s).blocks
  generalize closeBooking state moment b s = t at blocks ⊢
  rw [blocks]
  exact ⟨rfl, rfl, rfl, rfl⟩

section
variable (b : Nat) (s : State)

/-- R34: the closing fee, when the arrival night has come. -/
def closingFee : State := if decide ((s.booking b).arr ≤ s.night) then postFee b s else s

/-- The state in which the berth has been settled, released and its tap closed, the booking still ARRIVED (R35). -/
def berthLeft : State := leaveBerth ((s.booking b).berth.getD 0) (closingFee b s)

theorem depart_eq :
    depart b s =
      accept
        [resultItem [presence 1 [decide ((s.booking b).arr ≤ s.night)], .u 1 ((s.booking b).berth.getD 0),
          .u 2 ((berthLeft b s).booking b).nightsCharged, .u 2 ((berthLeft b s).booking b).overstay,
          .u 4 (if decide ((s.booking b).arr ≤ s.night) then (s.berth ((s.booking b).berth.getD 0)).fee else 0)]]
        (closeBooking .departed s.now b
          ((berthLeft b s).setBooking b { (berthLeft b s).booking b with departedTime := some s.now })) := rfl

/-- Once the berth is left, a departure works on the bookings and the credentials alone (R28, R161). -/
theorem depart_rest :
    (depart b s).1.acu = (berthLeft b s).acu ∧ (depart b s).1.far = (berthLeft b s).far ∧
      (depart b s).1.pdl = (berthLeft b s).pdl ∧ (depart b s).1.hlc = (berthLeft b s).hlc := by
  rw [depart_eq]
  generalize berthLeft b s = u
  exact closeBooking_rest .departed s.now b (u.setBooking b { u.booking b with departedTime := some s.now })

theorem closingFee_kept : ChargeKept s (closingFee b s) := by
  unfold closingFee
  split
  · exact .trans (.of_same (t := s.setBooking b _) rfl rfl rfl rfl) (post_kept ..)
  · exact .refl s

end

/-- Settles O25: the settlement leaves the berth's meters with nothing to charge, so neither the releases nor the taps'
closing tell the FAR of a hold; and a search grants PENDING sockets alone, of which the berth has none when it runs. -/
theorem departureTakesTheBerthsSupply : Obligations.DepartureTakesTheBerthsSupply := by
  unfold Obligations.DepartureTakesTheBerthsSupply
  intro b berth s _ feeders _ hb _ t
  have hberth : (s.booking b).berth.getD 0 = berth := by rw [hb]; rfl
  have toFee := closingFee_kept b s
  have toSettled := settleBerth_kept berth (closingFee b s)
  have kept := toFee.trans toSettled
  obtain ⟨sockets, taps⟩ := settleBerth_settles berth (closingFee b s)
  rw [← toSettled.berthSockets] at sockets
  rw [← toSettled.berthTaps] at taps
  obtain ⟨toReleased, taken⟩ := farDepart_takes (kept.pending feeders.pendingSound) sockets
  rw [kept.berthSockets] at taken
  rw [← toReleased.berthTaps] at taps
  obtain ⟨far, closed⟩ := closeBerthTaps_closes (c := .depart) fun n hn => toReleased.tapSettled n (taps n hn)
  rw [toReleased.berthTaps, kept.berthTaps] at closed
  have left : berthLeft b s =
      closeBerthTaps berth .depart (farDepart berth (settleBerth berth (closingFee b s))) := by
    rw [berthLeft, hberth, leaveBerth]
  obtain ⟨-, tfar, tpdl, -⟩ := depart_rest b s
  have socket (n : Nat) : t.socket n = (farDepart berth (settleBerth berth (closingFee b s))).socket n := by
    rw [State.socket, tfar, left, far]
    rfl
  have run (n : Nat) : t.run n = (berthLeft b s).run n := by
    rw [State.run, tpdl]
    rfl
  refine ⟨fun n hn => ?_, fun n hn => ?_⟩
  · rw [socket]
    exact taken n hn
  · rw [run, left]
    exact closed n hn

end Sys2Proof.Machine
end

section
/-! SUPPORT. Whom the charges of a berth are posted to (R51, R65, R98): the account of the booking ARRIVED on it, and account
0, while the tables of the static records are in their form (log entry 3). -/

namespace Sys2Proof.Machine

/-- Of all accounts but `payer` and account 0 none differs, and nothing that says whom a berth's meters charge. -/
structure PaidBy (payer : Nat) (s t : State) : Prop where
  bal : t.bal = s.bal
  sockets : t.pdl.sockets = s.pdl.sockets
  taps : t.pdl.taps = s.pdl.taps
  accounts : ∀ a, a ≠ payer → a ≠ 0 → t.account a = s.account a

namespace PaidBy

variable {payer : Nat} {s t u : State}

theorem of_blocks (hb : t.bal = s.bal) (hp : t.pdl = s.pdl) (ha : t.acu = s.acu) : PaidBy payer s t :=
  ⟨hb, by rw [hp], by rw [hp], fun a _ _ => by rw [State.account, ha]; rfl⟩

/-- An operation of the FAR. -/
theorem of_feeders (h : SameBut [.feeders] s t) : PaidBy payer s t :=
  of_blocks (h.bal_eq (by decide)) (h.line.resolve_left (by decide)) (h.accounts.resolve_left (by decide))

theorem refl (s : State) : PaidBy payer s s := of_blocks rfl rfl rfl

theorem trans (h : PaidBy payer s t) (k : PaidBy payer t u) : PaidBy payer s u :=
  ⟨k.bal.trans h.bal, k.sockets.trans h.sockets, k.taps.trans h.taps,
    fun a ha h0 => (k.accounts a ha h0).trans (h.accounts a ha h0)⟩

theorem raise (h : PaidBy payer s t) (b : NoticeBody) : PaidBy payer s (t.raise b) :=
  h.trans (of_blocks (t := t.raise b) rfl rfl rfl)

/-- A run of operations on a list, each of which charges no other account while none has been charged before. -/
theorem foldl {f : State → Nat → State} {l : List Nat}
    (h : ∀ t, ∀ n ∈ l, PaidBy payer s t → PaidBy payer t (f t n)) : PaidBy payer s (l.foldl f s) :=
  List.foldlRecOn l f (refl s) fun t ht n hn => ht.trans (h t n hn ht)

theorem receiver (h : PaidBy payer s t) (berth : Option Nat) : t.receiver berth = s.receiver berth := by
  cases berth with
  | none => rfl
  | some b =>
    unfold State.receiver State.berth State.arrivedOn State.booking
    rw [h.bal]

theorem socketCfg (h : PaidBy payer s t) (n : Nat) : t.socketCfg n = s.socketCfg n := by
  rw [State.socketCfg, h.sockets]
  rfl

theorem tapCfg (h : PaidBy payer s t) (n : Nat) : t.tapCfg n = s.tapCfg n := by
  rw [State.tapCfg, h.taps]
  rfl

end PaidBy

/-- What a berth's meters count is charged to an account, or to account 0. -/
def ChargedTo (payer : Nat) (berth : Option Nat) (s : State) : Prop := s.receiver berth = payer ∨ s.receiver berth = 0

theorem ChargedTo.of_paidBy {payer : Nat} {berth : Option Nat} {s t : State} (h : ChargedTo payer berth s)
    (k : PaidBy payer s t) : ChargedTo payer berth t := by
  rwa [ChargedTo, k.receiver]

/-- R65: a berth whose ARRIVED booking names an account charges it, unless it is SERVICE. -/
theorem chargedTo_of_berthNames {s : State} {berth : Option Nat} {a : Nat} (h : s.berthNames berth a = true) :
    ChargedTo a berth s := by
  cases berth with
  | none => cases h
  | some b =>
    unfold ChargedTo State.receiver
    unfold State.berthNames at h
    dsimp only at h ⊢
    split
    · exact .inr rfl
    · split at h
      · exact .inl (of_decide_eq_true h)
      · cases h

/-! ## Settlements, whatever posts the charge -/

section
variable {payer : Nat} {charge : Nat → Int → State → State}
  (h : ∀ a x s, a = payer ∨ a = 0 → PaidBy payer s (charge a x s)) {n : Nat} {s : State}
include h

theorem settleSocketBy_paidBy (hr : ChargedTo payer (s.socketCfg n).berth s) :
    PaidBy payer s (settleSocketBy charge n s) := by
  have emptied : PaidBy payer s (emptiedSocket n s) := ⟨rfl, rfl, rfl, fun _ _ _ => rfl⟩
  exact settleSocketBy_eq n s charge ▸ emptied.trans (h _ _ _ hr)

theorem settleTapBy_paidBy (hr : ChargedTo payer (s.tapCfg n).berth s) : PaidBy payer s (settleTapBy charge n s) := by
  have emptied : PaidBy payer s (emptiedTap n s) := ⟨rfl, rfl, rfl, fun _ _ _ => rfl⟩
  exact settleTapBy_eq n s charge ▸ emptied.trans (h _ _ _ hr)

theorem closeTapBy_paidBy (c : TapCause) (hr : ChargedTo payer (s.tapCfg n).berth s) :
    PaidBy payer s (closeTapBy (settleTapBy charge) n c s) := by
  unfold closeTapBy
  split
  · exact .refl s
  · have closed : PaidBy payer s (s.setRun n none) := ⟨rfl, rfl, rfl, fun _ _ _ => rfl⟩
    exact (closed.trans (settleTapBy_paidBy h (hr.of_paidBy closed))).raise _

end

/-! ## Postings -/

section
variable {payer a : Nat} (ha : a = payer ∨ a = 0) (x : Int) (s : State)
include ha

theorem setAccount_paidBy (k : Account) : PaidBy payer s (s.setAccount a k) := by
  refine ⟨rfl, rfl, rfl, fun j hj h0 => ?_⟩
  rw [State.account_setAccount, if_neg]
  rintro rfl
  exact ha.elim hj h0

theorem evaluateHold_paidBy : PaidBy payer s (evaluateHold a s).1 := by
  have written (k : Account) (b : NoticeBody) : PaidBy payer s ((s.setAccount a k).raise b) :=
    (setAccount_paidBy ha s k).raise b
  simp only [evaluateHold]
  repeat' split
  · exact .refl s
  · exact written ..
  · exact written ..
  · exact .refl s

theorem postOnly_paidBy : PaidBy payer s (postOnly a x s).1 := by
  unfold postOnly
  split
  · exact .refl s
  · exact (setAccount_paidBy ha s _).trans (evaluateHold_paidBy ha (addBalance a x s))

/-- R98: the taps a hold closes are of berths whose booking names the account on HOLD. -/
theorem pdlHold_paidBy : PaidBy payer s (pdlHold a s) := by
  refine .foldl fun t n hn kept => ?_
  have named := chargedTo_of_berthNames (List.mem_filter.1 hn).2
  have charged : ChargedTo payer (t.tapCfg n).berth t := by
    rw [ChargedTo, kept.receiver, kept.tapCfg]
    exact named.elim (fun h => by rw [h]; exact ha) .inr
  exact closeTapBy_paidBy (fun a x u ha => postOnly_paidBy ha x u) .hold charged

omit ha in
theorem gtcHold_paidBy : PaidBy payer s (gtcHold a s) := by
  have dropped : PaidBy payer s (lampRed (dropCard 7 s)) := by
    rw [(dropCard_credUsesOnly 7 s).gatesOnly.blocks]
    exact .of_blocks rfl rfl rfl
  unfold gtcHold
  split
  · exact .refl s
  · split
    · exact dropped.raise _
    · exact .refl s

theorem tellHold_paidBy : PaidBy payer s (tellHold a s) := by
  have far : PaidBy payer s (farHold a s) := .of_feeders (farHold_sameBut (by decide) a s)
  unfold tellHold
  dsimp only
  split
  · exact (far.trans (pdlHold_paidBy ha _)).trans (gtcHold_paidBy _)
  · exact far

theorem post_paidBy : PaidBy payer s (post a x s) := by
  unfold post
  dsimp only
  split
  · exact (postOnly_paidBy ha x s).trans (tellHold_paidBy ha _)
  · exact postOnly_paidBy ha x s

end

/-! ## A berth is left (R35) -/

/-- Every meter of a berth is charged to an account, or to account 0. -/
structure BerthChargedTo (payer berth : Nat) (s : State) : Prop where
  sockets : ∀ n ∈ s.berthSockets berth, ChargedTo payer (s.socketCfg n).berth s
  taps : ∀ n ∈ s.berthTaps berth, ChargedTo payer (s.tapCfg n).berth s

section
variable {payer berth : Nat} {s t : State}

theorem BerthChargedTo.of_paidBy (h : BerthChargedTo payer berth s) (k : PaidBy payer s t) :
    BerthChargedTo payer berth t := by
  refine ⟨fun n hn => ?_, fun n hn => ?_⟩
  · rw [State.berthSockets, k.sockets] at hn
    rw [k.socketCfg]
    exact (h.sockets n hn).of_paidBy k
  · rw [State.berthTaps, k.taps] at hn
    rw [k.tapCfg]
    exact (h.taps n hn).of_paidBy k

variable (h : BerthChargedTo payer berth s)
include h

theorem settleSocket_paidBy {n : Nat} (k : PaidBy payer s t) (hn : n ∈ s.berthSockets berth) :
    PaidBy payer t (settleSocket n t) := by
  have charged := (h.sockets n hn).of_paidBy k
  rw [← k.socketCfg] at charged
  exact settleSocketBy_paidBy (fun _ x u ha => post_paidBy ha x u) charged

theorem settleTap_paidBy {n : Nat} (k : PaidBy payer s t) (hn : n ∈ s.berthTaps berth) :
    PaidBy payer t (settleTap n t) := by
  have charged := (h.taps n hn).of_paidBy k
  rw [← k.tapCfg] at charged
  exact settleTapBy_paidBy (fun _ x u ha => post_paidBy ha x u) charged

theorem settleBerth_paidBy : PaidBy payer s (settleBerth berth s) := by
  have sockets : PaidBy payer s ((s.berthSockets berth).foldl (fun t n => settleSocket n t) s) :=
    .foldl fun t n hn k => settleSocket_paidBy h k hn
  exact sockets.trans (.foldl fun t n hn k => settleTap_paidBy h (sockets.trans k) hn)

theorem release_paidBy {n : Nat} (k : PaidBy payer s t) (hn : n ∈ s.berthSockets berth) (land : Landing) :
    PaidBy payer t (release n land none t) := by
  have written (f : Nat) (fd : Feeder) (x : Socket) :
      PaidBy payer t (((settleSocket n t).setFeeder f fd).setSocket n x) :=
    (settleSocket_paidBy h k hn).trans ⟨rfl, rfl, rfl, fun _ _ _ => rfl⟩
  exact (written ..).trans (.of_feeders (grantSearch_sameBut (by decide) ..))

theorem farDepart_paidBy : PaidBy payer s (farDepart berth s) := by
  have left : PaidBy payer s (leaveAllPending (fun _ => .waiting) (s.berthSockets berth) s) :=
    .of_feeders (leaveAllPending_sameBut (by decide) ..)
  refine left.trans (.foldl fun t n hn k => ?_)
  split
  · exact release_paidBy h (left.trans k) hn _
  · exact .refl t

theorem closeBerthTaps_paidBy (c : TapCause) : PaidBy payer s (closeBerthTaps berth c s) := by
  refine .foldl fun t n hn k => ?_
  have charged := (h.taps n hn).of_paidBy k
  rw [← k.tapCfg] at charged
  exact closeTapBy_paidBy (fun _ x u ha => post_paidBy ha x u) c charged

theorem leaveBerth_paidBy : PaidBy payer s (leaveBerth berth s) := by
  have settled := settleBerth_paidBy h
  have released := settled.trans (farDepart_paidBy (h.of_paidBy settled))
  exact released.trans (closeBerthTaps_paidBy (h.of_paidBy released) .depart)

end

end Sys2Proof.Machine
end

section
/-! SUPPORT. BOOK_CHANGE, BOOK_DEPART and BOOK_CANCEL (R28, R33 to R36, O24): what each answers and writes, in every state;
whom a departure charges, where the tables are in their form; and a state, with a table that is not, in which another account
is charged. -/

namespace Sys2Proof.Machine

namespace AsLeft

variable {u t : State}

theorem acu (h : AsLeft u t) : t.acu = u.acu := by rw [h.blocks]
theorem pdl (h : AsLeft u t) : t.pdl = u.pdl := by rw [h.blocks]
theorem far (h : AsLeft u t) : t.far = u.far := by rw [h.blocks]
theorem gtc (h : AsLeft u t) : t.gtc = u.gtc := by rw [h.blocks]
theorem account (h : AsLeft u t) (a : Nat) : t.account a = u.account a := by rw [State.account, h.acu]; rfl

end AsLeft

/-! ## The checks -/

section
variable {b : Nat} {s : State} (hset : s.clk.isSet = true) (hb : b ≤ 511)
include hset hb

/-- R33. -/
theorem bookChange_accepted {dep : Nat} (hs : (s.booking b).state = .confirmed ∨ (s.booking b).state = .arrived)
    (harr : (s.booking b).arr < dep) (hn : s.night < dep)
    (later : (s.booking b).dep < dep → dep ≤ (s.booking b).arr + 60 ∧ dep ≤ 65535 ∧
      s.nightsFree ((s.booking b).berth.getD 0) (some b) (s.booking b).dep dep = true) :
    bookChange b dep s = accept [⟨0x11, [.u 2 dep]⟩] (s.setBooking b { s.booking b with dep }) := by
  have shape : ∀ c ∈ changeChecks b dep s, c.1 = false := by
    have hrange := within_true (Nat.zero_le b) hb
    have hstay : ((s.booking b).state ≠ .confirmed → (s.booking b).state = .arrived) :=
      fun h => hs.resolve_left h
    have hfree : (s.booking b).state ≠ .free := by rcases hs with h | h <;> simp [h]
    by_cases hlater : (s.booking b).dep < dep
    · obtain ⟨hstays, hday, hnights⟩ := later hlater
      have hday := within_true (Nat.zero_le dep) hday
      simpa [changeChecks, hset, hrange, hfree, harr, hn, hnights, hday, hstays] using hstay
    · simpa [changeChecks, hset, hrange, hfree, harr, hn, hlater] using hstay
  rw [bookChange, checked_pass shape]
  rfl

/-- R34. -/
theorem bookDepart_accepted (hs : (s.booking b).state = .arrived) : bookDepart b s = depart b s :=
  checked_pass (by simp [hset, within_true (Nat.zero_le b) hb, hs])

/-- R36. -/
theorem bookCancel_accepted (hs : (s.booking b).state = .confirmed ∨ (s.booking b).state = .unplaced) :
    bookCancel b s =
      accept
        [⟨0x11, [.u 1 (if (s.booking b).berth.isSome then 1 else 0), .u 1 ((s.booking b).berth.getD 0)]⟩]
        (closeBooking .cancelled s.now b s) := by
  unfold bookCancel
  dsimp only
  rw [checked_pass]
  · rfl
  · rcases hs with h | h <;> simp [hset, within_true (Nat.zero_le b) hb, h]

end

/-! ## What each request answers and writes -/

/-- R161: a close leaves no credential linked to the booking. -/
theorem closeBooking_frees (state : BookState) (moment : Stamp) (b : Nat) (s : State) :
    ∀ e ∈ (closeBooking state moment b s).gtc.creds, e.2.state ≠ .free → e.2.booking ≠ some b := by
  unfold closeBooking
  exact freeBookingCreds_none_left

/-- R33. -/
theorem bookChange_answers {tag b dep : Nat} {s : State} (ht : s.takes = true) (hset : s.clk.isSet = true) (hb : b ≤ 511)
    (hs : (s.booking b).state = .confirmed ∨ (s.booking b).state = .arrived) (harr : (s.booking b).arr < dep)
    (hn : s.night < dep)
    (later : (s.booking b).dep < dep → dep ≤ (s.booking b).arr + 60 ∧ dep ≤ 65535 ∧
      s.nightsFree ((s.booking b).berth.getD 0) (some b) (s.booking b).dep dep = true) :
    ∃ t, Replies (.bookChange tag b dep) s t 0x18 tag ⟨.ok, 0, [⟨0x11, [.u 2 dep]⟩]⟩ ∧ SameBut [.berths] s t ∧
      Raises [] s t ∧ OnlyBooking b s t ∧ t.booking b = { s.booking b with dep } :=
  booking_request_answers rfl rfl ht (bookChange_accepted hset hb hs harr hn later)

/-- R28, R36. -/
theorem bookCancel_answers {tag b : Nat} {s : State} (ht : s.takes = true) (hset : s.clk.isSet = true) (hb : b ≤ 511)
    (hs : (s.booking b).state = .confirmed ∨ (s.booking b).state = .unplaced) :
    ∃ t, Replies (.bookCancel tag b) s t 0x1A tag
        ⟨.ok, 0, [⟨0x11, [.u 1 (if (s.booking b).berth.isSome then 1 else 0), .u 1 ((s.booking b).berth.getD 0)]⟩]⟩ ∧
      SameBut [.berths, .gates] s t ∧ Raises [] s t ∧ OnlyBooking b s t ∧
      (∀ e ∈ t.gtc.creds, e.2.state ≠ .free → e.2.booking ≠ some b) ∧
      t.booking b = closedRecord .cancelled s.now (s.booking b) := by
  obtain ⟨t, hr, hu⟩ := request_answers (i := .bookCancel tag b) rfl rfl ht (bookCancel_accepted hset hb hs)
  have record (j : Nat) := closeBooking_booking .cancelled s.now b s j
  refine ⟨t, hr, hu.sameBut (closeBooking_sameBut (by decide) (by decide) ..),
    hu.raises (raises_of_hlc (closeBooking_hlc ..)),
    hu.onlyBooking ⟨closeBooking_bookingsOnly .., fun j hj => (record j).trans (if_neg hj)⟩, ?_,
    (hu.booking b).trans ((record b).trans (if_pos rfl))⟩
  rw [hu.gtc]
  exact closeBooking_frees _ _ _ _

/-! ## A departure -/

/-- The nights a booking has been charged when it has departed (R34). -/
def nightsAtDeparture (b : Nat) (s : State) : Nat :=
  if decide ((s.booking b).arr ≤ s.night) then (s.booking b).nightsCharged + 1 else (s.booking b).nightsCharged

section
variable {b : Nat} {s : State} (room : nightsAtDeparture b s ≤ 65535)
include room

theorem closingFee_eq_charge : closingFee b s = if decide ((s.booking b).arr ≤ s.night) then charge b s else s := by
  unfold closingFee
  unfold nightsAtDeparture at room
  split at room
  · rename_i h
    rw [if_pos h, if_pos h, postFee_eq_charge (by omega)]
  · rename_i h
    rw [if_neg h, if_neg h]

/-- Of the BAL, the closing fee counts a night of the booking alone. -/
theorem closingFee_onlyBooking : OnlyBooking b s (closingFee b s) := by
  rw [closingFee_eq_charge room]
  split
  · exact ⟨by rw [charge, post_bal]; rfl, fun j hj => charge_booking_other s hj⟩
  · exact ⟨rfl, fun _ _ => rfl⟩

theorem closingFee_booking_self :
    (closingFee b s).booking b = { s.booking b with nightsCharged := nightsAtDeparture b s } := by
  rw [closingFee_eq_charge room]
  unfold nightsAtDeparture
  split
  · exact charge_booking_self b s
  · rfl

omit room in
theorem berthLeft_sameBut : SameBut holdParts (closingFee b s) (berthLeft b s) :=
  leaveBerth_sameBut (fun _ h => h) ..

omit room in
theorem berthLeft_bal : (berthLeft b s).bal = (closingFee b s).bal := berthLeft_sameBut.bal_eq (by decide)

theorem berthLeft_booking_self :
    (berthLeft b s).booking b = { s.booking b with nightsCharged := nightsAtDeparture b s } :=
  (booking_of_bal_eq berthLeft_bal b).trans (closingFee_booking_self room)

/-- The record a departure leaves (R28, R35). -/
theorem depart_booking_self :
    (depart b s).1.booking b =
      { s.booking b with
        state := .departed, berth := none, departedTime := some s.now, closedTime := some s.now,
        nightsCharged := nightsAtDeparture b s } := by
  have left := berthLeft_booking_self room
  rw [depart_eq]
  generalize berthLeft b s = u at left ⊢
  refine (closeBooking_booking .departed s.now b _ b).trans ?_
  rw [if_pos rfl, State.booking_setBooking, if_pos rfl, left]
  rfl

theorem depart_onlyBooking : OnlyBooking b s (depart b s).1 := by
  obtain ⟨fee, others⟩ := closingFee_onlyBooking room
  have left := berthLeft_bal (b := b) (s := s)
  rw [depart_eq]
  generalize berthLeft b s = u at left ⊢
  have closed (k : Booking) : BookingsOnly u (closeBooking .departed s.now b (u.setBooking b k)) :=
    (BookingsOnly.refl u |>.setBooking b k).trans (closeBooking_bookingsOnly ..)
  refine ⟨?_, fun j hj => ?_⟩
  · have toLeft : BookingsOnly s u := by
      rw [BookingsOnly, left]
      exact fee
    exact toLeft.trans (closed _)
  · refine (closeBooking_booking .departed s.now b _ j).trans ?_
    rw [if_neg hj, State.booking_setBooking, if_neg hj, booking_of_bal_eq left]
    exact others j hj

omit room in
theorem depart_sameBut : SameBut (.berths :: holdParts) s (depart b s).1 := by
  have fee : SameBut (.berths :: holdParts) s (closingFee b s) := by
    unfold closingFee
    split
    · exact postFee_sameBut (by decide) (by decide) ..
    · exact .refl ..
  have left : SameBut (.berths :: holdParts) s (berthLeft b s) := fee.trans (berthLeft_sameBut.mono (by decide))
  rw [depart_eq]
  generalize berthLeft b s = u at left ⊢
  exact (left.setBooking (by decide) b _).trans (closeBooking_sameBut (by decide) (by decide) ..)

omit room in
theorem depart_frees : ∀ e ∈ (depart b s).1.gtc.creds, e.2.state ≠ .free → e.2.booking ≠ some b := by
  rw [depart_eq]
  generalize berthLeft b s = u
  exact closeBooking_frees _ _ _ _

/-- R34, R35: the answer. -/
theorem depart_answer :
    (depart b s).2 = ⟨.ok, 0,
      [⟨0x11, [.u 1 (if decide ((s.booking b).arr ≤ s.night) then 1 else 0), .u 1 ((s.booking b).berth.getD 0),
        .u 2 (nightsAtDeparture b s), .u 2 (s.booking b).overstay,
        .u 4 (if decide ((s.booking b).arr ≤ s.night) then (s.berth ((s.booking b).berth.getD 0)).fee else 0)]⟩]⟩ := by
  have left := berthLeft_booking_self room
  rw [depart_eq]
  dsimp only [accept]
  rw [left]
  rfl

end

/-! ## Whom a departure charges -/

/-- The tables that say whom a berth's meters charge are in their form (log entry 3). -/
structure StayTablesOk (s : State) : Prop where
  bookings : tableOk coldBooking s.bal.bookings = true
  sockets : tableOk coldSocketCfg s.pdl.sockets = true
  taps : tableOk coldTapCfg s.pdl.taps = true

/-- An entry that passes a test, put in its place in a table whose first to pass it has the same index, is the first. -/
theorem find?_tableInsert {α : Type} (p : Nat × α → Bool) {t : Table α} {i : Nat} {x : α} (hp : p (i, x) = true)
    (h : (t.find? p).map (·.1) = some i) : ((tableInsert t i x).find? p).map (·.1) = some i := by
  induction t with
  | nil => cases h
  | cons e rest ih =>
    obtain ⟨k, v⟩ := e
    rw [tableInsert]
    split
    · rw [List.find?_cons_of_pos hp]
      rfl
    · split
      · rw [List.find?_cons_of_pos hp]
        rfl
      · rename_i hk
        cases hv : p (k, v) with
        | true =>
          rw [List.find?_cons_of_pos hv] at h
          exact absurd (Option.some.inj h) hk
        | false =>
          rw [List.find?_cons_of_neg (by simp [hv])] at h ⊢
          exact ih h

section
variable {b berth : Nat} {s : State}

theorem arrivedOn_setBooking {x : Booking} (hs : x.state = .arrived) (hb : x.berth = some berth)
    (h : s.arrivedOn berth = some b) : (s.setBooking b x).arrivedOn berth = some b := by
  have written : tableSet coldBooking s.bal.bookings b x = tableInsert s.bal.bookings b x := by
    refine if_neg ?_
    rintro rfl
    cases hs
  unfold State.arrivedOn at h ⊢
  rw [State.setBooking, written]
  exact find?_tableInsert _ (by simp [hs, hb]) h

theorem booking_of_arrivedOn (form : tableOk coldBooking s.bal.bookings = true) (h : s.arrivedOn berth = some b) :
    (s.booking b).state = .arrived ∧ (s.booking b).berth = some berth := by
  obtain ⟨e, he, rfl⟩ := Option.map_eq_some_iff.1 h
  have arrived := List.find?_some he
  rw [Bool.and_eq_true, decide_eq_true_eq, decide_eq_true_eq] at arrived
  rwa [State.booking, tableGet_of_mem form (List.mem_of_find?_eq_some he)]

/-- R65. -/
theorem receiver_of_arrivedOn (hc : (s.berth berth).cls ≠ .service) (h : s.arrivedOn berth = some b) :
    s.receiver (some berth) = (s.booking b).account := by
  unfold State.receiver
  dsimp only
  rw [if_neg hc, h]

/-- In tables in their form, what stands in a berth's list of sockets or taps reads as on that berth. -/
theorem berthChargedTo_of_form {payer : Nat} (sockets : tableOk coldSocketCfg s.pdl.sockets = true)
    (taps : tableOk coldTapCfg s.pdl.taps = true) (hr : s.receiver (some berth) = payer) :
    BerthChargedTo payer berth s := by
  refine ⟨fun n hn => .inl ?_, fun n hn => .inl ?_⟩
  · obtain ⟨e, he, rfl⟩ := List.mem_map.1 hn
    obtain ⟨he, hb⟩ := List.mem_filter.1 he
    rwa [State.socketCfg, tableGet_of_mem sockets he, of_decide_eq_true hb]
  · obtain ⟨e, he, rfl⟩ := List.mem_map.1 hn
    obtain ⟨he, hb⟩ := List.mem_filter.1 he
    rwa [State.tapCfg, tableGet_of_mem taps he, of_decide_eq_true hb]

/-- R34: the closing fee is posted to the booking's account. -/
theorem closingFee_accounts {a : Nat} (ha : a ≠ (s.booking b).account) (h0 : a ≠ 0) :
    (closingFee b s).account a = s.account a := by
  unfold closingFee
  split
  · exact (post_paidBy (.inl rfl) _ (s.setBooking b _)).accounts a ha h0
  · rfl

/-- R35, R65: where the tables are in their form, a departure charges the booking's account, and account 0, alone. -/
theorem depart_accounts (form : StayTablesOk s) (hc : (s.berth berth).cls ≠ .service) (h : s.arrivedOn berth = some b)
    (room : nightsAtDeparture b s ≤ 65535) {a : Nat} (ha : a ≠ (s.booking b).account) (h0 : a ≠ 0) :
    (depart b s).1.account a = s.account a := by
  obtain ⟨arrived, hb⟩ := booking_of_arrivedOn form.bookings h
  have record := closingFee_booking_self room
  have fee := closingFee_kept b s
  have cls : ((closingFee b s).berth berth).cls ≠ .service := by
    rw [State.berth, (closingFee_onlyBooking room).1]
    exact hc
  have stays : (closingFee b s).arrivedOn berth = some b := by
    have counted := arrivedOn_setBooking (x := { s.booking b with nightsCharged := (s.booking b).nightsCharged + 1 })
      arrived hb h
    rw [closingFee_eq_charge room]
    split
    · rwa [State.arrivedOn, charge, post_bal]
    · exact h
  have charged : BerthChargedTo (s.booking b).account berth (closingFee b s) := by
    refine berthChargedTo_of_form (fee.sockets ▸ form.sockets) (fee.taps ▸ form.taps) ?_
    rw [receiver_of_arrivedOn cls stays, record]
  have left : PaidBy (s.booking b).account (closingFee b s) (berthLeft b s) := by
    rw [berthLeft, hb]
    exact leaveBerth_paidBy charged
  rw [State.account, (depart_rest b s).1]
  exact (left.accounts a ha h0).trans (closingFee_accounts ha h0)

end

/-- R28, R34, R35: what a departure answers and writes in every state, and whom it charges where the tables are in their
form. -/
theorem bookDepart_answers {tag b : Nat} {s : State} (ht : s.takes = true) (hset : s.clk.isSet = true) (hb : b ≤ 511)
    (hs : (s.booking b).state = .arrived) (room : nightsAtDeparture b s ≤ 65535) :
    ∃ t, Replies (.bookDepart tag b) s t 0x19 tag ⟨.ok, 0,
        [⟨0x11, [.u 1 (if decide ((s.booking b).arr ≤ s.night) then 1 else 0), .u 1 ((s.booking b).berth.getD 0),
          .u 2 (nightsAtDeparture b s), .u 2 (s.booking b).overstay,
          .u 4 (if decide ((s.booking b).arr ≤ s.night) then (s.berth ((s.booking b).berth.getD 0)).fee else 0)]⟩]⟩ ∧
      SameBut (.berths :: holdParts) s t ∧ OnlyBooking b s t ∧
      (∀ e ∈ t.gtc.creds, e.2.state ≠ .free → e.2.booking ≠ some b) ∧
      t.acu = (berthLeft b s).acu ∧ t.far = (berthLeft b s).far ∧ t.pdl = (berthLeft b s).pdl ∧
      t.hlc.outgoing = (berthLeft b s).hlc.outgoing ∧
      (StayTablesOk s → (s.berth ((s.booking b).berth.getD 0)).cls ≠ .service →
        s.arrivedOn ((s.booking b).berth.getD 0) = some b →
        ∀ a, a ≠ (s.booking b).account → a ≠ 0 → t.account a = s.account a) ∧
      t.booking b = { s.booking b with
        state := .departed, berth := none, departedTime := some s.now, closedTime := some s.now,
        nightsCharged := nightsAtDeparture b s } := by
  have accepted : bookDepart b s = ((depart b s).1, (depart b s).2) :=
    (bookDepart_accepted hset hb hs).trans Prod.mk.eta.symm
  rw [depart_answer room] at accepted
  have parts := depart_sameBut (b := b) (s := s)
  have only := depart_onlyBooking room
  have record := depart_booking_self room
  have frees := depart_frees (b := b) (s := s)
  obtain ⟨acu, far, pdl, hlc⟩ := depart_rest b s
  obtain ⟨t, hr, hu⟩ := request_answers (i := .bookDepart tag b) rfl rfl ht accepted
  refine ⟨t, hr, hu.sameBut parts, hu.onlyBooking only, ?_, hu.acu.trans acu, hu.far.trans far, hu.pdl.trans pdl,
    hu.outgoing.trans (congrArg Hlc.outgoing hlc), fun form hc h a ha h0 => ?_, (hu.booking b).trans record⟩
  · rw [hu.gtc]
    exact frees
  · exact (hu.account a).trans (depart_accounts form hc h room ha h0)

/-! ## The refutation -/

/-- At 18:00 of day 100, booking 0 of account 1 is ARRIVED on berth 5 and booking 1 of account 2 on berth 7. The table of
static socket records lists socket 0 twice, which its form excludes: it reads as on berth 7, and stands in the list of berth
5's sockets too. Five Wh of it are unsettled. -/
def twiceListed : State :=
  let arrived (account berth : Nat) : Booking :=
    { coldBooking with state := .arrived, account, berth := some berth, arr := 100, dep := 103 }
  { State.reset with
    clk := { State.reset.clk with day := 100, sec := 64800, isSet := true, lastRoll := 100 }
    bal := { State.reset.bal with bookings := [(0, arrived 1 5), (1, arrived 2 7)] }
    acu := { State.reset.acu with
      accounts := [(0, coldHouse), (1, ⟨.opened, 0, 1000, 0⟩), (2, ⟨.opened, 0, 1000, 0⟩)]
      tariffs := [(0, ⟨1000, 1000, 1000⟩)] }
    pdl := { State.reset.pdl with
      sockets := [(0, { coldSocketCfg with berth := some 7 }), (0, { coldSocketCfg with berth := some 5 })]
      socketMeters := [(0, ⟨0, 5⟩)] } }

/-- The departure from berth 5 charges the account of the booking on berth 7. -/
theorem twiceListed_charges_other : ((depart 0 twiceListed).1.account 2).balance = -5 := by decide

/-- Refutes O24: it names every state, and in one whose table of static socket records is not in its form (log entry 3) a
departure charges an account that is neither the booking's nor account 0, as `twiceListed` shows. That is the one fault: what
else the statement says holds in every state, and that clause where the tables are in their form (`bookChange_answers`,
`bookDepart_answers`, `bookCancel_answers`). -/
theorem not_bookingChangesAndCloses : ¬ Obligations.BookingChangesAndCloses := by
  unfold Obligations.BookingChangesAndCloses
  rintro ⟨-, departs⟩
  obtain ⟨t, -, -, -, -, acu, -, -, -, accounts, -⟩ :=
    (departs 0 0 twiceListed (by decide) (by decide) (by decide)).1 (by decide) (by decide)
  have unchanged : t.account 2 = twiceListed.account 2 := accounts (by decide) (by decide) 2 (by decide) (by decide)
  have left : t.acu = (depart 0 twiceListed).1.acu := acu.trans (depart_rest 0 twiceListed).1.symm
  have charged : (t.account 2).balance = -5 := by
    rw [State.account, left]
    exact twiceListed_charges_other
  rw [unchanged] at charged
  exact absurd charged (by decide)

end Sys2Proof.Machine
end

section
/-! SUPPORT. What every step keeps (O58, O59): the relation between two states, the writes that the invariant speaks of, and the
operations of the feeders, the accounts, the releases and the line. -/

namespace Sys2Proof.Machine

/-! ## The relation -/

/-- Nothing differs that the invariant of every step speaks of. -/
structure Apart (s t : State) : Prop where
  notices : t.hlc.notices = s.hlc.notices
  clk : t.clk = s.clk
  acu : t.acu = s.acu
  sales : t.fdc.sales = s.fdc.sales

theorem Apart.trans {s t u : State} (h : Apart s t) (k : Apart t u) : Apart s u :=
  ⟨k.notices.trans h.notices, k.clk.trans h.clk, k.acu.trans h.acu, k.sales.trans h.sales⟩

/-- One state meets the invariant where another does. -/
structure KeepsInv (s t : State) : Prop where
  inv : Inv s → Inv t

namespace KeepsInv

variable {s t u : State}

theorem of_apart (h : Apart s t) : KeepsInv s t where
  inv i :=
    { notices := by rw [h.notices]; exact i.notices
      sales := by rw [h.sales]; exact i.sales
      clock := by rw [h.clk]; exact i.clock
      accounts := fun a => by rw [State.account, h.acu]; exact i.accounts a
      house := by rw [State.account, h.acu]; exact i.house
      residues := fun n => by rw [State.socketAcct, State.tapResidue, h.acu]; exact i.residues n }

theorem refl (s : State) : KeepsInv s s := ⟨id⟩

theorem trans (h : KeepsInv s t) (k : KeepsInv t u) : KeepsInv s u := ⟨k.inv ∘ h.inv⟩

theorem foldl {α : Type} (f : State → α → State) (h : ∀ s a, KeepsInv s (f s a)) (l : List α) (s : State) :
    KeepsInv s (l.foldl f s) := foldl_keeps refl trans f h l s

/-- A write the invariant does not speak of may follow. -/
theorem andThen (h : KeepsInv s t) (k : Apart t u) : KeepsInv s u := h.trans (of_apart k)

/-- A write the invariant does not speak of may come first. -/
theorem after (h : KeepsInv t u) (k : Apart s t) : KeepsInv s u := (of_apart k).trans h

theorem of_gatesOnly (h : GatesOnly s t) : KeepsInv s t := by
  rw [h.blocks]
  exact of_apart ⟨rfl, rfl, rfl, rfl⟩

theorem ite {c : Prop} [Decidable c] (h : KeepsInv s t) (k : KeepsInv s u) : KeepsInv s (if c then t else u) := by
  split
  · exact h
  · exact k

/-- R196: of the link the invariant bounds the queue of notices. -/
theorem setHlc {x : Hlc} (h : s.hlc.notices.length ≤ noticeCapacity → x.notices.length ≤ noticeCapacity) :
    KeepsInv s (s.setHlc x) where
  inv i :=
    { notices := h i.notices, sales := i.sales, clock := i.clock, accounts := i.accounts, house := i.house,
      residues := i.residues }

/-- R196. -/
theorem raise (h : KeepsInv s t) (b : NoticeBody) : KeepsInv s (t.raise b) := h.trans (setHlc (enterNotice_length _ _ _))

/-- R69, R71. -/
theorem setClk {x : Clk} (h : s.clk.inRange → x.inRange) : KeepsInv s (s.setClk x) where
  inv i :=
    { notices := i.notices, sales := i.sales, clock := h i.clock, accounts := i.accounts, house := i.house,
      residues := i.residues }

/-- R137: of the fuel dock the invariant bounds the queue of sales. -/
theorem setFdc {x : Fdc} (h : s.fdc.sales.length ≤ 16 → x.sales.length ≤ 16) : KeepsInv s { s with fdc := x } where
  inv i :=
    { notices := i.notices, sales := h i.sales, clock := i.clock, accounts := i.accounts, house := i.house,
      residues := i.residues }

/-- R47 to R49. -/
theorem setAccount {a : Nat} {x : Account} (range : (s.account a).inRange → x.inRange)
    (house : a = 0 → (s.account a).state = .opened → x.state = .opened) : KeepsInv s (s.setAccount a x) where
  inv i :=
    { notices := i.notices
      sales := i.sales
      clock := i.clock
      accounts := fun b => by
        rw [State.account_setAccount]
        split
        · exact range (i.accounts a)
        · exact i.accounts b
      house := by
        rw [State.account_setAccount]
        split
        · rename_i h
          exact house h.symm (h ▸ i.house)
        · exact i.house
      residues := i.residues }

/-- R62. -/
theorem setSocketAcct {n : Nat} {x : SocketAcct} (h : x.residue < 1000) : KeepsInv s (s.setSocketAcct n x) where
  inv i :=
    { notices := i.notices
      sales := i.sales
      clock := i.clock
      accounts := i.accounts
      house := i.house
      residues := fun m => by
        refine ⟨?_, (i.residues m).2⟩
        rw [State.socketAcct_setSocketAcct]
        split
        · exact h
        · exact (i.residues m).1 }

/-- R62. -/
theorem setTapResidue {n x : Nat} (h : x < 1000) : KeepsInv s (s.setTapResidue n x) where
  inv i :=
    { notices := i.notices
      sales := i.sales
      clock := i.clock
      accounts := i.accounts
      house := i.house
      residues := fun m => by
        refine ⟨(i.residues m).1, ?_⟩
        rw [State.tapResidue_setTapResidue]
        split
        · exact h
        · exact (i.residues m).2 }

end KeepsInv

/-! ## Feeders -/

theorem takeStamp_apart (s : State) : Apart s (takeStamp s).1 := by
  have renumbered : Apart s (renumber s) :=
    (foldl_keeps (kept := Apart) (fun _ => ⟨rfl, rfl, rfl, rfl⟩) Apart.trans
      (fun t (e : (Nat × Socket) × Nat) => t.setSocket e.1.1 { t.socket e.1.1 with stamp := some e.2 })
      (fun _ _ => ⟨rfl, rfl, rfl, rfl⟩) _ s).trans ⟨rfl, rfl, rfl, rfl⟩
  unfold takeStamp
  dsimp only
  split
  · exact renumbered.trans ⟨rfl, rfl, rfl, rfl⟩
  · exact ⟨rfl, rfl, rfl, rfl⟩

theorem grant_keepsInv (f n : Nat) (skipped : List Nat) (s : State) : KeepsInv s (grant f n skipped s) := by
  have sockets : KeepsInv s (grantedSockets f n skipped s) := by
    have granted : KeepsInv s ((takeStamp s).1.setSocket n
        { (takeStamp s).1.socket n with
          state := .granted, reservation := some (s.reservation n), stamp := some (takeStamp s).2, confirm := some 0,
          bypass := 0 }) := (KeepsInv.of_apart (takeStamp_apart s)).andThen ⟨rfl, rfl, rfl, rfl⟩
    exact .ite granted (granted.trans (.foldl countBypass (fun _ _ => .of_apart ⟨rfl, rfl, rfl, rfl⟩) skipped _))
  obtain ⟨fd, body, h, -⟩ := grant_eq f n skipped s
  rw [h]
  refine .raise ?_ body
  exact sockets.andThen ⟨rfl, rfl, rfl, rfl⟩

theorem grantSearch_keepsInv (f : Nat) (s : State) : KeepsInv s (grantSearch f s) := by
  unfold grantSearch
  generalize (s.feeder f).pending.length + 1 = fuel
  induction fuel generalizing s with
  | zero => exact .refl s
  | succ fuel ih =>
    rw [searchPasses]
    split
    · exact .refl s
    · exact (grant_keepsInv ..).trans (ih _)

theorem placePending_apart (n : Nat) (s : State) : Apart s (placePending n s) := ⟨rfl, rfl, rfl, rfl⟩

theorem dropPending_apart (n : Nat) (d : SocketState) (s : State) : Apart s (dropPending n d s) := ⟨rfl, rfl, rfl, rfl⟩

theorem withdraw_keepsInv (n : Nat) (d : SocketState) (s : State) : KeepsInv s (withdraw n d s) :=
  have dropped := KeepsInv.of_apart (dropPending_apart n d s)
  .ite (dropped.raise _) dropped

theorem leaveAllPending_keepsInv (d : Nat → SocketState) (l : List Nat) (s : State) :
    KeepsInv s (leaveAllPending d l s) :=
  KeepsInv.trans (.foldl _ (fun s n => withdraw_keepsInv n (d n) s) _ _)
    (.foldl _ (fun s _ => grantSearch_keepsInv _ s) _ _)

theorem reevaluate_keepsInv (n : Nat) (s : State) : KeepsInv s (reevaluate n s) := by
  unfold reevaluate
  dsimp only
  split
  · exact .refl s
  split
  · exact .ite (.refl s) ((grantSearch_keepsInv _ _).after (placePending_apart n s))
  · exact .ite (leaveAllPending_keepsInv ..) (.of_apart ⟨rfl, rfl, rfl, rfl⟩)

theorem reevaluateAsIdle_keepsInv (n : Nat) (s : State) : KeepsInv s (reevaluateAsIdle n s) :=
  (reevaluate_keepsInv n _).after ⟨rfl, rfl, rfl, rfl⟩

theorem farHold_keepsInv (a : Nat) (s : State) : KeepsInv s (farHold a s) :=
  (leaveAllPending_keepsInv _ _ s).trans (.foldl _ (fun s n => reevaluate_keepsInv n s) _ _)

theorem farEntitle_keepsInv (b : Nat) (s : State) : KeepsInv s (farEntitle b s) :=
  .foldl _ (fun s n => .ite (reevaluate_keepsInv n s) (.refl s)) _ _

/-! ## Postings and settlements -/

/-- R49: a balance held within its bounds. -/
theorem saturate_inRange (x : Int) : -balanceBound ≤ saturate x ∧ saturate x ≤ balanceBound := by
  unfold saturate balanceBound
  split
  · omega
  · split <;> omega

theorem addBalance_keepsInv (a : Nat) (x : Int) (s : State) : KeepsInv s (addBalance a x s) :=
  have ⟨lo, hi⟩ := saturate_inRange ((s.account a).balance + x)
  .setAccount (fun ⟨_, _, limit⟩ => ⟨lo, hi, limit⟩) (fun _ h => h)

theorem evaluateHold_keepsInv (a : Nat) (s : State) : KeepsInv s (evaluateHold a s).1 := by
  simp only [evaluateHold]
  split
  · exact .refl s
  · rename_i ha
    have written (state : AcctState) : KeepsInv s (s.setAccount a { s.account a with state }) :=
      .setAccount id (fun h => absurd h ha)
    split
    · exact (written _).raise _
    · split
      · exact (written _).raise _
      · exact .refl s

theorem postOnly_keepsInv (a : Nat) (x : Int) (s : State) : KeepsInv s (postOnly a x s).1 := by
  unfold postOnly
  split
  · exact .refl s
  · exact (addBalance_keepsInv a x s).trans (evaluateHold_keepsInv ..)

section
variable {charge : Nat → Int → State → State} (h : ∀ a x s, KeepsInv s (charge a x s))
include h

theorem settleSocketBy_keepsInv (n : Nat) (s : State) : KeepsInv s (settleSocketBy charge n s) := by
  have emptied : KeepsInv s (emptiedSocket n s) :=
    (KeepsInv.setSocketAcct (s := s.setSocketMeter n _) (price_residue_lt ..)).after ⟨rfl, rfl, rfl, rfl⟩
  exact settleSocketBy_eq n s charge ▸ emptied.trans (h ..)

theorem settleTapBy_keepsInv (n : Nat) (s : State) : KeepsInv s (settleTapBy charge n s) := by
  have emptied : KeepsInv s (emptiedTap n s) :=
    (KeepsInv.setTapResidue (s := s.setTapMeter n _) (price_residue_lt ..)).after ⟨rfl, rfl, rfl, rfl⟩
  exact settleTapBy_eq n s charge ▸ emptied.trans (h ..)

end

theorem closeTapBy_keepsInv {settle : Nat → State → State} (h : ∀ n s, KeepsInv s (settle n s)) (n : Nat) (c : TapCause)
    (s : State) : KeepsInv s (closeTapBy settle n c s) := by
  unfold closeTapBy
  split
  · exact .refl s
  · refine .raise ?_ _
    exact (h n (s.setRun n none)).after ⟨rfl, rfl, rfl, rfl⟩

theorem pdlHold_keepsInv (a : Nat) (s : State) : KeepsInv s (pdlHold a s) :=
  .foldl _ (fun s n => closeTapBy_keepsInv (settleTapBy_keepsInv postOnly_keepsInv) n _ s) _ _

theorem dropCard_keepsInv (n : Nat) (s : State) : KeepsInv s (dropCard n s) :=
  .of_gatesOnly (dropCard_credUsesOnly n s).gatesOnly

theorem gtcHold_keepsInv (a : Nat) (s : State) : KeepsInv s (gtcHold a s) := by
  unfold gtcHold
  split
  · exact .refl s
  · refine .ite (.raise ?_ _) (.refl s)
    exact (dropCard_keepsInv 7 s).andThen ⟨rfl, rfl, rfl, rfl⟩

theorem tellHold_keepsInv (a : Nat) (s : State) : KeepsInv s (tellHold a s) :=
  have told := farHold_keepsInv a s
  .ite ((told.trans (pdlHold_keepsInv ..)).trans (gtcHold_keepsInv ..)) told

theorem post_keepsInv (a : Nat) (x : Int) (s : State) : KeepsInv s (post a x s) :=
  have posted := postOnly_keepsInv a x s
  .ite (posted.trans (tellHold_keepsInv ..)) posted

theorem evaluateAndTell_keepsInv (a : Nat) (s : State) : KeepsInv s (evaluateAndTell a s) :=
  have evaluated := evaluateHold_keepsInv a s
  .ite (evaluated.trans (tellHold_keepsInv ..)) evaluated

theorem settleSocket_keepsInv (n : Nat) (s : State) : KeepsInv s (settleSocket n s) :=
  settleSocketBy_keepsInv post_keepsInv n s

theorem settleTap_keepsInv (n : Nat) (s : State) : KeepsInv s (settleTap n s) := settleTapBy_keepsInv post_keepsInv n s

theorem closeTap_keepsInv (n : Nat) (c : TapCause) (s : State) : KeepsInv s (closeTap n c s) :=
  closeTapBy_keepsInv settleTap_keepsInv n c s

theorem settleAllSockets_keepsInv (s : State) : KeepsInv s (settleAllSockets s) :=
  .foldl _ (fun s n => settleSocket_keepsInv n s) _ _

theorem settleAllTaps_keepsInv (s : State) : KeepsInv s (settleAllTaps s) :=
  .foldl _ (fun s n => settleTap_keepsInv n s) _ _

/-! ## Releases -/

theorem release_keepsInv (n : Nat) (land : Landing) (notice : Option NoticeBody) (s : State) :
    KeepsInv s (release n land notice s) := by
  unfold release
  refine KeepsInv.trans ?_ (grantSearch_keepsInv ..)
  have settled := settleSocket_keepsInv n s
  cases notice with
  | none => exact settled.andThen ⟨rfl, rfl, rfl, rfl⟩
  | some b =>
    refine .raise ?_ b
    exact settled.andThen ⟨rfl, rfl, rfl, rfl⟩

theorem shed_keepsInv (n : Nat) (source : ShedSource) (cause : ShedCause) (s : State) :
    KeepsInv s (shed n source cause s) := by
  unfold shed
  exact release_keepsInv ..

theorem farDepart_keepsInv (b : Nat) (s : State) : KeepsInv s (farDepart b s) :=
  (leaveAllPending_keepsInv _ _ s).trans (.foldl _ (fun s _ => .ite (release_keepsInv ..) (.refl s)) _ _)

theorem closeBerthTaps_keepsInv (b : Nat) (c : TapCause) (s : State) : KeepsInv s (closeBerthTaps b c s) :=
  .foldl _ (fun s n => closeTap_keepsInv n c s) _ _

theorem settleBerth_keepsInv (b : Nat) (s : State) : KeepsInv s (settleBerth b s) :=
  KeepsInv.trans (.foldl _ (fun s n => settleSocket_keepsInv n s) _ _)
    (.foldl _ (fun s n => settleTap_keepsInv n s) _ _)

theorem releaseTripped_keepsInv (n : Nat) (s : State) : KeepsInv s (releaseTripped n s) := release_keepsInv ..

theorem takePlugGone_keepsInv (n : Nat) (s : State) : KeepsInv s (takePlugGone n s) := by
  unfold takePlugGone
  dsimp only
  split
  · exact release_keepsInv ..
  · exact release_keepsInv ..
  · exact leaveAllPending_keepsInv ..
  all_goals exact .of_apart ⟨rfl, rfl, rfl, rfl⟩

theorem energise_keepsInv (n : Nat) (s : State) : KeepsInv s (energise n s) :=
  have written : KeepsInv s (s.setSocket n { s.socket n with state := .energised, confirm := none }) :=
    .of_apart ⟨rfl, rfl, rfl, rfl⟩
  written.raise _

theorem takeChanges_keepsInv (n : Nat) (c : Changes) (s : State) : KeepsInv s (takeChanges n c s) :=
  .ite (takePlugGone_keepsInv n s) <| .ite (releaseTripped_keepsInv n s) <|
    .ite (.ite (releaseTripped_keepsInv n s) (energise_keepsInv n s)) <| .ite (.of_apart ⟨rfl, rfl, rfl, rfl⟩) <|
    .ite (reevaluate_keepsInv n s) (.refl s)

theorem adopt_keepsInv (n : Nat) (s : State) : KeepsInv s (adopt n s) := by
  have stamped := KeepsInv.of_apart (takeStamp_apart s)
  unfold adopt
  refine .raise ?_ _
  exact stamped.andThen ⟨rfl, rfl, rfl, rfl⟩

theorem adoptSocket_keepsInv (n : Nat) (r : SocketReport) (s : State) : KeepsInv s (adoptSocket n r s) :=
  .ite (.refl s) <| .ite (.of_apart ⟨rfl, rfl, rfl, rfl⟩) <| .ite (.of_apart ⟨rfl, rfl, rfl, rfl⟩) <|
    .ite (adopt_keepsInv n s) <| .ite (.of_apart (placePending_apart n s)) (.of_apart ⟨rfl, rfl, rfl, rfl⟩)

theorem countScan_keepsInv (n : Nat) (s : State) : KeepsInv s (countScan n s) :=
  .ite (.refl s) <| .ite (release_keepsInv ..) (.of_apart ⟨rfl, rfl, rfl, rfl⟩)

theorem judgeFeeder_keepsInv (f : Nat) (s : State) : KeepsInv s (judgeFeeder f s) := by
  unfold judgeFeeder
  refine .ite (.of_apart ⟨rfl, rfl, rfl, rfl⟩) (.ite (.of_apart ⟨rfl, rfl, rfl, rfl⟩) (KeepsInv.raise ?_ _))
  split
  · exact (shed_keepsInv ..).andThen ⟨rfl, rfl, rfl, rfl⟩
  · exact .of_apart ⟨rfl, rfl, rfl, rfl⟩

theorem scanComplete_keepsInv (s : State) : KeepsInv s (scanComplete s) := by
  have measured : KeepsInv s
      (feederNumbers.foldl (fun t f => t.setFeeder f { t.feeder f with measured := s.measuredCurrent f }) s) := by
    refine .foldl _ (fun _ _ => ?_) _ _
    exact .of_apart ⟨rfl, rfl, rfl, rfl⟩
  exact (measured.trans (.foldl _ (fun s n => countScan_keepsInv n s) _ _)).trans
    (.foldl _ (fun s f => judgeFeeder_keepsInv f s) _ _)

theorem holdOffEnds_keepsInv (n : Nat) (s : State) : KeepsInv s (holdOffEnds n s) := by
  unfold holdOffEnds
  refine .ite ?_ (.refl s)
  split
  · exact reevaluateAsIdle_keepsInv n s
  · exact .of_apart ⟨rfl, rfl, rfl, rfl⟩

theorem shedToLimit_keepsInv (f fuel : Nat) (s : State) : KeepsInv s (shedToLimit f fuel s) := by
  induction fuel generalizing s with
  | zero => exact .refl s
  | succ fuel ih =>
    rw [shedToLimit]
    refine .ite (.refl s) ?_
    split
    · exact .refl s
    · exact (shed_keepsInv ..).trans (ih _)

theorem lockSocket_keepsInv (n : Nat) (s : State) : KeepsInv s (lockSocket n s) := by
  unfold lockSocket
  dsimp only
  split
  · exact .refl s
  · exact release_keepsInv ..
  · exact release_keepsInv ..
  all_goals exact (grantSearch_keepsInv _ _).after ⟨rfl, rfl, rfl, rfl⟩

/-! ## The pedestal line -/

theorem countSocket_keepsInv (e n c : Nat) (s : State) : KeepsInv s (countSocket e n c s) :=
  have counted : KeepsInv s (s.setSocketMeter n ((s.socketMeter n).take (20 * e) c)) := .of_apart ⟨rfl, rfl, rfl, rfl⟩
  .ite counted (counted.raise _)

theorem countTap_keepsInv (e n c : Nat) (s : State) : KeepsInv s (countTap e n c s) :=
  have counted : KeepsInv s (s.setTapMeter n ((s.tapMeter n).take (2 * e) c)) := .of_apart ⟨rfl, rfl, rfl, rfl⟩
  .ite counted (counted.raise _)

theorem openTap_keepsInv (n b : Nat) (k : Option Nat) (s : State) : KeepsInv s (openTap n b k s) :=
  have opened : KeepsInv s (s.setRun n (some ⟨s.uptime, s.uptime, (s.tapCfg n).runLimit⟩)) :=
    .of_apart ⟨rfl, rfl, rfl, rfl⟩
  opened.raise _

theorem pressTap_keepsInv (n : Nat) (s : State) : KeepsInv s (pressTap n s) := by
  unfold pressTap pressClosed
  refine .ite (closeTap_keepsInv ..) ?_
  split
  · exact (KeepsInv.refl s).raise _
  · refine .ite (openTap_keepsInv ..) ?_
    split
    · exact (KeepsInv.refl s).raise _
    · exact .ite ((KeepsInv.refl s).raise _) (openTap_keepsInv ..)

theorem linkGood_keepsInv (a : Nat) (s : State) : KeepsInv s (linkGood a s) :=
  have linked : KeepsInv s (s.setLink a { link := .online, miss := 0, lastGood := some s.uptime, heard := true }) :=
    .of_apart ⟨rfl, rfl, rfl, rfl⟩
  .ite (linked.raise _) linked

theorem handSocket_keepsInv (h : Handover) (n : Nat) (r : SocketReport) (s : State) :
    KeepsInv s (handSocket h n r s) := by
  unfold handSocket
  cases h with
  | adoption => exact (adoptSocket_keepsInv ..).after ⟨rfl, rfl, rfl, rfl⟩
  | afterLoss => exact (takeChanges_keepsInv ..).after ⟨rfl, rfl, rfl, rfl⟩
  | differences => exact (takeChanges_keepsInv ..).after ⟨rfl, rfl, rfl, rfl⟩

theorem endHandover_keepsInv (h : Handover) (a : Nat) (s : State) : KeepsInv s (endHandover h a s) := by
  cases h with
  | adoption => exact .ite (grantSearch_keepsInv ..) (.refl s)
  | afterLoss => exact .foldl _ (fun s n => .ite (reevaluate_keepsInv n s) (.refl s)) _ _
  | differences => exact .refl s

theorem countReport_keepsInv (r : PollReply) (s : State) : KeepsInv s (countReport r s) :=
  ((linkGood_keepsInv r.address s).trans (.foldl _ (fun t _ => countSocket_keepsInv _ _ _ t) _ _)).trans
    (.foldl _ (fun t _ => countTap_keepsInv _ _ _ t) _ _)

theorem handReport_keepsInv (h : Handover) (r : PollReply) (s : State) : KeepsInv s (handReport h r s) :=
  KeepsInv.trans (.foldl _ (fun t _ => handSocket_keepsInv _ _ _ t) _ _) (endHandover_keepsInv ..)

theorem goodReport_keepsInv (p : Poll) (r : PollReply) (s : State) : KeepsInv s (goodReport p r s) := by
  have handed := (countReport_keepsInv r s).trans (handReport_keepsInv (s.handover r.address) r _)
  unfold goodReport
  dsimp only
  have pressed (l : List (Nat × TapReading)) (t : State) :
      KeepsInv t (l.foldl (fun t x => (pressTap x.1 t).setAck x.1 true) t) :=
    .foldl _ (fun t x => (pressTap_keepsInv x.1 t).andThen (u := (pressTap x.1 t).setAck x.1 true) ⟨rfl, rfl, rfl, rfl⟩) l t
  have acked (l : List (Nat × Bool)) (t : State) : KeepsInv t (l.foldl (fun t x => t.setAck x.1 false) t) :=
    .foldl _ (fun t x => .of_apart (t := t.setAck x.1 false) ⟨rfl, rfl, rfl, rfl⟩) l t
  refine KeepsInv.andThen (((handed.trans (pressed _ _)).trans (acked _ _)).trans (.foldl _ (fun t x => ?_) _ _))
    ⟨rfl, rfl, rfl, rfl⟩
  split <;> exact .of_apart ⟨rfl, rfl, rfl, rfl⟩

theorem pollReply_keepsInv (b : List Byte) (w : Bool) (s : State) : KeepsInv s (pollReply b w s) := by
  unfold pollReply
  split
  · exact .ite (goodReport_keepsInv ..) (.refl s)
  · exact .refl s

theorem missPoll_keepsInv (a : Nat) (s : State) : KeepsInv s (missPoll a s) := by
  unfold missPoll
  refine .ite (.of_apart ⟨rfl, rfl, rfl, rfl⟩) ?_
  refine KeepsInv.trans ?_ (.foldl _ (fun s n => closeTap_keepsInv n _ s) _ _)
  refine KeepsInv.trans ?_ (leaveAllPending_keepsInv ..)
  have lost : KeepsInv s (s.setLink a { s.link a with link := .lost, miss := 3 }) := .of_apart ⟨rfl, rfl, rfl, rfl⟩
  exact lost.raise _

theorem beginScan_apart (s : State) : Apart s (beginScan s) := ⟨rfl, rfl, rfl, rfl⟩

theorem beginSlotAbove_apart (a : Nat) (s : State) : Apart s (beginSlotAbove a s).1 := by
  unfold beginSlotAbove
  split <;> exact ⟨rfl, rfl, rfl, rfl⟩

theorem slotEnd_keepsInv (s : State) : KeepsInv s (slotEnd s) := by
  unfold slotEnd
  split
  · exact .refl s
  · rename_i p _
    have polled : KeepsInv s
        (if s.pdl.replied = true ∨ (s.pedestal p.address).configured = false then s else missPoll p.address s) :=
      .ite (.refl s) (missPoll_keepsInv ..)
    refine .ite (.ite (polled.andThen ⟨rfl, rfl, rfl, rfl⟩) ?_) (polled.andThen (beginSlotAbove_apart ..))
    exact (polled.trans (scanComplete_keepsInv _)).andThen (beginScan_apart _)

theorem unconfigure_keepsInv (a : Nat) (s : State) : KeepsInv s (unconfigure a s) := by
  unfold unconfigure
  refine KeepsInv.after (.foldl _ (fun t n => ?_) _ (s.setLink a _)) ⟨rfl, rfl, rfl, rfl⟩
  exact (takePlugGone_keepsInv n (t.setReport n none)).after ⟨rfl, rfl, rfl, rfl⟩

theorem socketChanged_keepsInv (n rating : Nat) (s : State) : KeepsInv s (socketChanged n rating s) :=
  have changed := reevaluate_keepsInv n s
  .ite (changed.trans (grantSearch_keepsInv ..)) changed

end Sys2Proof.Machine
end

section
/-! SUPPORT. What every step keeps (O59): the operations of the berth allocator, the accounts' requests and the rollovers. -/

namespace Sys2Proof.Machine

/-! ## Requests -/

theorem firstFailing_none {checks : List (Bool × Status)} (h : firstFailing checks = none) :
    ∀ c ∈ checks, c.1 = false := by
  induction checks with
  | nil => exact fun c hc => absurd hc List.not_mem_nil
  | cons c rest ih =>
    rw [firstFailing] at h
    split at h
    · cases h
    · rename_i hc
      intro d hd
      rcases List.mem_cons.1 hd with rfl | hd
      · exact Bool.eq_false_iff.2 hc
      · exact ih h d hd

/-- A request acts only where none of its checks fails. -/
theorem checked_keepsInv {checks : List (Bool × Status)} {act : State → State × Answer} {s : State}
    (h : (∀ c ∈ checks, c.1 = false) → KeepsInv s (act s).1) : KeepsInv s (checked checks act s).1 := by
  unfold checked
  split
  · exact .refl s
  · rename_i hn
    exact h (firstFailing_none hn)

/-- A row is written only where a check that refuses it does not fail. -/
theorem ok_of_ite {c : Prop} [Decidable c] {code : Status} {row : Except Status State} {t : State}
    (h : (if c then .error code else row) = .ok t) : ¬c ∧ row = .ok t := by
  split at h
  · cases h
  · rename_i hc
    exact ⟨hc, h⟩

/-- R191: a put keeps what each row that is written keeps. -/
theorem putRows_keepsInv {α : Type} {row : Nat → α → State → Except Status State}
    (h : ∀ i x s t, row i x s = .ok t → KeepsInv s t) (l : List (PutItem α)) (i n : Nat) (s : State) :
    KeepsInv s (putRows row i n l s).1 := by
  induction l generalizing i n s with
  | nil => exact .refl s
  | cons item rest ih =>
    cases item with
    | badItem => exact .refl s
    | row x =>
      rw [putRows]
      split
      · exact .refl s
      · rename_i t ht
        exact (h i x s t ht).trans (ih ..)

theorem multiPut_keepsInv {α : Type} {row : Nat → α → State → Except Status State}
    (h : ∀ i x s t, row i x s = .ok t → KeepsInv s t) (most start : Nat) (l : List (PutItem α)) (s : State) :
    KeepsInv s (multiPut most start row l s).1 := by
  unfold multiPut
  split
  · exact putRows_keepsInv h ..
  · exact .refl s

theorem getRecords_state (start count first last most per : Nat) (items : Nat → List Item) (s : State) :
    (getRecords start count first last most per items s).1 = s := by
  unfold getRecords
  split <;> rfl

theorem getRecords_keepsInv (start count first last most per : Nat) (items : Nat → List Item) (s : State) :
    KeepsInv s (getRecords start count first last most per items s).1 := by
  rw [getRecords_state]
  exact .refl s

/-! ## Bookings -/

theorem freeBookingCreds_keepsInv (b : Nat) (s : State) : KeepsInv s (freeBookingCreds b s) :=
  .of_gatesOnly (freeBookingCreds_gatesOnly b s)

theorem moveBooking_keepsInv (water : State → Nat → Int) (b : Nat) (s : State) : KeepsInv s (moveBooking water b s) := by
  rcases moveBooking_cases water b s with ⟨h, -⟩ | ⟨_, k, body, -, -, -, h⟩
  · rw [h]
    exact .refl s
  · rw [h]
    refine .raise ?_ body
    exact .of_apart ⟨rfl, rfl, rfl, rfl⟩

theorem moveAll_keepsInv (b : Nat) (s : State) : KeepsInv s (moveAll b s) :=
  .foldl _ (fun s _ => moveBooking_keepsInv _ _ s) _ _

theorem closeBooking_keepsInv (state : BookState) (moment : Stamp) (b : Nat) (s : State) :
    KeepsInv s (closeBooking state moment b s) := (freeBookingCreds_keepsInv b _).after ⟨rfl, rfl, rfl, rfl⟩

theorem arrive_keepsInv (b source : Nat) (s : State) : KeepsInv s (arrive b source s) := by
  refine .raise ?_ _
  exact (farEntitle_keepsInv ..).after ⟨rfl, rfl, rfl, rfl⟩

theorem autoArrive_keepsInv (a : Arrival) (s : State) : KeepsInv s (autoArrive a s) := by
  unfold autoArrive
  split
  · exact (KeepsInv.refl s).raise _
  · exact arrive_keepsInv ..

theorem takeArrival_keepsInv (s : State) : KeepsInv s (takeArrival s) := by
  unfold takeArrival
  split
  · exact .refl s
  · exact (autoArrive_keepsInv ..).after ⟨rfl, rfl, rfl, rfl⟩

theorem setBooking_keepsInv (b : Nat) (k : Booking) (s : State) : KeepsInv s (s.setBooking b k) :=
  .of_apart ⟨rfl, rfl, rfl, rfl⟩

theorem postFee_keepsInv (b : Nat) (s : State) : KeepsInv s (postFee b s) :=
  (setBooking_keepsInv ..).trans (post_keepsInv ..)

theorem leaveBerth_keepsInv (b : Nat) (s : State) : KeepsInv s (leaveBerth b s) :=
  ((settleBerth_keepsInv b s).trans (farDepart_keepsInv ..)).trans (closeBerthTaps_keepsInv ..)

theorem depart_keepsInv (b : Nat) (s : State) : KeepsInv s (depart b s).1 := by
  have charged : KeepsInv s (closingFee b s) := .ite (postFee_keepsInv b s) (.refl s)
  have left : KeepsInv s (berthLeft b s) := charged.trans (leaveBerth_keepsInv ..)
  rw [depart_eq]
  generalize berthLeft b s = u at left ⊢
  exact (left.trans (setBooking_keepsInv ..)).trans (closeBooking_keepsInv ..)

theorem bookAlloc_keepsInv (n : NewBooking) (preference : Nat) (s : State) : KeepsInv s (bookAlloc n preference s).1 := by
  refine checked_keepsInv fun _ => ?_
  split
  · exact .refl s
  · split
    · exact .refl s
    · exact .of_apart ⟨rfl, rfl, rfl, rfl⟩

theorem bookFixed_keepsInv (n : NewBooking) (berth : Nat) (force : Bool) (s : State) :
    KeepsInv s (bookFixed n berth force s).1 := by
  refine checked_keepsInv fun _ => ?_
  split
  · exact .refl s
  · exact checked_keepsInv fun _ => .of_apart ⟨rfl, rfl, rfl, rfl⟩

theorem bookFixedIndex_keepsInv (b berth : Nat) (force : Bool) (s : State) :
    KeepsInv s (bookFixedIndex b berth force s).1 := checked_keepsInv fun _ => .of_apart ⟨rfl, rfl, rfl, rfl⟩

theorem bookPlace_keepsInv (b preference : Nat) (s : State) : KeepsInv s (bookPlace b preference s).1 := by
  refine checked_keepsInv fun _ => ?_
  split
  · exact .refl s
  · exact .of_apart ⟨rfl, rfl, rfl, rfl⟩

theorem bookArrive_keepsInv (b : Nat) (s : State) : KeepsInv s (bookArrive b s).1 := by
  unfold bookArrive
  split
  · exact .refl s
  · exact arrive_keepsInv ..

theorem bookChange_keepsInv (b dep : Nat) (s : State) : KeepsInv s (bookChange b dep s).1 :=
  checked_keepsInv fun _ => .of_apart ⟨rfl, rfl, rfl, rfl⟩

theorem bookDepart_keepsInv (b : Nat) (s : State) : KeepsInv s (bookDepart b s).1 :=
  checked_keepsInv fun _ => depart_keepsInv b s

theorem bookCancel_keepsInv (b : Nat) (s : State) : KeepsInv s (bookCancel b s).1 :=
  checked_keepsInv fun _ => closeBooking_keepsInv ..

/-! ## Berths and low water -/

theorem tellClass_keepsInv (b : Nat) (old new : BerthClass) (s : State) : KeepsInv s (tellClass b old new s) :=
  .ite (.refl s) <| .ite (farEntitle_keepsInv b s) <|
    .ite ((farDepart_keepsInv b s).trans (closeBerthTaps_keepsInv ..)) (.refl s)

theorem berthRow_keepsInv (i : Nat) (r : BerthRow) (s t : State) (h : berthRow i r s = .ok t) : KeepsInv s t := by
  unfold berthRow at h
  split at h
  · rename_i cls state _ _
    dsimp only at h
    split at h
    · cases h
    split at h
    · cases h
    split at h
    · cases h
    cases h
    have told : KeepsInv s (tellClass i (s.berth i).cls cls (s.setBerth i
        { pontoon := r.pontoon, cls, visitorOk := r.visitorOk && decide (cls = .resident), state, maxLoa := r.maxLoa,
          maxBeam := r.maxBeam, depth := r.depth, fee := r.fee })) :=
      (tellClass_keepsInv ..).after ⟨rfl, rfl, rfl, rfl⟩
    exact .ite (told.trans (moveAll_keepsInv ..)) told
  · cases h

theorem berthGet_keepsInv (q : BerthQuery) (s : State) : KeepsInv s (berthGet q s).1 := by
  cases q with
  | entries start count =>
    unfold berthGet
    dsimp only
    split <;> exact .refl s
  | calendar berth position =>
    unfold berthGet
    dsimp only
    split <;> exact .refl s

/-- R6: a row writes the low-water table alone. -/
theorem tideRow_ok {i : Nat} {r : TideRow} {s t : State} (h : tideRow i r s = .ok t) : ∃ l, t = s.setTides l := by
  unfold tideRow at h
  dsimp only at h
  split at h
  · cases h
  split at h
  · cases h
    exact ⟨_, rfl⟩
  split at h
  · cases h
  split at h
  · cases h
    exact ⟨_, rfl⟩
  split at h
  · split at h
    · cases h
      exact ⟨_, rfl⟩
    · cases h
  · cases h
    exact ⟨_, rfl⟩

theorem tideRow_keepsInv (i : Nat) (r : TideRow) (s t : State) (h : tideRow i r s = .ok t) : KeepsInv s t := by
  obtain ⟨l, rfl⟩ := tideRow_ok h
  exact .of_apart ⟨rfl, rfl, rfl, rfl⟩

theorem tideGet_keepsInv (start count : Nat) (s : State) : KeepsInv s (tideGet start count s).1 := by
  unfold tideGet
  split <;> exact .refl s

/-! ## Accounts -/

/-- R52: an account is opened within the range of a limit, and never account 0. -/
theorem acctOpen_keepsInv (a limit : Nat) (s : State) : KeepsInv s (acctOpen a limit s).1 := by
  refine checked_keepsInv fun pass => ?_
  simp only [List.forall_mem_cons, Bool.or_eq_false_iff, Bool.not_eq_false', within_iff, decide_eq_false_iff_not] at pass
  obtain ⟨⟨-, -, hlimit⟩, h0, -⟩ := pass
  exact .setAccount (fun _ => ⟨(by decide : -balanceBound ≤ 0), (by decide : 0 ≤ balanceBound), hlimit⟩)
    (fun h => absurd h h0)

theorem acctPay_keepsInv (a : Nat) (x : Int) (s : State) : KeepsInv s (acctPay a x s).1 :=
  checked_keepsInv fun _ => post_keepsInv ..

/-- R54: a limit is written within its range. -/
theorem acctLimit_keepsInv (a limit : Nat) (s : State) : KeepsInv s (acctLimit a limit s).1 := by
  refine checked_keepsInv fun pass => ?_
  simp only [List.forall_mem_cons, Bool.or_eq_false_iff, Bool.not_eq_false', within_iff] at pass
  obtain ⟨⟨-, -, hlimit⟩, -⟩ := pass
  have written : KeepsInv s (s.setAccount a { s.account a with limit }) :=
    .setAccount (fun ⟨lo, hi, _⟩ => ⟨lo, hi, hlimit⟩) (fun _ h => h)
  exact written.trans (evaluateAndTell_keepsInv ..)

/-- R55: account 0 is never closed. -/
theorem acctClose_keepsInv (a : Nat) (s : State) : KeepsInv s (acctClose a s).1 := by
  refine checked_keepsInv fun pass => ?_
  simp only [List.forall_mem_cons, decide_eq_false_iff_not] at pass
  obtain ⟨-, h0, -⟩ := pass
  have closed : KeepsInv s (s.setAccount a coldAccount) :=
    .setAccount (fun _ => ⟨by decide, by decide, by decide⟩) (fun h => absurd h h0)
  exact .ite (closed.trans (tellHold_keepsInv ..)) closed

theorem tariffRow_keepsInv (i : Nat) (r : TariffRow) (s t : State) (h : tariffRow i r s = .ok t) : KeepsInv s t := by
  unfold tariffRow at h
  split at h
  · cases h
    exact ⟨fun j => ⟨j.notices, j.sales, j.clock, j.accounts, j.house, j.residues⟩⟩
  · cases h

/-! ## Rollovers and the events of the clock -/

theorem extendBooking_keepsInv (d b : Nat) (s : State) : KeepsInv s (extendBooking d b s) := by
  have moved (l : List (Nat × Booking)) :
      KeepsInv s (l.foldl (fun t e => moveBooking (fun u => u.lowWaterFrom d) e.1 t) s) :=
    .foldl _ (fun s _ => moveBooking_keepsInv _ _ s) l s
  exact ((moved _).trans (setBooking_keepsInv ..)).raise _

theorem walkRecord_keepsInv (d : Nat) (moment : Stamp) (b : Nat) (w : State × WalkCounts) :
    KeepsInv w.1 (walkRecord d moment b w).1 := by
  have fee : KeepsInv w.1 (if (w.1.booking b).feeDue d then postFee b w.1 else w.1) :=
    .ite (postFee_keepsInv ..) (.refl _)
  have gone (u : State) (c : Bool) (body : NoticeBody) :
      KeepsInv u (if c then (closeBooking .noShow moment b u).raise body else u) :=
    .ite ((closeBooking_keepsInv ..).raise _) (.refl u)
  have more (u : State) (c : Bool) : KeepsInv u (if c then extendBooking d b u else u) :=
    .ite (extendBooking_keepsInv ..) (.refl u)
  exact (fee.trans (gone ..)).trans (more ..)

theorem walk_keepsInv (d : Nat) (moment : Stamp) (s : State) : KeepsInv s (walk d moment s).1 := by
  unfold walk
  generalize (⟨0, 0, 0⟩ : WalkCounts) = c
  generalize List.range bookingCount = l
  induction l generalizing s c with
  | nil => exact .refl s
  | cons b rest ih => exact (walkRecord_keepsInv d moment b (s, c)).trans (ih ..)

theorem rollOver_keepsInv (source : RolloverSource) (moment : Stamp) (d : Nat) (s : State) :
    KeepsInv s (rollOver source moment d s) := by
  have dated : KeepsInv s (purgeTides d (s.setClk { s.clk with lastRoll := d })) :=
    .andThen (.setClk (x := { s.clk with lastRoll := d }) id) ⟨rfl, rfl, rfl, rfl⟩
  unfold rollOver
  exact (dated.trans (walk_keepsInv ..)).raise _

theorem rollRun_keepsInv (source : RolloverSource) (first count : Nat) (s : State) :
    KeepsInv s (rollRun source first count s) := .foldl _ (fun s _ => rollOver_keepsInv _ _ _ s) _ _

theorem catchUpRun_keepsInv (s : State) : KeepsInv s (catchUpRun s) := by
  have begun : KeepsInv s (s.setClk { s.clk with catchUpDue := false }) := .setClk id
  exact .ite begun <| .ite (begun.trans (rollRun_keepsInv ..)) ((begun.raise _).trans (rollRun_keepsInv ..))

theorem hourRollover_keepsInv (s : State) : KeepsInv s (hourRollover s) := .ite (rollOver_keepsInv ..) (.refl s)

theorem resetSettleTimer_keepsInv (s : State) : KeepsInv s (resetSettleTimer s) := .setClk id

/-- What follows the settlement of every meter writes the clock's marks alone. -/
theorem settlementTaken_keepsInv (t : State) :
    KeepsInv t (resetSettleTimer (t.setClk { t.clk with settleDue := false })) :=
  .trans (.setClk (x := { t.clk with settleDue := false }) id) (resetSettleTimer_keepsInv _)

theorem settlementEvent_keepsInv (s : State) : KeepsInv s (settlementEvent s) := by
  have settled := (settleAllSockets_keepsInv s).trans (settleAllTaps_keepsInv _)
  unfold settlementEvent
  exact settled.trans (settlementTaken_keepsInv _)

theorem settlementInterval_keepsInv (s : State) : KeepsInv s (settlementInterval s) := by
  unfold settlementInterval
  exact .ite (settlementEvent_keepsInv s) (.refl s)

theorem bandEvent_keepsInv (s : State) : KeepsInv s (bandEvent s) := by
  have settled := settleAllSockets_keepsInv s
  unfold bandEvent
  exact settled.trans (.setClk id)

theorem bandBoundary_keepsInv (begins : Band) (s : State) : KeepsInv s (bandBoundary begins s) := by
  unfold bandBoundary
  exact .ite (bandEvent_keepsInv s) (.refl s)

/-! ## The clock and the site parameters -/

theorem setTime_keepsInv {day sec : Nat} (hd : day ≤ 65535) (hs : sec ≤ 86399) (s : State) :
    KeepsInv s (setTime day sec s) := by
  have set : KeepsInv s (s.setClk { s.clk with day, sec, frac := 0, isSet := true }) :=
    .setClk fun ⟨_, _, _, hours⟩ => ⟨hd, hs, Nat.zero_le _, hours⟩
  exact set.trans (resetSettleTimer_keepsInv _)

/-- R72 to R74: the clock is set within its range. -/
theorem clockSet_keepsInv (day sec : Nat) (s : State) : KeepsInv s (clockSet day sec s).1 := by
  unfold clockSet
  dsimp only
  split
  · exact .refl s
  · rename_i range
    simp only [Bool.or_eq_true, Bool.not_eq_true', not_or, Bool.not_eq_false, within_iff] at range
    obtain ⟨⟨-, hd⟩, -, hs⟩ := range
    split
    · have dated := (setTime_keepsInv hd hs s).trans
        (.setClk (x := { (setTime day sec s).clk with lastRoll := nightAt s.clk.rollHour day sec }) id)
      exact dated.andThen ⟨rfl, rfl, rfl, rfl⟩
    · split
      · exact .refl s
      · split
        · exact (rollRun_keepsInv ..).trans (setTime_keepsInv hd hs _)
        · split
          · exact setTime_keepsInv hd hs s
          · exact .setClk fun ⟨hd, hs, _, hours⟩ => ⟨hd, hs, Nat.zero_le _, hours⟩

theorem setRollHour_keepsInv {hour : Nat} (h : hour ≤ 23) (s : State) : KeepsInv s (setRollHour hour s) := by
  have written : KeepsInv s (s.setClk { s.clk with rollHour := hour }) :=
    .setClk fun ⟨hd, hs, hf, _, hours⟩ => ⟨hd, hs, hf, h, hours⟩
  exact .ite (written.trans (rollOver_keepsInv ..)) written

theorem setBandHours_keepsInv {day night : Nat} {s t : State} (h : setBandHours day night s = .ok t) : KeepsInv s t := by
  unfold setBandHours at h
  split at h
  · rename_i range
    simp only [Bool.and_eq_true, within_iff, decide_eq_true_eq] at range
    obtain ⟨⟨⟨-, hday⟩, -, hnight⟩, hne⟩ := range
    cases h
    exact .setClk fun ⟨hd, hs, hf, hr, _, _, _, hi⟩ => ⟨hd, hs, hf, hr, hday, hnight, hne, hi⟩
  · cases h

theorem siteItem_keepsInv (i : Nat) (r : SiteItem) (s t : State) (h : siteItem i r s = .ok t) : KeepsInv s t := by
  unfold siteItem at h
  dsimp only at h
  split at h
  all_goals try (split at h <;> [skip; cases h])
  · cases h
    exact .of_apart ⟨rfl, rfl, rfl, rfl⟩
  · cases h
    exact .of_apart ⟨rfl, rfl, rfl, rfl⟩
  · cases h
    exact .of_apart ⟨rfl, rfl, rfl, rfl⟩
  · rename_i range
    simp only [withinInt, Bool.and_eq_true, decide_eq_true_eq] at range
    cases h
    exact setRollHour_keepsInv (by omega) s
  · rename_i range
    simp only [Bool.and_eq_true, List.contains_iff_mem] at range
    obtain ⟨-, listed⟩ := range
    cases h
    refine KeepsInv.trans (.setClk ?_) (resetSettleTimer_keepsInv _)
    exact fun ⟨hd, hs, hf, hr, hday, hnight, hne, _⟩ => ⟨hd, hs, hf, hr, hday, hnight, hne, listed⟩
  · exact setBandHours_keepsInv h
  · exact setBandHours_keepsInv h
  · exact setBandHours_keepsInv h
  · cases h
    exact .of_apart ⟨rfl, rfl, rfl, rfl⟩
  · cases h

theorem siteGet_keepsInv (params : List Nat) (s : State) : KeepsInv s (siteGet params s).1 := by
  unfold siteGet
  split
  · exact .refl s
  · split <;> exact .refl s

/-! ## Rows of the line and the feeders -/

theorem pedestalRow_keepsInv (a : Nat) (r : PedestalRow) (s t : State) (h : pedestalRow a r s = .ok t) :
    KeepsInv s t := by
  unfold pedestalRow at h
  dsimp only at h
  split at h
  · cases h
  split at h
  · cases h
  cases h
  have written : KeepsInv s (s.setPedestal a ⟨r.configured, r.feeder⟩) := .of_apart ⟨rfl, rfl, rfl, rfl⟩
  have left : KeepsInv s
      (if (s.pedestal a).configured && !r.configured then unconfigure a (s.setPedestal a ⟨r.configured, r.feeder⟩)
        else s.setPedestal a ⟨r.configured, r.feeder⟩) := .ite (written.trans (unconfigure_keepsInv ..)) written
  exact .ite (left.andThen (beginScan_apart _)) left

/-- R67, R99: what an accepted row of a socket leaves. -/
def socketWritten (i : Nat) (r : SocketRow) (s : State) : State :=
  let old := s.socketCfg i
  let settled := if r.berth ≠ old.berth ∨ r.tariff ≠ old.tariff then settleSocket i s else s
  let written := settled.setSocketCfg i ⟨r.berth, r.rating, r.cls, r.tariff⟩
  socketChanged i old.rating (if r.tariff ≠ old.tariff then zeroSocketResidue i written else written)

theorem socketRow_ok {i : Nat} {r : SocketRow} {s t : State} (h : socketRow i r s = .ok t) : t = socketWritten i r s := by
  unfold socketRow at h
  dsimp only at h
  obtain ⟨-, h⟩ := ok_of_ite h
  obtain ⟨-, h⟩ := ok_of_ite h
  obtain ⟨-, h⟩ := ok_of_ite h
  cases h
  rfl

theorem socketRow_keepsInv (i : Nat) (r : SocketRow) (s t : State) (h : socketRow i r s = .ok t) : KeepsInv s t := by
  rw [socketRow_ok h]
  have settled : KeepsInv s
      (if r.berth ≠ (s.socketCfg i).berth ∨ r.tariff ≠ (s.socketCfg i).tariff then settleSocket i s else s) :=
    .ite (settleSocket_keepsInv i s) (.refl s)
  have written := settled.andThen (u := State.setSocketCfg _ i ⟨r.berth, r.rating, r.cls, r.tariff⟩) ⟨rfl, rfl, rfl, rfl⟩
  refine KeepsInv.trans (.ite (written.trans ?_) written) (socketChanged_keepsInv ..)
  exact .setSocketAcct (Nat.zero_lt_succ 999)

/-- R67, R100: what an accepted row of a tap leaves. -/
def tapWritten (i : Nat) (r : TapRow) (s : State) : State :=
  let old := s.tapCfg i
  let closed := if r.berth ≠ old.berth then closeTap i .host s else s
  let settled := if r.berth ≠ old.berth ∨ r.tariff ≠ old.tariff then settleTap i closed else closed
  let written := settled.setTapCfg i ⟨r.berth, r.tariff, r.runLimit⟩
  if r.tariff ≠ old.tariff then written.setTapResidue i 0 else written

theorem tapRow_ok {i : Nat} {r : TapRow} {s t : State} (h : tapRow i r s = .ok t) : t = tapWritten i r s := by
  unfold tapRow at h
  dsimp only at h
  obtain ⟨-, h⟩ := ok_of_ite h
  obtain ⟨-, h⟩ := ok_of_ite h
  cases h
  rfl

theorem tapRow_keepsInv (i : Nat) (r : TapRow) (s t : State) (h : tapRow i r s = .ok t) : KeepsInv s t := by
  rw [tapRow_ok h]
  have closed : KeepsInv s (if r.berth ≠ (s.tapCfg i).berth then closeTap i .host s else s) :=
    .ite (closeTap_keepsInv ..) (.refl s)
  have settled := closed.trans (.ite (c := r.berth ≠ (s.tapCfg i).berth ∨ r.tariff ≠ (s.tapCfg i).tariff)
    (settleTap_keepsInv i _) (.refl _))
  have written := settled.andThen (u := State.setTapCfg _ i ⟨r.berth, r.tariff, r.runLimit⟩) ⟨rfl, rfl, rfl, rfl⟩
  exact .ite (written.trans (.setTapResidue (by decide))) written

theorem tapClose_keepsInv (n : Nat) (s : State) : KeepsInv s (tapClose n s).1 := by
  unfold tapClose
  split
  · exact closeTap_keepsInv ..
  · exact .refl s

theorem feederRow_keepsInv (i : Nat) (r : FeederRow) (s t : State) (h : feederRow i r s = .ok t) : KeepsInv s t := by
  unfold feederRow at h
  split at h
  · cases h
  dsimp only at h
  obtain ⟨-, h⟩ := ok_of_ite h
  obtain ⟨-, h⟩ := ok_of_ite h
  split at h
  · rw [← Except.ok.inj h]
    exact .refl s
  · rw [← Except.ok.inj h]
    refine KeepsInv.trans ?_ (grantSearch_keepsInv ..)
    exact (shedToLimit_keepsInv ..).after ⟨rfl, rfl, rfl, rfl⟩

theorem feederBottom_keepsInv (f cls n : Nat) (s : State) : KeepsInv s (feederBottom f cls n s).1 := by
  unfold feederBottom
  split
  · exact .of_apart ⟨rfl, rfl, rfl, rfl⟩
  · exact .refl s

theorem feederPoll_keepsInv (f : Nat) (s : State) : KeepsInv s (feederPoll f s).1 := by
  unfold feederPoll
  split <;> exact .refl s

theorem feederShed_keepsInv (f count : Nat) (s : State) : KeepsInv s (feederShed f count s).1 := by
  unfold feederShed
  split
  · exact .foldl _ (fun s n => shed_keepsInv n _ _ s) _ _
  · exact .refl s

theorem socketRelease_keepsInv (n : Nat) (s : State) : KeepsInv s (socketRelease n s).1 :=
  checked_keepsInv fun _ => shed_keepsInv ..

theorem socketLock_keepsInv (n : Nat) (s : State) : KeepsInv s (socketLock n s).1 := by
  unfold socketLock
  split
  · exact lockSocket_keepsInv n s
  · exact .refl s

theorem socketUnlock_keepsInv (n : Nat) (s : State) : KeepsInv s (socketUnlock n s).1 :=
  checked_keepsInv fun _ => (reevaluateAsIdle_keepsInv n s).trans (grantSearch_keepsInv ..)

theorem socketRearm_keepsInv (n : Nat) (s : State) : KeepsInv s (socketRearm n s).1 :=
  checked_keepsInv fun _ => reevaluateAsIdle_keepsInv n s

end Sys2Proof.Machine
end

section
/-! SUPPORT. What every step keeps (O59): the operations of the fuel dock and of the gates. -/

namespace Sys2Proof.Machine

/-! ## The fuel dock -/

theorem enterHose_apart (h : Nat) (state : HoseState) (sale auth flow : Option Nat) (s : State) :
    Apart s (enterHose h state sale auth flow s) := ⟨rfl, rfl, rfl, rfl⟩

theorem enterHose_keepsInv (h : Nat) (state : HoseState) (sale auth flow : Option Nat) (s : State) :
    KeepsInv s (enterHose h state sale auth flow s) := .of_apart (enterHose_apart ..)

/-- A change of a record leaves the queue as long as it was. -/
theorem updateSale_keepsInv (number : Nat) (f : Sale → Sale) (s : State) : KeepsInv s (updateSale number f s) :=
  .setFdc (x := (updateSale number f s).fdc) fun h => by
    have same : (updateSale number f s).fdc.sales.length = s.fdc.sales.length := List.length_map ..
    rwa [same]

theorem enterFuelling_keepsInv (h : Nat) (x : Sale) (s : State) : KeepsInv s (enterFuelling h x s) :=
  .ite ((enterHose_keepsInv ..).trans (updateSale_keepsInv ..)) (enterHose_keepsInv ..)

/-- An account's earmark is out of the invariant's reach. -/
theorem setEarmark_keepsInv (a earmark : Nat) (s : State) :
    KeepsInv s (s.setAccount a { s.account a with earmark }) := .setAccount id fun _ h => h

theorem handToAcu_keepsInv (x : Sale) (charged : Nat) (s : State) : KeepsInv s (handToAcu x charged s) := by
  unfold handToAcu
  split
  · exact (setEarmark_keepsInv ..).trans (post_keepsInv ..)
  · exact post_keepsInv ..
  · exact .refl s

theorem closeSale_keepsInv (x : Sale) (reason : EndReason) (s : State) : KeepsInv s (closeSale x reason s) :=
  (handToAcu_keepsInv ..).trans (updateSale_keepsInv ..)

theorem endSale_keepsInv (h : Nat) (state : HoseState) (reason : EndReason) (s : State) :
    KeepsInv s (endSale h state reason s) := by
  unfold endSale
  split
  · exact enterHose_keepsInv ..
  · exact ((closeSale_keepsInv ..).trans (enterHose_keepsInv ..)).raise _

theorem addEarmark_keepsInv (x : Sale) (s : State) : KeepsInv s (addEarmark x s) := by
  unfold addEarmark
  split
  · exact setEarmark_keepsInv ..
  · exact .refl s

/-- R58 touches no record. -/
theorem addEarmark_fdc (x : Sale) (s : State) : (addEarmark x s).fdc = s.fdc := by
  unfold addEarmark
  split <;> rfl

/-- R137, R143: a sale is opened while the queue has room for it. -/
theorem authorise_keepsInv (a : Auth) {s : State} (room : s.fdc.sales.length < 16) : KeepsInv s (authorise a s) := by
  have recorded : KeepsInv s
      { addEarmark (newSale a s) s with
        fdc := { (addEarmark (newSale a s) s).fdc with
          sales := (addEarmark (newSale a s) s).fdc.sales ++ [newSale a s]
          nextSale := nextNumber (addEarmark (newSale a s) s).fdc.nextSale } } := by
    refine (addEarmark_keepsInv (newSale a s) s).trans (.setFdc fun _ => ?_)
    rw [addEarmark_fdc]
    simpa using Nat.succ_le_of_lt room
  exact .ite (recorded.trans (enterFuelling_keepsInv ..)) (recorded.trans (enterHose_keepsInv ..))

/-- R141 check 4: an authorisation that no check refuses finds room in the queue. -/
theorem room_of_authChecks {a : Auth} {closed : Bool} {s : State} (pass : ∀ c ∈ authChecks a closed s, c.1 = false) :
    s.fdc.sales.length < 16 := by
  have full := pass (decide (16 ≤ s.fdc.sales.length), .full) (by simp [authChecks])
  simpa using full

theorem hoseAuth_keepsInv (r : AuthRequest) (s : State) : KeepsInv s (hoseAuth r s).1 := by
  unfold hoseAuth
  split
  · exact .refl s
  · split
    · refine checked_keepsInv fun pass => ?_
      exact authorise_keepsInv _ (room_of_authChecks fun c hc => pass c (List.mem_cons_of_mem _ hc))
    · exact .refl s

theorem touchCred_keepsInv (c : Nat) (s : State) : KeepsInv s (touchCred c s) :=
  .ite (.refl s) (.of_apart ⟨rfl, rfl, rfl, rfl⟩)

theorem lampRed_keepsInv (s : State) : KeepsInv s (lampRed s) := .of_apart ⟨rfl, rfl, rfl, rfl⟩

theorem lampGreen_keepsInv (s : State) : KeepsInv s (lampGreen s) := .of_apart ⟨rfl, rfl, rfl, rfl⟩

theorem endOffer_keepsInv (s : State) : KeepsInv s (endOffer s) := .of_apart ⟨rfl, rfl, rfl, rfl⟩

/-- R145: an offer that no check refuses has passed those of an authorisation. -/
theorem authChecks_of_offerRefused {o : Offer} {s : State} (h : s.offerRefused o = none) :
    ∀ c ∈ authChecks (offerAuth o s) (decide (s.fdc.cap = 0)) s, c.1 = false := by
  unfold State.offerRefused at h
  split at h
  · cases h
  · exact fun c hc => firstFailing_none h c (List.mem_cons_of_mem _ hc)

theorem selfServeOffer_keepsInv (s : State) : KeepsInv s (selfServeOffer s) := by
  unfold selfServeOffer
  split
  · exact .refl s
  · rename_i o _
    split
    · exact ((endOffer_keepsInv s).trans (lampRed_keepsInv _)).raise _
    · rename_i accepted
      have opened := authorise_keepsInv (offerAuth o s) (room_of_authChecks (authChecks_of_offerRefused accepted))
      exact (((opened.trans (touchCred_keepsInv ..)).trans (endOffer_keepsInv _)).trans (lampGreen_keepsInv _)).raise _

theorem keepNozzle_keepsInv (h : Nat) (lifted : Bool) (s : State) : KeepsInv s (keepNozzle h lifted s) :=
  .of_apart ⟨rfl, rfl, rfl, rfl⟩

theorem nozzleLift_keepsInv (h : Nat) (s : State) : KeepsInv s (nozzleLift h s) := by
  have read := keepNozzle_keepsInv h true s
  unfold nozzleLift
  dsimp only
  split
  · exact (read.trans (enterHose_keepsInv ..)).raise _
  · split
    · exact read.trans (enterFuelling_keepsInv ..)
    · exact read
  all_goals exact read

theorem nozzleHang_keepsInv (h : Nat) (s : State) : KeepsInv s (nozzleHang h s) := by
  have read := keepNozzle_keepsInv h false s
  unfold nozzleHang
  dsimp only
  split
  · exact read.trans (enterHose_keepsInv ..)
  · exact read.trans (enterHose_keepsInv ..)
  · exact read.trans (endSale_keepsInv ..)
  · exact read.trans (endSale_keepsInv ..)
  · exact read.trans (endSale_keepsInv ..)
  all_goals exact read

theorem strayPulse_keepsInv (h : Nat) (s : State) : KeepsInv s (strayPulse h s) := by
  have counted : KeepsInv s (s.setHose h
      { s.hose h with stray := min ((s.hose h).stray + 1) 65535, strayReported := true }) := .of_apart ⟨rfl, rfl, rfl, rfl⟩
  exact .ite counted (counted.raise _)

theorem salePulse_keepsInv (h : Nat) (x : Sale) (s : State) : KeepsInv s (salePulse h x s) := by
  unfold salePulse
  dsimp only
  split
  · exact (updateSale_keepsInv ..).andThen ⟨rfl, rfl, rfl, rfl⟩
  · have moved (state : HoseState) (f : Sale → Sale) := (updateSale_keepsInv x.number f s).trans
      (enterHose_keepsInv h state (s.hose h).sale none (some s.uptime) _)
    exact .ite ((moved ..).trans (updateSale_keepsInv ..)) (moved ..)

theorem pulse_keepsInv (h : Nat) (s : State) : KeepsInv s (pulse h s) := by
  have taken : KeepsInv s (match s.hoseSale h with | some x => salePulse h x s | none => strayPulse h s) := by
    split
    · exact salePulse_keepsInv ..
    · exact strayPulse_keepsInv ..
  unfold pulse
  split
  · exact taken
  · exact taken
  · exact taken
  all_goals exact strayPulse_keepsInv ..

theorem authTimeout_keepsInv (h : Nat) (s : State) : KeepsInv s (authTimeout h s) :=
  .ite (endSale_keepsInv ..) (.refl s)

theorem closeHose_keepsInv (h : Nat) (reason : EndReason) (s : State) : KeepsInv s (closeHose h reason s) := by
  unfold closeHose
  dsimp only
  split
  · exact (enterHose_keepsInv ..).trans (updateSale_keepsInv ..)
  · exact enterHose_keepsInv ..

theorem noFlow_keepsInv (h : Nat) (s : State) : KeepsInv s (noFlow h s) := by
  unfold noFlow
  split
  · exact closeHose_keepsInv ..
  · exact closeHose_keepsInv ..
  · exact endSale_keepsInv ..
  all_goals exact .refl s

theorem powerSale_keepsInv (x : Sale) (s : State) : KeepsInv s (powerSale x s) := (handToAcu_keepsInv ..).raise _

theorem startHoseNow_apart (h : Nat) (s : State) : Apart s (startHoseNow h s) := ⟨rfl, rfl, rfl, rfl⟩

theorem startHoses_keepsInv (l : List Nat) (s : State) : KeepsInv s (l.foldl (fun u h => startHoseNow h u) s) :=
  .foldl _ (fun _ _ => .of_apart (startHoseNow_apart ..)) l s

theorem fdcStart_keepsInv (s : State) : KeepsInv s (fdcStart s) where
  inv i := by
    have charged : KeepsInv s ((s.fdc.sales.filter fun x => !x.done).foldl (fun t x => powerSale x t) s) :=
      .foldl _ (fun s x => powerSale_keepsInv x s) _ s
    have recorded := charged.trans (.setFdc
      (x := { (((s.fdc.sales.filter fun x => !x.done).foldl (fun t x => powerSale x t) s)).fdc with
        sales := s.fdc.sales.map fun x => if x.done then x else finished x .power s.now })
      fun _ => by simpa using i.sales)
    have ready (u : State) : KeepsInv u { u with fdc := { u.fdc with ready := true } } := .of_apart ⟨rfl, rfl, rfl, rfl⟩
    exact ((recorded.trans (startHoses_keepsInv [1, 2, 3, 4] _)).trans (ready _)).inv i

theorem hoseRow_keepsInv (i : Nat) (r : HoseRow) (s t : State) (h : hoseRow i r s = .ok t) : KeepsInv s t := by
  unfold hoseRow at h
  obtain ⟨-, h⟩ := ok_of_ite h
  obtain ⟨-, h⟩ := ok_of_ite h
  obtain ⟨-, h⟩ := ok_of_ite h
  cases h
  exact .of_apart ⟨rfl, rfl, rfl, rfl⟩

theorem hoseStop_keepsInv (h : Nat) (s : State) : KeepsInv s (hoseStop h s).1 := by
  unfold hoseStop
  split
  · exact .refl s
  split
  · exact .refl s
  dsimp only
  split
  · exact endSale_keepsInv ..
  · exact closeHose_keepsInv ..
  · exact closeHose_keepsInv ..
  · exact endSale_keepsInv ..
  all_goals exact .refl s

theorem priceRow_keepsInv (i price : Nat) (s t : State) (h : priceRow i price s = .ok t) : KeepsInv s t := by
  unfold priceRow at h
  split at h
  · cases h
    exact .of_apart ⟨rfl, rfl, rfl, rfl⟩
  · cases h

theorem salePeek_keepsInv (number : Option Nat) (s : State) : KeepsInv s (salePeek number s).1 := by
  unfold salePeek
  split
  · exact .refl s
  · split
    · exact .refl s
    · split <;> exact .refl s

/-- R140: a record leaves the queue. -/
theorem removeSale_keepsInv (number : Nat) (s : State) : KeepsInv s (removeSale number s) :=
  .setFdc (x := (removeSale number s).fdc) fun h => (List.length_filter_le ..).trans h

theorem saleTake_keepsInv (number : Option Nat) (s : State) : KeepsInv s (saleTake number s).1 := by
  unfold saleTake
  split
  · split
    · exact .refl s
    · exact removeSale_keepsInv ..
  · split
    · exact .refl s
    split
    · exact .refl s
    split
    · exact removeSale_keepsInv ..
    · exact .refl s

/-! ## Doors -/

theorem releaseDoor_keepsInv (g : Nat) (cred : Option Nat) (dir : Direction) (passback : Bool) (s : State) :
    KeepsInv s (releaseDoor g cred dir passback s) := .of_apart ⟨rfl, rfl, rfl, rfl⟩

theorem settleDoor_keepsInv (g : Nat) (door : DoorState) (s : State) : KeepsInv s (settleDoor g door s) :=
  .of_apart ⟨rfl, rfl, rfl, rfl⟩

theorem setGate_keepsInv (g : Nat) (x : Gate) (s : State) : KeepsInv s (s.setGate g x) := .of_apart ⟨rfl, rfl, rfl, rfl⟩

theorem setTerminal_keepsInv (n : Nat) (x : Terminal) (s : State) : KeepsInv s (s.setTerminal n x) :=
  .of_apart ⟨rfl, rfl, rfl, rfl⟩

theorem setFuel_keepsInv (x : FuelTerminal) (s : State) : KeepsInv s (s.setFuel x) := .of_apart ⟨rfl, rfl, rfl, rfl⟩

theorem setCred_keepsInv (c : Nat) (x : Cred) (s : State) : KeepsInv s (s.setCred c x) := .of_apart ⟨rfl, rfl, rfl, rfl⟩

theorem writeLocation_keepsInv (cred : Option Nat) (dir : Direction) (s : State) :
    KeepsInv s (writeLocation cred dir s) := by
  unfold writeLocation
  split
  · exact .refl s
  · refine .ite (.refl s) ?_
    split
    · exact setCred_keepsInv ..
    · exact setCred_keepsInv ..
    · exact .refl s

theorem requestArrival_keepsInv (g : Nat) (cred : Option Nat) (dir : Direction) (s : State) :
    KeepsInv s (requestArrival g cred dir s) := by
  unfold requestArrival
  split
  · exact .refl s
  · split
    · exact .refl s
    · exact .ite (.of_apart ⟨rfl, rfl, rfl, rfl⟩) (.refl s)

theorem passage_keepsInv (g : Nat) (s : State) : KeepsInv s (passage g s) :=
  (((setGate_keepsInv ..).trans (writeLocation_keepsInv ..)).raise _).trans (requestArrival_keepsInv ..)

theorem doorOpens_keepsInv (g : Nat) (s : State) : KeepsInv s (doorOpens g s) := by
  have read : KeepsInv s (keepContact g true s) := setGate_keepsInv ..
  unfold doorOpens
  refine .ite ((read.trans (settleDoor_keepsInv ..)).raise _) ?_
  split
  · exact (read.trans (settleDoor_keepsInv ..)).raise _
  · exact read.trans (passage_keepsInv ..)
  all_goals exact read

theorem doorCloses_keepsInv (g : Nat) (s : State) : KeepsInv s (doorCloses g s) := by
  have read : KeepsInv s (keepContact g false s) := setGate_keepsInv ..
  unfold doorCloses
  dsimp only
  split
  · exact read.trans (settleDoor_keepsInv ..)
  · exact (read.trans (settleDoor_keepsInv ..)).raise _
  · exact (read.trans (settleDoor_keepsInv ..)).raise _
  all_goals exact read

theorem releaseTimeout_keepsInv (g : Nat) (s : State) : KeepsInv s (releaseTimeout g s) :=
  .ite (settleDoor_keepsInv ..) (.refl s)

theorem heldTimeout_keepsInv (g : Nat) (s : State) : KeepsInv s (heldTimeout g s) :=
  .ite ((setGate_keepsInv ..).raise _) (.refl s)

theorem exitButton_keepsInv (g : Nat) (s : State) : KeepsInv s (exitButton g s) :=
  .ite (releaseDoor_keepsInv ..) (.refl s)

theorem changeMode_keepsInv (g : Nat) (old new : GateMode) (s : State) : KeepsInv s (changeMode g old new s) := by
  unfold changeMode
  refine .ite (.refl s) (.ite ?_ (.ite (.ite ?_ (settleDoor_keepsInv ..)) (.refl s)))
  · dsimp only
    split
    · exact (settleDoor_keepsInv ..).raise _
    · exact (settleDoor_keepsInv ..).raise _
    all_goals exact settleDoor_keepsInv ..
  · exact (settleDoor_keepsInv ..).trans (setGate_keepsInv ..)

/-! ## Presentations -/

theorem grantEntry_keepsInv (g c : Nat) (s : State) : KeepsInv s (grantEntry g c s) :=
  (releaseDoor_keepsInv ..).trans (touchCred_keepsInv ..)

theorem present_keepsInv (g c : Nat) (reader : Reader) (s : State) : KeepsInv s (present g c reader s) := by
  unfold present
  refine .ite (.refl s) ?_
  split
  · exact (KeepsInv.refl s).raise _
  · exact grantEntry_keepsInv ..

theorem clearBuffer_keepsInv (n : Nat) (s : State) : KeepsInv s (clearBuffer n s) := setTerminal_keepsInv ..

theorem lockOut_keepsInv (n : Nat) (s : State) : KeepsInv s (lockOut n s) :=
  ((dropCard_keepsInv n s).trans (clearBuffer_keepsInv ..)).trans (setTerminal_keepsInv ..)

theorem failSubmission_keepsInv (n : Nat) (s : State) : KeepsInv s (failSubmission n s).1 := by
  unfold failSubmission
  dsimp only
  split
  · exact lockOut_keepsInv n s
  · exact setTerminal_keepsInv ..

theorem refuseSubmission_keepsInv (n : Nat) (reader : Reader) (c : Option Nat) (s : State) :
    KeepsInv s (refuseSubmission n reader c s) := (failSubmission_keepsInv n s).raise _

theorem clearFailures_keepsInv (n : Nat) (s : State) : KeepsInv s (clearFailures n s) := setTerminal_keepsInv ..

theorem submitAtGate_keepsInv (g : Nat) (pin : List Nat) (s : State) : KeepsInv s (submitAtGate g pin s) := by
  unfold submitAtGate
  split
  · exact .ite (((dropCard_keepsInv ..).trans (clearFailures_keepsInv ..)).trans (present_keepsInv ..))
      ((dropCard_keepsInv ..).trans (refuseSubmission_keepsInv ..))
  · split
    · exact (clearFailures_keepsInv ..).trans (present_keepsInv ..)
    · exact refuseSubmission_keepsInv ..

theorem makeOffer_keepsInv (c : PendingCard) (h : Nat) (s : State) : KeepsInv s (makeOffer c h s) :=
  (dropCard_keepsInv 7 s).trans (setFuel_keepsInv ..)

theorem submitPin_keepsInv (c : PendingCard) (pin : List Nat) (s : State) : KeepsInv s (submitPin c pin s) :=
  .ite (((clearFailures_keepsInv 7 s).trans (setTerminal_keepsInv ..)).trans (setFuel_keepsInv ..))
    (((dropCard_keepsInv 7 s).trans (refuseSubmission_keepsInv ..)).trans (lampRed_keepsInv _))

theorem submitAtDock_keepsInv (digits : List Nat) (s : State) : KeepsInv s (submitAtDock digits s) := by
  unfold submitAtDock
  split
  · exact submitPin_keepsInv ..
  · split
    · exact makeOffer_keepsInv ..
    · exact .refl s
  · exact .refl s

theorem submit_keepsInv (n : Nat) (s : State) : KeepsInv s (submit n s) :=
  .ite (.refl s) <| .ite ((clearBuffer_keepsInv n s).trans (submitAtDock_keepsInv ..))
    ((clearBuffer_keepsInv n s).trans (submitAtGate_keepsInv ..))

theorem takeKey_keepsInv (n key : Nat) (s : State) : KeepsInv s (takeKey n key s) :=
  .ite (.refl s) <| .ite (.refl s) <| .ite (setTerminal_keepsInv ..) <|
    .ite ((dropCard_keepsInv n s).trans (clearBuffer_keepsInv ..)) (submit_keepsInv n s)

theorem keyEvent_keepsInv (n key : Nat) (s : State) : KeepsInv s (keyEvent n key s) :=
  (takeKey_keepsInv n key (forgetKey n key s)).after ⟨rfl, rfl, rfl, rfl⟩

theorem interKeyTimeout_keepsInv (n : Nat) (s : State) : KeepsInv s (interKeyTimeout n s) :=
  .ite (clearBuffer_keepsInv ..) (.refl s)

theorem fullScan_keepsInv (n : Nat) (r : KeyReading) (s : State) : KeepsInv s (fullScan n r s) := by
  unfold fullScan
  dsimp only
  split <;> exact .of_apart ⟨rfl, rfl, rfl, rfl⟩

/-! ## Card reads -/

theorem holdCard_keepsInv (n c : Nat) (s : State) : KeepsInv s (holdCard n c s) := setTerminal_keepsInv ..

theorem entryRead_keepsInv (g token : Nat) (s : State) : KeepsInv s (entryRead g token s) := by
  unfold entryRead
  split
  · exact (KeepsInv.refl s).raise _
  · exact .ite (present_keepsInv ..) <| .ite ((KeepsInv.refl s).raise _) (holdCard_keepsInv ..)

theorem exitRead_keepsInv (g token : Nat) (s : State) : KeepsInv s (exitRead g token s) := by
  unfold exitRead
  refine .ite (.refl s) (.ite ((KeepsInv.refl s).raise _) ?_)
  split
  · exact (KeepsInv.refl s).raise _
  · exact .ite ((KeepsInv.refl s).raise _) ((releaseDoor_keepsInv ..).trans (touchCred_keepsInv ..))

theorem refuseDock_keepsInv (c : Option Nat) (reason : GateRefusal) (s : State) : KeepsInv s (refuseDock c reason s) :=
  ((KeepsInv.refl s).raise _).trans (lampRed_keepsInv _)

theorem dockRead_keepsInv (token : Nat) (s : State) : KeepsInv s (dockRead token s) := by
  have dropped := dropCard_keepsInv 7 s
  unfold dockRead
  refine .ite (refuseDock_keepsInv ..) ?_
  dsimp only
  split
  · exact dropped.trans (refuseDock_keepsInv ..)
  · split
    · exact dropped.trans (refuseDock_keepsInv ..)
    · exact (dropped.trans (holdCard_keepsInv ..)).trans (setFuel_keepsInv ..)

theorem cardRead_keepsInv (n : Nat) (exitReader : Bool) (token : Nat) (s : State) :
    KeepsInv s (cardRead n exitReader token s) :=
  have cleared := clearBuffer_keepsInv n s
  .ite ((clearBuffer_keepsInv 7 s).trans (dockRead_keepsInv ..)) <| .ite (.refl s) <| .ite cleared <|
    .ite (cleared.trans (exitRead_keepsInv ..)) (cleared.trans (entryRead_keepsInv ..))

theorem cardWindowExpiry_keepsInv (g : Nat) (s : State) : KeepsInv s (cardWindowExpiry g s) :=
  .ite ((dropCard_keepsInv g s).trans (clearBuffer_keepsInv ..)) (.refl s)

theorem fuelWindowExpiry_keepsInv (s : State) : KeepsInv s (fuelWindowExpiry s) :=
  .ite (.refl s) ((dropCard_keepsInv 7 s).trans (clearBuffer_keepsInv ..))

theorem startGateNow_keepsInv (g : Nat) (s : State) : KeepsInv s (startGateNow g s) :=
  .ite ((setGate_keepsInv ..).trans (doorOpens_keepsInv ..)) (setGate_keepsInv ..)

/-! ## Requests on credentials and gates -/

theorem credRow_keepsInv (i : Nat) (r : CredRow) (s t : State) (h : credRow i r s = .ok t) : KeepsInv s t := by
  unfold credRow at h
  split at h
  · dsimp only at h
    obtain ⟨-, h⟩ := ok_of_ite h
    obtain ⟨-, h⟩ := ok_of_ite h
    obtain ⟨-, h⟩ := ok_of_ite h
    obtain ⟨-, h⟩ := ok_of_ite h
    rw [← Except.ok.inj h]
    exact (KeepsInv.of_gatesOnly (endCredUse_credUsesOnly i s).gatesOnly).trans (setCred_keepsInv ..)
  · cases h

theorem credGet_keepsInv (q : CredQuery) (s : State) : KeepsInv s (credGet q s).1 := by
  unfold credGet
  split
  · exact getRecords_keepsInv ..
  · split <;> exact .refl s

theorem credSuspend_keepsInv (c : Nat) (s : State) : KeepsInv s (credSuspend c s).1 :=
  checked_keepsInv fun _ => setCred_keepsInv ..

theorem credResume_keepsInv (c : Nat) (s : State) : KeepsInv s (credResume c s).1 :=
  checked_keepsInv fun _ => setCred_keepsInv ..

theorem credFree_keepsInv (c : Nat) (s : State) : KeepsInv s (credFree c s).1 :=
  checked_keepsInv fun _ => .ite (.refl s) (.of_gatesOnly (freeCred_gatesOnly c s))

theorem gateRow_keepsInv (i : Nat) (r : GateRow) (s t : State) (h : gateRow i r s = .ok t) : KeepsInv s t := by
  unfold gateRow at h
  split at h
  · split at h
    · cases h
      exact .of_apart ⟨rfl, rfl, rfl, rfl⟩
    · cases h
  · cases h

theorem gateMode_keepsInv (g mode : Nat) (s : State) : KeepsInv s (gateMode g mode s).1 := by
  unfold gateMode
  split
  · split
    · exact (changeMode_keepsInv ..).after ⟨rfl, rfl, rfl, rfl⟩
    · exact .refl s
  · exact .refl s

theorem gatePulse_keepsInv (g : Nat) (s : State) : KeepsInv s (gatePulse g s).1 :=
  checked_keepsInv fun _ => releaseDoor_keepsInv ..

end Sys2Proof.Machine
end

section
/-! SUPPORT. What every step keeps (O59): the host link, the starts, the passing of time, and every command. -/

namespace Sys2Proof.Machine

/-! ## The host link -/

/-- R196: a notice that begins to leave makes the queue no longer. -/
theorem sendNotice_notices (h : Hlc) : (sendNotice h).notices.length ≤ h.notices.length := by
  unfold sendNotice
  split
  · exact le_rfl
  · rename_i hn
    simp [hn]

theorem chooseFrame_notices (h : Hlc) : (chooseFrame h).notices.length ≤ h.notices.length := by
  unfold chooseFrame
  split
  · split
    · exact le_rfl
    · exact sendNotice_notices h
  · split
    · exact le_rfl
    · exact sendNotice_notices h

theorem pump_keepsInv (s : State) : KeepsInv s (pump s) :=
  .ite (.setHlc (chooseFrame_notices s.hlc).trans) (.refl s)

theorem takeRequest_keepsInv {o : State → State × Answer} (h : ∀ s, KeepsInv s (o s).1) (kind tag : Nat) (s : State) :
    KeepsInv s (takeRequest kind tag o s) := (h s).trans (.setHlc id)

theorem event_keepsInv {f : State → State} (h : ∀ s, KeepsInv s (f s)) (s : State) : KeepsInv s (event f s) :=
  .ite ((h s).trans (pump_keepsInv _)) (.refl s)

theorem joinWaiting_keepsInv (f : Frame) (s : State) : KeepsInv s (joinWaiting f s) := .ite (.setHlc id) (.refl s)

theorem request_keepsInv {o : State → State × Answer} (h : ∀ s, KeepsInv s (o s).1) (i : Instr) (s : State) :
    KeepsInv s (request i o s) := by
  unfold request
  split
  · exact .refl s
  · exact event_keepsInv (fun s => .ite (takeRequest_keepsInv h ..) (joinWaiting_keepsInv ..)) s

/-- R188: a byte moves the reception alone. -/
theorem receiveByte_notices (b : Byte) (h : Hlc) : (receiveByte b h).1.notices = h.notices := by
  unfold receiveByte
  dsimp only
  split
  · split <;> rfl
  · split
    · rfl
    · split <;> rfl
  · rfl
  · split
    · rfl
    · split <;> rfl

theorem receiveAll_notices (fuel : Nat) (l : List Byte) (h : Hlc) : (receiveAll fuel l h).notices = h.notices := by
  induction fuel generalizing l h with
  | zero => rfl
  | succ fuel ih =>
    cases l with
    | nil => rfl
    | cons b rest =>
      rw [receiveAll]
      exact (ih ..).trans (receiveByte_notices b h)

theorem hostByte_notices (b : Byte) (stopError : Bool) (h : Hlc) : (hostByte b stopError h).notices = h.notices := by
  unfold hostByte
  split
  · rfl
  · split
    · rfl
    · exact receiveAll_notices ..

theorem frameSent_notices (h : Hlc) : (frameSent h).notices = h.notices := by
  unfold frameSent
  split <;> rfl

/-- A write of the link that leaves the notices. -/
theorem setHlc_keepsInv {s : State} {x : Hlc} (h : x.notices = s.hlc.notices) : KeepsInv s (s.setHlc x) :=
  .setHlc fun hn => h ▸ hn

/-! ## The owners of the requests -/

theorem owner_keepsInv {i : Instr} {o : State → State × Answer} (h : owner i = some o) (s : State) :
    KeepsInv s (o s).1 := by
  cases i with
  | requestUnknownKind => cases h; exact .refl s
  | status => cases h; exact .refl s
  | restart => cases h; exact .setHlc id
  | sitePut => cases h; exact multiPut_keepsInv siteItem_keepsInv ..
  | siteGet => cases h; exact siteGet_keepsInv ..
  | clockSet => cases h; exact clockSet_keepsInv ..
  | clockGet => cases h; exact .refl s
  | berthPut => cases h; exact multiPut_keepsInv berthRow_keepsInv ..
  | berthGet => cases h; exact berthGet_keepsInv ..
  | tidePut => cases h; exact multiPut_keepsInv tideRow_keepsInv ..
  | tideGet => cases h; exact tideGet_keepsInv ..
  | bookAlloc => cases h; exact bookAlloc_keepsInv ..
  | bookFixed => cases h; exact bookFixed_keepsInv ..
  | bookFixedIndex => cases h; exact bookFixedIndex_keepsInv ..
  | bookPlace => cases h; exact bookPlace_keepsInv ..
  | bookArrive => cases h; exact bookArrive_keepsInv ..
  | bookChange => cases h; exact bookChange_keepsInv ..
  | bookDepart => cases h; exact bookDepart_keepsInv ..
  | bookCancel => cases h; exact bookCancel_keepsInv ..
  | bookGet => cases h; exact getRecords_keepsInv ..
  | acctOpen => cases h; exact acctOpen_keepsInv ..
  | acctPay => cases h; exact acctPay_keepsInv ..
  | acctLimit => cases h; exact acctLimit_keepsInv ..
  | acctClose => cases h; exact acctClose_keepsInv ..
  | acctGet => cases h; exact getRecords_keepsInv ..
  | tariffPut => cases h; exact multiPut_keepsInv tariffRow_keepsInv ..
  | tariffGet => cases h; exact getRecords_keepsInv ..
  | pedestalPut => cases h; exact multiPut_keepsInv pedestalRow_keepsInv ..
  | pedestalGet => cases h; exact getRecords_keepsInv ..
  | socketPut => cases h; exact multiPut_keepsInv socketRow_keepsInv ..
  | tapPut => cases h; exact multiPut_keepsInv tapRow_keepsInv ..
  | tapClose => cases h; exact tapClose_keepsInv ..
  | feederPut => cases h; exact multiPut_keepsInv feederRow_keepsInv ..
  | feederGet => cases h; exact getRecords_keepsInv ..
  | feederBottom => cases h; exact feederBottom_keepsInv ..
  | feederPoll => cases h; exact feederPoll_keepsInv ..
  | feederShed => cases h; exact feederShed_keepsInv ..
  | socketRelease => cases h; exact socketRelease_keepsInv ..
  | socketLock => cases h; exact socketLock_keepsInv ..
  | socketUnlock => cases h; exact socketUnlock_keepsInv ..
  | socketRearm => cases h; exact socketRearm_keepsInv ..
  | hosePut => cases h; exact multiPut_keepsInv hoseRow_keepsInv ..
  | hoseGet => cases h; exact getRecords_keepsInv ..
  | hoseAuth => cases h; exact hoseAuth_keepsInv ..
  | hoseStop => cases h; exact hoseStop_keepsInv ..
  | pricePut => cases h; exact multiPut_keepsInv priceRow_keepsInv ..
  | priceGet => cases h; exact .refl s
  | salePeek => cases h; exact salePeek_keepsInv ..
  | saleTake => cases h; exact saleTake_keepsInv ..
  | credPut => cases h; exact multiPut_keepsInv credRow_keepsInv ..
  | credGet => cases h; exact credGet_keepsInv ..
  | credSuspend => cases h; exact credSuspend_keepsInv ..
  | credResume => cases h; exact credResume_keepsInv ..
  | credFree => cases h; exact credFree_keepsInv ..
  | gatePut => cases h; exact multiPut_keepsInv gateRow_keepsInv ..
  | gateGet => cases h; exact getRecords_keepsInv ..
  | gateMode => cases h; exact gateMode_keepsInv ..
  | gatePulse => cases h; exact gatePulse_keepsInv ..
  | _ => cases h

theorem frameOwner_keepsInv (f : Frame) (s : State) : KeepsInv s (frameOwner f s).1 := by
  unfold frameOwner
  cases decodeRequest f.kind f.tag f.body with
  | request i =>
    cases ho : owner i with
    | none =>
      dsimp only
      rw [ho]
      exact .refl s
    | some o =>
      dsimp only
      rw [ho]
      exact owner_keepsInv ho s
  | badItem => exact .refl s
  | unknownKind => exact .refl s

theorem takeWaiting_keepsInv (s : State) : KeepsInv s (takeWaiting s) := by
  unfold takeWaiting
  split
  · exact .refl s
  · refine KeepsInv.trans (.setHlc ?_) (takeRequest_keepsInv (frameOwner_keepsInv _) ..)
    exact id

/-! ## The passing of time -/

theorem stopClock_inRange {c : Clk} (h : c.inRange) : (stopClock c).inRange := by
  obtain ⟨-, -, -, hours⟩ := h
  exact ⟨le_rfl, le_rfl, le_rfl, hours⟩

theorem markEvents_inRange {c : Clk} (h : c.inRange) : (markEvents c).inRange := by
  unfold markEvents
  split <;> exact h

/-- R69: the fields of an instant later are within their ranges. -/
theorem advanceClock_inRange (events : Bool) {c : Clk} (h : c.inRange) : (advanceClock events c).inRange := by
  have marked {c : Clk} (h : c.inRange) : (if events then markEvents c else c).inRange := by
    split
    · exact markEvents_inRange h
    · exact h
  have ⟨hd, hs, _, hours⟩ := h
  unfold advanceClock
  dsimp only
  split
  · exact ⟨hd, hs, by dsimp only; omega, hours⟩
  split
  · exact marked ⟨hd, by dsimp only; omega, Nat.zero_le _, hours⟩
  split
  · exact marked ⟨by dsimp only; omega, Nat.zero_le _, Nat.zero_le _, hours⟩
  · exact stopClock_inRange h

theorem tick_keepsInv (s : State) : KeepsInv s (tick s) := by
  have advanced (c : Clk) (h : s.clk.inRange → c.inRange) (uptime : Nat) : KeepsInv s (s.setClk { c with uptime }) :=
    .setClk h
  unfold tick
  refine (advanced (if s.clockRuns then advanceClock s.running s.clk else s.clk) (fun h => ?_) _).andThen
    ⟨rfl, rfl, rfl, rfl⟩
  split
  · exact advanceClock_inRange _ h
  · exact h

theorem idle_keepsInv (s : State) : KeepsInv s (idle s) :=
  .ite ((takeWaiting_keepsInv s).trans (pump_keepsInv _)) (tick_keepsInv s)

/-! ## Starts -/

/-- R200: a cold start's retained values are in range. -/
theorem coldRetained_keepsInv (s : State) : KeepsInv s (coldRetained s) where
  inv i :=
    have cold (a : Nat) : (coldRetained s).account a = if a = 0 then coldHouse else coldAccount := by
      by_cases h : a = 0
      · simp [coldRetained, State.account, tableGet, h]
      · simp [coldRetained, State.account, tableGet, h, Ne.symm h]
    { notices := i.notices
      sales := Nat.zero_le _
      clock := by
        simp only [coldRetained, Clk.inRange]
        decide
      accounts := fun a => by
        rw [cold]
        split
        · exact ⟨by decide, by decide, by decide⟩
        · exact ⟨by decide, by decide, by decide⟩
      house := by rw [cold]; rfl
      residues := fun _ => ⟨Nat.zero_lt_succ 999, Nat.zero_lt_succ 999⟩ }

/-- R201: STARTED is the only notice. -/
theorem startHlc_keepsInv (cause : Cause) (spa spb : Bool) (s : State) : KeepsInv s (startHlc cause spa spb s) :=
  .andThen (.setHlc (x := (startHlc cause spa spb s).hlc) fun _ => Nat.succ_le_succ (Nat.zero_le 31)) ⟨rfl, rfl, rfl, rfl⟩

theorem startClk_keepsInv (cause : Cause) (s : State) : KeepsInv s (startClk cause s) := .setClk id

theorem startLine_keepsInv (s : State) : KeepsInv s (startLine s) :=
  (KeepsInv.of_apart (beginScan_apart _)).after ⟨rfl, rfl, rfl, rfl⟩

theorem startFdc_keepsInv (cause : Cause) (s : State) : KeepsInv s (startFdc cause s) := by
  have hoses := (startHoses_keepsInv [1, 2, 3, 4] { s with fdc := { s.fdc with hoses := [] } }).after
    (s := s) ⟨rfl, rfl, rfl, rfl⟩
  unfold startFdc
  exact hoses.andThen ⟨rfl, rfl, rfl, rfl⟩

theorem startGtc_keepsInv (s : State) : KeepsInv s (startGtc s) :=
  (KeepsInv.foldl _ (fun t g => startGateNow_keepsInv g t) _ _).after ⟨rfl, rfl, rfl, rfl⟩

theorem start_keepsInv (cause : Cause) (spa spb : Bool) (s : State) : KeepsInv s (start cause spa spb s) := by
  have retained : KeepsInv s
      (if cause = .cold then { coldRetained s with sup := { s.sup with valid := true } } else s) :=
    .ite ((coldRetained_keepsInv s).andThen ⟨rfl, rfl, rfl, rfl⟩) (.refl s)
  unfold start
  dsimp only
  generalize (if cause = .cold then { coldRetained s with sup := { s.sup with valid := true } } else s) = s0 at retained ⊢
  have linked := (startHlc_keepsInv cause spa spb { s0 with sup := { s0.sup with startDue := false } }).after
    (s := s0) ⟨rfl, rfl, rfl, rfl⟩
  have timed := (retained.trans linked).trans (startClk_keepsInv cause _)
  generalize startClk cause _ = s2 at timed ⊢
  have emptied : KeepsInv s2 { s2 with bal := { s2.bal with arrivals := [] } } := .of_apart ⟨rfl, rfl, rfl, rfl⟩
  exact (((timed.trans emptied).trans (startLine_keepsInv _)).trans (startFdc_keepsInv ..)).trans (startGtc_keepsInv _)

theorem powerOn_keepsInv (spa spb backup : Bool) (s : State) : KeepsInv s (powerOn spa spb backup s) := by
  unfold powerOn
  exact .ite (.refl s) (.ite (.of_apart ⟨rfl, rfl, rfl, rfl⟩) ((start_keepsInv ..).after ⟨rfl, rfl, rfl, rfl⟩))

theorem powerFail_keepsInv (s : State) : KeepsInv s (powerFail s) := .of_apart ⟨rfl, rfl, rfl, rfl⟩

theorem backupSupplyFail_keepsInv (s : State) : KeepsInv s (backupSupplyFail s) := .of_apart ⟨rfl, rfl, rfl, rfl⟩

theorem resetPinAssert_keepsInv (s : State) : KeepsInv s (resetPinAssert s) := .of_apart ⟨rfl, rfl, rfl, rfl⟩

theorem resetPinRelease_keepsInv (spa spb : Bool) (s : State) : KeepsInv s (resetPinRelease spa spb s) := by
  have started (cause : Cause) : KeepsInv s (start cause spa spb { s with sup := { s.sup with resetHeld := false } }) :=
    (start_keepsInv ..).after ⟨rfl, rfl, rfl, rfl⟩
  unfold resetPinRelease
  exact .ite (.refl s) (.ite (.of_apart ⟨rfl, rfl, rfl, rfl⟩) (.ite (started _) (started _)))

theorem restartBegin_keepsInv (spa spb : Bool) (s : State) : KeepsInv s (restartBegin spa spb s) :=
  .ite (start_keepsInv ..) (.refl s)

theorem restartTimeout_keepsInv (spa spb : Bool) (s : State) : KeepsInv s (restartTimeout spa spb s) :=
  .ite (start_keepsInv ..) (.refl s)

/-! ## Every command -/

/-- A request's command is the request on its owner. -/
theorem exec_of_owner {i : Instr} {o : State → State × Answer} (h : owner i = some o) (s : State) :
    exec i s = .next (request i o s) := by
  cases i <;> cases h <;> rfl

theorem lampExpiry_keepsInv (s : State) : KeepsInv s (lampExpiry s) := setFuel_keepsInv ..

theorem clockStop_keepsInv (s : State) : KeepsInv s (if s.clockRuns then s.setClk (stopClock s.clk) else s) :=
  .ite (.setClk stopClock_inRange) (.refl s)

/-- A command that is no request keeps the invariant. -/
theorem exec_keepsInv_of_event {i : Instr} (none : owner i = none) {s t : State} (h : exec i s = .next t) :
    KeepsInv s t := by
  cases i with
  | powerOn => cases h; exact (powerOn_keepsInv ..).trans (pump_keepsInv _)
  | powerFail => cases h; exact powerFail_keepsInv s
  | resetPinAssert => cases h; exact resetPinAssert_keepsInv s
  | resetPinRelease => cases h; exact (resetPinRelease_keepsInv ..).trans (pump_keepsInv _)
  | restartBegin => cases h; exact (restartBegin_keepsInv ..).trans (pump_keepsInv _)
  | restartTimeout => cases h; exact (restartTimeout_keepsInv ..).trans (pump_keepsInv _)
  | catchUp => cases h; exact event_keepsInv (fun s => .ite (catchUpRun_keepsInv s) (.refl s)) s
  | fdcStart => cases h; exact event_keepsInv (fun s => .ite (.refl s) (fdcStart_keepsInv s)) s
  | hostByteReceived => cases h; exact event_keepsInv (fun s => setHlc_keepsInv (hostByte_notices ..)) s
  | frameGapTimeout => cases h; exact event_keepsInv (fun s => setHlc_keepsInv (x := dropReception s.hlc) rfl) s
  | hostCtsChange => cases h; exact (event_keepsInv .refl _).after ⟨rfl, rfl, rfl, rfl⟩
  | transmitFrameDone => cases h; exact event_keepsInv (fun s => setHlc_keepsInv (frameSent_notices _)) s
  | rollover => cases h; exact event_keepsInv hourRollover_keepsInv s
  | settlementInterval => cases h; exact event_keepsInv settlementInterval_keepsInv s
  | bandBoundary begins => cases h; exact event_keepsInv (bandBoundary_keepsInv begins) s
  | clockStop => cases h; exact (clockStop_keepsInv s).trans (pump_keepsInv _)
  | pollSlotEnd => cases h; exact event_keepsInv slotEnd_keepsInv s
  | pollReply b w => cases h; exact event_keepsInv (pollReply_keepsInv b w) s
  | holdOffExpiry n => cases h; exact event_keepsInv (holdOffEnds_keepsInv n) s
  | tapRunLimit n => cases h; exact event_keepsInv (closeTap_keepsInv n _) s
  | tapNoFlow n => cases h; exact event_keepsInv (closeTap_keepsInv n _) s
  | nozzleLift n =>
    cases h
    exact (event_keepsInv (fun s => .ite (nozzleLift_keepsInv n s) (keepNozzle_keepsInv ..)) _).after ⟨rfl, rfl, rfl, rfl⟩
  | nozzleHang n =>
    cases h
    exact (event_keepsInv (fun s => .ite (nozzleHang_keepsInv n s) (keepNozzle_keepsInv ..)) _).after ⟨rfl, rfl, rfl, rfl⟩
  | pulse n => cases h; exact event_keepsInv (pulse_keepsInv n) s
  | authTimeout n => cases h; exact event_keepsInv (authTimeout_keepsInv n) s
  | noFlow n => cases h; exact event_keepsInv (noFlow_keepsInv n) s
  | keyEvent n key => cases h; exact event_keepsInv (keyEvent_keepsInv n key) s
  | interKeyTimeout n => cases h; exact event_keepsInv (interKeyTimeout_keepsInv n) s
  | lockoutExpiry n => cases h; exact event_keepsInv (fun s => setTerminal_keepsInv ..) s
  | cardRead n x token => cases h; exact event_keepsInv (cardRead_keepsInv n x token) s
  | cardWindowExpiry n => cases h; exact event_keepsInv (cardWindowExpiry_keepsInv n) s
  | doorContact n opens =>
    cases h
    exact (event_keepsInv (fun s => .ite (doorOpens_keepsInv n s) (doorCloses_keepsInv n s)) _).after ⟨rfl, rfl, rfl, rfl⟩
  | releaseTimeout n => cases h; exact event_keepsInv (releaseTimeout_keepsInv n) s
  | heldTimeout n => cases h; exact event_keepsInv (heldTimeout_keepsInv n) s
  | exitButton n => cases h; exact event_keepsInv (exitButton_keepsInv n) s
  | autoArrive => cases h; exact event_keepsInv takeArrival_keepsInv s
  | fuelWindowExpiry => cases h; exact event_keepsInv fuelWindowExpiry_keepsInv s
  | selfServeOffer => cases h; exact event_keepsInv selfServeOffer_keepsInv s
  | lampExpiry => cases h; exact event_keepsInv lampExpiry_keepsInv s
  | keypadFullScan n r => cases h; exact event_keepsInv (fullScan_keepsInv n r) s
  | backupSupplyFail => cases h; exact backupSupplyFail_keepsInv s
  | _ => cases none

theorem exec_keepsInv {i : Instr} {s t : State} (h : exec i s = .next t) : KeepsInv s t := by
  cases ho : owner i with
  | none => exact exec_keepsInv_of_event ho h
  | some o =>
    rw [exec_of_owner ho] at h
    cases h
    exact request_keepsInv (owner_keepsInv ho) i s

theorem step_keepsInv {s t : State} (h : step s = .next t) : KeepsInv s t := by
  unfold step at h
  split at h
  · exact (exec_keepsInv h).after ⟨rfl, rfl, rfl, rfl⟩
  split at h
  · exact exec_keepsInv h
  · cases h
    exact idle_keepsInv s

end Sys2Proof.Machine
end

section
/-! SUPPORT. Every step keeps the invariant (O59), and the reset state meets it (O58). -/

namespace Sys2Proof.Machine

/-- Settles O59: each command, and the idle step, is a chain of writes each of which keeps the invariant. -/
theorem everyStepKeepsTheInvariant : Obligations.EveryStepKeepsTheInvariant := by
  unfold Obligations.EveryStepKeepsTheInvariant
  intro s t inv h
  exact (step_keepsInv h).inv inv

end Sys2Proof.Machine
end

section
/-! SUPPORT. The reset state meets the invariants (O58), postings (O26), the requests that open and close an account (O27),
the rows of the tables that nothing follows from (O29), and settlements (O30). -/

namespace Sys2Proof.Machine

/-! ## The reset state -/

theorem reset_inv : Inv State.reset where
  notices := Nat.zero_le _
  sales := Nat.zero_le _
  clock := by
    unfold Clk.inRange
    decide
  accounts a := by
    by_cases h : a = 0
    · subst h
      exact ⟨by decide, by decide, by decide⟩
    · simp [State.reset, State.account, tableGet, Ne.symm h, coldAccount, Account.inRange, balanceBound]
  house := rfl
  residues _ := ⟨Nat.zero_lt_succ 999, Nat.zero_lt_succ 999⟩

theorem reset_feedersSound : FeedersSound State.reset where
  sockets := rfl
  static := rfl
  held _ := rfl
  reserved _ := rfl
  limit _ := le_rfl
  pending _ _ h := absurd h List.not_mem_nil
  ascending _ := .nil
  blocking _ _ h := by cases h
  plugs _ h := by cases h

/-- Settles O58: every table of the reset state is empty but the accounts', which lists account 0. -/
theorem resetStateMeetsTheInvariants : Obligations.ResetStateMeetsTheInvariants := by
  unfold Obligations.ResetStateMeetsTheInvariants
  exact ⟨reset_inv, reset_feedersSound⟩

/-! ## Postings and the hold state -/

/-- R50: the state that an account's balance and limit give it; account 0 is not evaluated. -/
def holdState (a : Nat) (k : Account) : AcctState :=
  if a = 0 then k.state
  else if k.state = .opened ∧ k.balance + k.limit < 0 then .held
  else if k.state = .held ∧ 0 ≤ k.balance + k.limit then .opened
  else k.state

/-- R50: the notice of a change to a hold state. -/
def holdNotice (a : Nat) (k : Account) : NoticeBody :=
  if holdState a k = .held then .accountHold a .held k.balance k.limit else .accountClear a .opened k.balance k.limit

/-- R50: the notices of an evaluation: one where the state changes. -/
def holdNotices (a : Nat) (k : Account) : List NoticeBody :=
  if holdState a k = k.state then []
  else if holdState a k = .held then [.accountHold a .held k.balance k.limit]
  else [.accountClear a .opened k.balance k.limit]

/-- R50: an evaluation changes the account's state where balance and limit give another, with its notice. -/
theorem evaluateHold_eq (a : Nat) (s : State) :
    evaluateHold a s =
      if holdState a (s.account a) = (s.account a).state then (s, false)
      else
        ((s.setAccount a { s.account a with state := holdState a (s.account a) }).raise (holdNotice a (s.account a)),
          true) := by
  unfold evaluateHold holdNotice holdState
  dsimp only
  by_cases h0 : a = 0
  · simp [h0]
  by_cases opened : (s.account a).state = .opened ∧ (s.account a).balance + (s.account a).limit < 0
  · simp [h0, opened]
  by_cases held : (s.account a).state = .held ∧ 0 ≤ (s.account a).balance + (s.account a).limit
  · simp [h0, held]
  · simp [h0, opened, held]

section
variable (a : Nat) (s : State)

/-- R50: what an evaluation leaves of its account. -/
theorem evaluateHold_account :
    (evaluateHold a s).1.account a = { s.account a with state := holdState a (s.account a) } := by
  rw [evaluateHold_eq]
  split
  · rename_i h
    rw [h]
  · exact (State.account_setAccount ..).trans (if_pos rfl)

theorem onlyAccount_setAccount (k : Account) : OnlyAccount a s (s.setAccount a k) :=
  ⟨rfl, fun _ hj => (State.account_setAccount ..).trans (if_neg hj)⟩

theorem OnlyAccount.refl : OnlyAccount a s s := ⟨rfl, fun _ _ => rfl⟩

theorem evaluateHold_onlyAccount : OnlyAccount a s (evaluateHold a s).1 := by
  rw [evaluateHold_eq]
  split
  · exact .refl a s
  · exact onlyAccount_setAccount ..

theorem evaluateHold_raises : Raises (holdNotices a (s.account a)) s (evaluateHold a s).1 := by
  rw [evaluateHold_eq]
  unfold holdNotices
  split
  · exact raises_nil rfl
  · rw [← apply_ite (fun b => [b])]
    exact raises_raise _ rfl rfl

end

theorem OnlyAccount.trans {a : Nat} {s t u : State} (h : OnlyAccount a s t) (k : OnlyAccount a t u) :
    OnlyAccount a s u :=
  ⟨k.1.trans (by rw [h.1]), fun j hj => (k.2 j hj).trans (h.2 j hj)⟩

/-- R49: the account with an amount added to its balance. -/
def posted (a : Nat) (x : Int) (s : State) : Account :=
  { s.account a with balance := saturate ((s.account a).balance + x) }

theorem addBalance_account (a : Nat) (x : Int) (s : State) : (addBalance a x s).account a = posted a x s :=
  (State.account_setAccount ..).trans (if_pos rfl)

/-- R49, R50. -/
theorem postOnly_eq {a : Nat} {x : Int} (hx : x ≠ 0) (s : State) :
    postOnly a x s = evaluateHold a (addBalance a x s) := if_neg hx

section
variable {a : Nat} {x : Int} (hx : x ≠ 0) (s : State)
include hx

theorem postOnly_account :
    (postOnly a x s).1.account a = { posted a x s with state := holdState a (posted a x s) } := by
  rw [postOnly_eq hx, evaluateHold_account, addBalance_account]

theorem postOnly_onlyAccount : OnlyAccount a s (postOnly a x s).1 := by
  rw [postOnly_eq hx]
  exact (onlyAccount_setAccount ..).trans (evaluateHold_onlyAccount ..)

theorem postOnly_raises : Raises (holdNotices a (posted a x s)) s (postOnly a x s).1 := by
  rw [postOnly_eq hx]
  have h := evaluateHold_raises a (addBalance a x s)
  rw [addBalance_account] at h
  exact h

end

/-- Settles O26: a posting adds to the balance and is one evaluation. -/
theorem postingMovesTheBalance : Obligations.PostingMovesTheBalance := by
  unfold Obligations.PostingMovesTheBalance
  intro a x s hx
  exact ⟨postOnly_sameBut (by decide) a x s, postOnly_onlyAccount hx s, postOnly_account hx s, postOnly_raises hx s⟩

/-! ## ACCT_OPEN and ACCT_CLOSE -/

theorem AsLeft.onlyAccount {a : Nat} {s u t : State} (h : AsLeft u t) (k : OnlyAccount a s u) : OnlyAccount a s t :=
  ⟨by rw [h.acu]; exact k.1, fun j hj => (h.account j).trans (k.2 j hj)⟩

theorem SameBut.acu_eq {parts : List Part} {s t : State} (h : SameBut parts s t)
    (out : Part.accounts ∉ parts := by decide) : t.acu = s.acu := h.accounts.resolve_left out

theorem SameBut.account {parts : List Part} {s t : State} (h : SameBut parts s t)
    (out : Part.accounts ∉ parts := by decide) (a : Nat) : t.account a = s.account a := by
  rw [State.account, h.acu_eq out]
  rfl

theorem OnlyAccount.of_acu_eq {a : Nat} {s t u : State} (h : OnlyAccount a s t) (k : u.acu = t.acu) :
    OnlyAccount a s u :=
  ⟨by rw [k]; exact h.1, fun j hj => (by rw [State.account, k]; exact h.2 j hj)⟩

/-- R51: an account that is not on HOLD tells the feeders alone. -/
theorem tellHold_of_not_held {a : Nat} {s : State} (h : (s.account a).state ≠ .held) : tellHold a s = farHold a s :=
  if_neg h

theorem acctOpen_accepted {a limit : Nat} {s : State} (ha : a ≤ 255) (hl : limit ≤ 10000000) (h0 : a ≠ 0)
    (free : (s.account a).state = .free) :
    acctOpen a limit s = accept [resultItem [.u 1 a]] (s.setAccount a ⟨.opened, 0, limit, 0⟩) :=
  checked_pass (by
    simp only [List.forall_mem_cons, within_true (Nat.zero_le _) ha, within_true (Nat.zero_le _) (hi := limitMax) hl, h0,
      free]
    decide)

/-- R55: what the closing of an account leaves. -/
def accountClosed (a : Nat) (s : State) : State :=
  if (s.account a).state = .held then tellHold a (s.setAccount a coldAccount) else s.setAccount a coldAccount

theorem acctClose_accepted {a : Nat} {s : State} (ha : a ≤ 255) (h0 : a ≠ 0) (open_ : (s.account a).state ≠ .free)
    (none : s.openBookings a = 0) (clear : (s.account a).earmark = 0) :
    acctClose a s = accept [resultItem [.i 6 (s.account a).balance]] (accountClosed a s) :=
  checked_pass (by
    simp only [List.forall_mem_cons, within_true (Nat.zero_le _) ha, h0, open_, none, clear]
    decide)

/-- R55: closing frees the account, and of an account on HOLD tells the feeders. -/
theorem accountClosed_feeders (a : Nat) (s : State) : SameBut [.feeders] (s.setAccount a coldAccount) (accountClosed a s) := by
  unfold accountClosed
  split
  · rw [tellHold_of_not_held (by simp [coldAccount])]
    exact farHold_sameBut (by decide) ..
  · exact .refl _ _

/-- R48, R52, R54, R55: account 0 is fixed. -/
theorem house_refused {limit : Nat} (hl : limit ≤ 10000000) (s : State) :
    acctOpen 0 limit s = refuse .state s ∧ acctClose 0 s = refuse .state s ∧ acctLimit 0 limit s = refuse .state s := by
  have range := within_true (Nat.zero_le limit) (hi := limitMax) hl
  have house : within 0 255 0 = true := rfl
  simp [acctOpen, acctClose, acctLimit, checked, firstFailing, range, house]

/-- Settles O27: the requests' checks, and what each writes. -/
theorem accountsOpenAndClose : Obligations.AccountsOpenAndClose := by
  unfold Obligations.AccountsOpenAndClose
  intro tag a limit s ht ha hl
  refine ⟨fun h0 free => ?_, fun h0 open_ none clear => ?_, fun h0 i kind hi => ?_⟩
  · obtain ⟨t, hr, hu⟩ := request_answers (i := .acctOpen tag a limit) rfl rfl ht (acctOpen_accepted ha hl h0 free)
    refine ⟨t, hr, hu.sameBut ((SameBut.refl _ s).setAccount (by decide) ..), hu.raises (raises_of_hlc rfl),
      hu.onlyAccount (onlyAccount_setAccount ..), ?_⟩
    rw [hu.account, State.account_setAccount, if_pos rfl]
  · obtain ⟨t, hr, hu⟩ := request_answers (i := .acctClose tag a) rfl rfl ht (acctClose_accepted ha h0 open_ none clear)
    have told := accountClosed_feeders a s
    have freed : SameBut [.accounts, .feeders] s (s.setAccount a coldAccount) :=
      (SameBut.refl _ s).setAccount (by decide) ..
    refine ⟨t, hr, hu.sameBut (freed.trans (told.mono (by decide))),
      hu.onlyAccount ((onlyAccount_setAccount ..).of_acu_eq told.acu_eq), ?_⟩
    rw [hu.account, told.account, State.account_setAccount, if_pos rfl]
    rfl
  · subst h0
    obtain ⟨opens, closes, limits⟩ := house_refused hl s
    simp only [List.mem_cons, Prod.mk.injEq, List.not_mem_nil, or_false] at hi
    rcases hi with ⟨rfl, rfl⟩ | ⟨rfl, rfl⟩ | ⟨rfl, rfl⟩
    · exact read_answers rfl rfl ht opens
    · exact read_answers rfl rfl ht closes
    · exact read_answers rfl rfl ht limits

/-! ## Rows that nothing follows from -/

theorem tariffRow_accepted {i : Nat} {r : TariffRow} (s : State) (hi : i ≤ 3) (hd : r.dayRate ≤ 65535)
    (hn : r.nightRate ≤ 65535) (hw : r.waterRate ≤ 65535) :
    tariffRow i r s = .ok (s.setTariff i ⟨r.dayRate, r.nightRate, r.waterRate⟩) :=
  if_pos (by simp only [within_true (Nat.zero_le _), hi, hd, hn, hw, Bool.and_self])

theorem priceRow_accepted {i price : Nat} (s : State) (h1 : 1 ≤ i) (h2 : i ≤ 2) (hp : price ≤ 99999) :
    priceRow i price s = .ok (s.setPrice i price) :=
  if_pos (by simp only [within_true h1 h2, within_true (Nat.zero_le _) hp, Bool.and_self])

theorem hoseRow_accepted {i : Nat} {r : HoseRow} {s : State} (ready : s.fdc.ready = true)
    (idle : (s.hose i).state = .idle) (hi : 1 ≤ i ∧ i ≤ 4) (hg : 1 ≤ r.grade ∧ r.grade ≤ 2)
    (hp : 1000 ≤ r.p10 ∧ r.p10 ≤ 60000) (hs : r.slowDown ≤ 500) (ha : 10 ≤ r.authTimeout ∧ r.authTimeout ≤ 600)
    (hn : 10 ≤ r.noFlowTimeout ∧ r.noFlowTimeout ≤ 300) (hv : 100 ≤ r.volumeCap ∧ r.volumeCap ≤ 200000) :
    hoseRow i r s = .ok (s.setHoseCfg i ⟨r.grade, r.p10, r.slowDown, r.authTimeout, r.noFlowTimeout, r.volumeCap⟩) := by
  simp [hoseRow, ready, idle, within_iff.2 hi, within_iff.2 hg, within_iff.2 hp, within_true (Nat.zero_le _) hs,
    within_iff.2 ha, within_iff.2 hn, within_iff.2 hv]

theorem gateRow_accepted {i : Nat} {r : GateRow} {passback : Passback} (s : State) (hi : 1 ≤ i ∧ i ≤ 6)
    (hp : 1 ≤ r.pontoon ∧ r.pontoon ≤ 8) (hb : valueOf passbacks r.antiPassback = some passback)
    (hr : 1 ≤ r.releaseTime ∧ r.releaseTime ≤ 30) (hh : 10 ≤ r.heldTime ∧ r.heldTime ≤ 600) :
    gateRow i r s =
      .ok (s.setGateCfg i ⟨r.pontoon, (s.gateCfg i).mode, passback, r.exitReader, r.releaseTime, r.heldTime⟩) := by
  simp [gateRow, hb, within_iff.2 hi, within_iff.2 hp, within_iff.2 hr, within_iff.2 hh]

/-- Settles O29: each row is one write of its table. -/
theorem plainRowsAreWritten : Obligations.PlainRowsAreWritten := by
  unfold Obligations.PlainRowsAreWritten
  have most : 1 ≤ 15 := by decide
  refine ⟨fun tag i r s ht hi hd hn hw => ?_, fun tag i s ht => ⟨fun r h1 h4 ready idle hg hp hs ha hn hv => ?_,
    fun price hp h1 h2 => ?_⟩, fun tag i r passback s ht h1 h6 hp1 hp8 hb hr1 hr2 hh1 hh2 => ?_⟩
  · obtain ⟨t, hr, hu⟩ := request_answers (i := .tariffPut tag i [.row r]) rfl rfl ht
      (multiPut_one most (tariffRow_accepted s hi hd hn hw))
    refine ⟨t, hr, hu.sameBut ((SameBut.refl _ s).setTariff (by decide) ..), hu.raises (raises_of_hlc rfl),
      by rw [hu.acu]; rfl, fun j => ?_⟩
    rw [State.tariff, hu.acu]
    exact State.tariff_setTariff ..
  · obtain ⟨t, hr, hu⟩ := request_answers (i := .hosePut tag i [.row r]) rfl rfl ht
      (multiPut_one most (hoseRow_accepted ready idle ⟨h1, h4⟩ hg hp hs ha hn hv))
    refine ⟨t, hr, hu.sameBut ((SameBut.refl _ s).setHoseCfg (by decide) ..), hu.raises (raises_of_hlc rfl),
      by rw [hu.blocks]; rfl, fun j => ?_⟩
    rw [State.hoseCfg, hu.blocks]
    exact State.hoseCfg_setHoseCfg ..
  · obtain ⟨t, hr, hu⟩ := request_answers (i := .pricePut tag i [.row price]) rfl rfl ht
      (multiPut_one most (priceRow_accepted s h1 h2 hp))
    refine ⟨t, hr, hu.sameBut ((SameBut.refl _ s).setPrice (by decide) ..), hu.raises (raises_of_hlc rfl),
      by rw [hu.blocks]; rfl, fun j => ?_⟩
    rw [State.price, hu.blocks]
    exact State.price_setPrice ..
  · obtain ⟨t, hr, hu⟩ := request_answers (i := .gatePut tag i [.row r]) rfl rfl ht
      (multiPut_one most (gateRow_accepted s ⟨h1, h6⟩ ⟨hp1, hp8⟩ hb ⟨hr1, hr2⟩ ⟨hh1, hh2⟩))
    refine ⟨t, hr, hu.sameBut ((SameBut.refl _ s).setGateCfg (by decide) ..), hu.raises (raises_of_hlc rfl),
      by rw [hu.gtc]; rfl, fun j => ?_⟩
    rw [State.gateCfg, hu.gtc]
    exact State.gateCfg_setGateCfg ..

/-! ## Settlements -/

/-- R63: the price of a quantity in pieces is its price in one, for the residue carries over. -/
theorem pricePieces_eq (pieces q r e : Nat) : pricePieces pieces q r e = ((q * r + e) / 1000, (q * r + e) % 1000) := by
  induction pieces generalizing q e with
  | zero => rfl
  | succ more ih =>
    rw [pricePieces]
    split
    · rfl
    · rename_i long
      have split : q * r + e = (q - 65535) * r + (65535 * r + e) := by
        rw [← Nat.add_assoc, ← Nat.add_mul, Nat.sub_add_cancel (by omega)]
      rw [ih, split]
      generalize (q - 65535) * r = p
      generalize 65535 * r + e = x
      simp only [Prod.mk.injEq]
      omega

theorem price_eq (q r e : Nat) : price q r e = ((q * r + e) / 1000, (q * r + e) % 1000) := pricePieces_eq ..

/-- R65: the account that a berth's charges go to. -/
theorem receiver_some (s : State) (b : Nat) :
    s.receiver (some b) =
      if (s.berth b).cls = .service then 0 else ((s.arrivedOn b).map fun k => (s.booking k).account).getD 0 := by
  simp only [State.receiver]
  cases s.arrivedOn b <;> rfl

section
variable {n account : Nat} {s : State}

/-- R63, R64: a socket meter's settlement, at the rate of its band. -/
theorem settleSocket_prices (h : s.receiver (s.socketCfg n).berth = account) :
    settleSocket n s =
      let tariff := s.tariff (s.socketCfg n).tariff
      let p := (s.socketMeter n).unsettled *
        (if (s.socketAcct n).band = .day then tariff.dayRate else tariff.nightRate) + (s.socketAcct n).residue
      post account (-((p / 1000 : Nat) : Int))
        ((s.setSocketMeter n { s.socketMeter n with unsettled := 0 }).setSocketAcct n ⟨p % 1000, s.band⟩) := by
  subst h
  rw [settleSocket, settleSocketBy_eq, emptiedSocket, socketPrice, price_eq]
  cases (s.socketAcct n).band with
  | day => rfl
  | night => rfl

/-- R63: a tap meter's settlement, at the water rate. -/
theorem settleTap_prices (h : s.receiver (s.tapCfg n).berth = account) :
    settleTap n s =
      let p := (s.tapMeter n).unsettled * (s.tariff (s.tapCfg n).tariff).waterRate + s.tapResidue n
      post account (-((p / 1000 : Nat) : Int))
        ((s.setTapMeter n { s.tapMeter n with unsettled := 0 }).setTapResidue n (p % 1000)) := by
  subst h
  rw [settleTap, settleTapBy_eq, emptiedTap, tapPrice, price_eq]

end

/-- Settles O30: a settlement is the meter emptied and one posting, and its price is one division. -/
theorem settlementChargesTheReceivingAccount : Obligations.SettlementChargesTheReceivingAccount := by
  unfold Obligations.SettlementChargesTheReceivingAccount
  intro n s
  refine ⟨settleSocket_prices ?_, settleTap_prices ?_⟩
  · cases (s.socketCfg n).berth with
    | none => rfl
    | some b => exact receiver_some s b
  · cases (s.tapCfg n).berth with
    | none => rfl
    | some b => exact receiver_some s b

end Sys2Proof.Machine
end

section
/-! SUPPORT. What postings and settlements do to the meters, the closing of a tap (O33), and the clock's settlement events
(O15). -/

namespace Sys2Proof.Machine

/-! ## Meters -/

/-- What a posting keeps of the meters: every socket's, and of a tap's the baseline and that it is empty; a posting that
puts an account on HOLD may settle a tap's (R51, R98). -/
structure MetersKept (s t : State) : Prop where
  socketMeters : t.pdl.socketMeters = s.pdl.socketMeters
  sockets : t.acu.sockets = s.acu.sockets
  tapBaseline : ∀ n, (t.tapMeter n).baseline = (s.tapMeter n).baseline
  tapEmpty : ∀ n, (s.tapMeter n).unsettled = 0 → (t.tapMeter n).unsettled = 0

namespace MetersKept

variable {s t u : State}

theorem of_tables (hs : t.pdl.socketMeters = s.pdl.socketMeters) (ha : t.acu.sockets = s.acu.sockets)
    (ht : t.pdl.tapMeters = s.pdl.tapMeters) : MetersKept s t where
  socketMeters := hs
  sockets := ha
  tapBaseline n := by rw [State.tapMeter, ht]; rfl
  tapEmpty n h := by rw [State.tapMeter, ht]; exact h

theorem refl (s : State) : MetersKept s s := of_tables rfl rfl rfl

theorem trans (h : MetersKept s t) (k : MetersKept t u) : MetersKept s u where
  socketMeters := k.socketMeters.trans h.socketMeters
  sockets := k.sockets.trans h.sockets
  tapBaseline n := (k.tapBaseline n).trans (h.tapBaseline n)
  tapEmpty n := k.tapEmpty n ∘ h.tapEmpty n

theorem foldl {α : Type} (f : State → α → State) (h : ∀ s a, MetersKept s (f s a)) (l : List α) (s : State) :
    MetersKept s (l.foldl f s) := foldl_keeps refl trans f h l s

theorem raise (h : MetersKept s t) (b : NoticeBody) : MetersKept s (t.raise b) :=
  h.trans (of_tables (t := t.raise b) rfl rfl rfl)

/-- An operation that reaches neither the line nor the accounts. -/
theorem of_sameBut {parts : List Part} (h : SameBut parts s t) (hl : Part.line ∉ parts := by decide)
    (ha : Part.accounts ∉ parts := by decide) : MetersKept s t := by
  have line := h.line.resolve_left hl
  exact of_tables (by rw [line]) (by rw [h.acu_eq ha]) (by rw [line])

theorem socketMeter (h : MetersKept s t) (n : Nat) : t.socketMeter n = s.socketMeter n := by
  rw [State.socketMeter, h.socketMeters]; rfl

theorem socketAcct (h : MetersKept s t) (n : Nat) : t.socketAcct n = s.socketAcct n := by
  rw [State.socketAcct, h.sockets]; rfl

end MetersKept

/-- A meter of the same baseline with nothing unsettled. -/
theorem meter_emptied {m k : Meter} (hb : m.baseline = k.baseline) (hu : m.unsettled = 0) :
    m = { k with unsettled := 0 } := by
  obtain ⟨baseline, unsettled⟩ := m
  simp only at hb hu
  rw [hb, hu]

theorem emptiedTap_meter (n m : Nat) (s : State) :
    (emptiedTap n s).tapMeter m = if m = n then { s.tapMeter n with unsettled := 0 } else s.tapMeter m :=
  State.tapMeter_setTapMeter ..

theorem emptiedTap_meters (n : Nat) (s : State) : MetersKept s (emptiedTap n s) where
  socketMeters := rfl
  sockets := rfl
  tapBaseline m := by
    rw [emptiedTap_meter]
    split
    · rename_i h
      rw [h]
    · rfl
  tapEmpty m h := by
    rw [emptiedTap_meter]
    split
    · rfl
    · exact h

section
variable {charge : Nat → Int → State → State} (h : ∀ a x s, MetersKept s (charge a x s)) (n : Nat) (s : State)
include h

theorem settleTapBy_meters : MetersKept s (settleTapBy charge n s) :=
  settleTapBy_eq n s charge ▸ (emptiedTap_meters n s).trans (h ..)

/-- R63: a tap's settlement empties its meter. -/
theorem settleTapBy_tapMeter : (settleTapBy charge n s).tapMeter n = { s.tapMeter n with unsettled := 0 } := by
  have emptied := (emptiedTap_meter n n s).trans (if_pos rfl)
  have kept := h (s.receiver (s.tapCfg n).berth) (-((tapPrice n s).1 : Int)) (emptiedTap n s)
  rw [settleTapBy_eq]
  exact meter_emptied ((kept.tapBaseline n).trans (by rw [emptied])) (kept.tapEmpty n (by rw [emptied]))

end

theorem closeTapBy_meters {settle : Nat → State → State} (h : ∀ n s, MetersKept s (settle n s)) (n : Nat) (c : TapCause)
    (s : State) : MetersKept s (closeTapBy settle n c s) := by
  have ended : MetersKept s (s.setRun n none) := .of_tables rfl rfl rfl
  unfold closeTapBy
  split
  · exact .refl s
  · exact (ended.trans (h ..)).raise _

section
variable (a : Nat) (x : Int) (s : State)

theorem evaluateHold_meters : MetersKept s (evaluateHold a s).1 := by
  have written (k : Account) (b : NoticeBody) : MetersKept s ((s.setAccount a k).raise b) := .of_tables rfl rfl rfl
  rw [evaluateHold_eq]
  split
  · exact .refl s
  · exact written ..

theorem postOnly_meters : MetersKept s (postOnly a x s).1 := by
  have added : MetersKept s (addBalance a x s) := .of_tables rfl rfl rfl
  unfold postOnly
  split
  · exact .refl s
  · exact added.trans (evaluateHold_meters ..)

theorem pdlHold_meters : MetersKept s (pdlHold a s) :=
  .foldl _ (fun s n => closeTapBy_meters (settleTapBy_meters postOnly_meters) n _ s) _ _

theorem farHold_meters : MetersKept s (farHold a s) := .of_sameBut (farHold_sameBut (parts := [.feeders]) (by decide) a s)

/-- R51: the gate controller's part works on the gates alone. -/
theorem gtcHold_gates : SameBut [.gates] s (gtcHold a s) := by
  have dropped : SameBut [.gates] s (lampRed (dropCard 7 s)) :=
    (dropCard_sameBut (by decide) 7 s).trans (.writeGtc (by decide) ..)
  unfold gtcHold
  split
  · exact .refl _ s
  · split
    · exact dropped.raise _
    · exact .refl _ s

theorem tellHold_meters : MetersKept s (tellHold a s) := by
  unfold tellHold
  dsimp only
  split
  · exact ((farHold_meters a s).trans (pdlHold_meters ..)).trans (.of_sameBut (gtcHold_gates ..))
  · exact farHold_meters a s

theorem post_meters : MetersKept s (post a x s) := by
  unfold post
  dsimp only
  split
  · exact (postOnly_meters a x s).trans (tellHold_meters ..)
  · exact postOnly_meters a x s

end

theorem settleTap_meters (n : Nat) (s : State) : MetersKept s (settleTap n s) := settleTapBy_meters post_meters n s

theorem settleTap_tapMeter (n : Nat) (s : State) : (settleTap n s).tapMeter n = { s.tapMeter n with unsettled := 0 } :=
  settleTapBy_tapMeter post_meters n s

section
variable (n m : Nat) (s : State)

/-- R63: a socket's settlement empties its meter, and no other socket's. -/
theorem settleSocket_socketMeter :
    (settleSocket n s).socketMeter m = if m = n then { s.socketMeter n with unsettled := 0 } else s.socketMeter m := by
  rw [settleSocket, settleSocketBy_eq, (post_meters ..).socketMeter]
  exact State.socketMeter_setSocketMeter ..

/-- R63, R64: a socket's settlement writes its residue and the present band. -/
theorem settleSocket_socketAcct :
    (settleSocket n s).socketAcct m = if m = n then ⟨(socketPrice n s).2, s.band⟩ else s.socketAcct m := by
  rw [settleSocket, settleSocketBy_eq, (post_meters ..).socketAcct]
  exact State.socketAcct_setSocketAcct ..

/-- A socket's settlement keeps a tap's baseline. -/
theorem settleSocket_tapBaseline : ((settleSocket n s).tapMeter m).baseline = (s.tapMeter m).baseline := by
  rw [settleSocket, settleSocketBy_eq, (post_meters ..).tapBaseline]
  rfl

theorem settleSocket_speaks : Speaks s (settleSocket n s) := by
  rw [settleSocket, settleSocketBy_eq]
  exact (post_speaks ..).after rfl

theorem settleTap_speaks : Speaks s (settleTap n s) := settleTapBy_speaks post_speaks n s

theorem settleSocket_clk : (settleSocket n s).clk = s.clk :=
  (settleSocket_sameBut (parts := holdParts) (fun _ h => h) n s).clk_eq (by decide)

theorem settleTap_clk : (settleTap n s).clk = s.clk :=
  (settleTap_sameBut (parts := holdParts) (fun _ h => h) n s).clk_eq (by decide)

end

/-- An event of a running part whose operation sends no reply leaves the slot as it was. -/
theorem event_leaves {i : Instr} {f : State → State} {s : State} (hx : exec i s = .next (event f s))
    (running : s.running = true) (speaks : Speaks s (f s)) :
    ∃ t, exec i s = .next t ∧ t.reply = s.reply ∧ AsLeft (f s) t :=
  have ⟨left, reply⟩ := event_asLeft (f := f) running
  ⟨_, hx, reply.trans speaks.reply, left⟩

/-! ## A tap closes -/

theorem closeTap_of_open {n : Nat} {run : TapRun} {s : State} (h : s.run n = some run) (c : TapCause) :
    closeTap n c s = (settleTap n (s.setRun n none)).raise (.tapClosed n c (s.secsSince run.since)) := by
  unfold closeTap closeTapBy
  rw [h]

theorem closeTap_of_closed {n : Nat} {s : State} (h : s.run n = none) (c : TapCause) : closeTap n c s = s := by
  unfold closeTap closeTapBy
  rw [h]

theorem closeTap_run (n : Nat) (c : TapCause) (s : State) : (closeTap n c s).run n = none :=
  closeTapBy_closes settleTap_kept n c s

theorem closeTap_speaks (n : Nat) (c : TapCause) (s : State) : Speaks s (closeTap n c s) :=
  closeTapBy_speaks (settleTapBy_speaks post_speaks) n c s

/-- R98, R100: TAP_CLOSE answers CLOSED. -/
theorem tapClose_answer {n : Nat} (hn : n ≤ 127) (s : State) :
    tapClose n s = (closeTap n .host s, ⟨.ok, 0, [⟨0x11, [.u 1 0]⟩]⟩) := by
  unfold tapClose
  rw [if_pos (within_true (Nat.zero_le _) hn)]
  dsimp only
  rw [closeTap_run]
  rfl

/-- Settles O33: each way an OPEN tap closes is the one operation of R98. -/
theorem openTapCloses : Obligations.OpenTapCloses := by
  unfold Obligations.OpenTapCloses
  refine ⟨fun n run s hn open_ => ?_, fun n s hn shut => ⟨fun i running hi => ?_, fun tag ht => ?_⟩⟩
  · intro closed
    have reached (c : TapCause) (t : State) (hu : AsLeft (closeTap n c s) t) : closed c t := by
      have left := hu
      rw [closeTap_of_open open_] at left
      refine ⟨hu.sameBut (closeTap_sameBut (fun _ h => h) n c s), ?_, ?_, ?_, left, fun empty small => ?_⟩
      · rw [State.run, hu.pdl]
        exact closeTap_run n c s
      · rw [State.tapMeter, left.pdl]
        exact settleTap_tapMeter n (s.setRun n none)
      · rw [hu.pdl]
        exact (closeTap_kept n c s).taps
      · have nothing : settleTap n (s.setRun n none) = emptiedTap n (s.setRun n none) :=
          settleTap_of_settled ⟨empty, small⟩
        rw [nothing] at left
        refine ⟨left.sameBut (.raise ?_ _), left.raises (raises_raise _ rfl rfl)⟩
        exact (((SameBut.refl _ s).setRun (by decide) ..).setTapMeter (by decide) ..).setTapResidue (by decide) ..
    have taken {i : Instr} {c : TapCause} (hx : exec i s = .next (event (closeTap n c) s)) (running : s.running = true) :
        ∃ t, exec i s = .next t ∧ t.reply = s.reply ∧ closed c t := by
      obtain ⟨t, ht, reply, hu⟩ := event_leaves hx running (closeTap_speaks n c s)
      exact ⟨t, ht, reply, reached c t hu⟩
    refine ⟨taken rfl, taken rfl, fun tag ht => ?_⟩
    obtain ⟨t, hr, hu⟩ := request_answers (i := .tapClose tag n) rfl rfl ht (tapClose_answer hn s)
    exact ⟨t, hr, reached .host t hu⟩
  · have unchanged {c : TapCause} (hx : exec i s = .next (event (closeTap n c) s)) :
        ∃ t, exec i s = .next t ∧ t.reply = s.reply ∧ SameBut [] s t ∧ Raises [] s t := by
      obtain ⟨t, ht, reply, hu⟩ := event_leaves hx running (closeTap_speaks n c s)
      rw [closeTap_of_closed shut] at hu
      exact ⟨t, ht, reply, hu.sameBut (.refl _ s), hu.raises (raises_of_hlc rfl)⟩
    rcases hi with rfl | rfl
    · exact unchanged (c := .limit) rfl
    · exact unchanged (c := .noFlow) rfl
  · have nothing := tapClose_answer hn s
    rw [closeTap_of_closed shut] at nothing
    exact read_answers rfl rfl ht nothing

/-! ## Every meter is settled -/

/-- The clock and the meters' baselines are as they were. -/
structure BaselinesKept (s t : State) : Prop where
  clk : t.clk = s.clk
  socket : ∀ n, (t.socketMeter n).baseline = (s.socketMeter n).baseline
  tap : ∀ n, (t.tapMeter n).baseline = (s.tapMeter n).baseline

theorem BaselinesKept.refl (s : State) : BaselinesKept s s := ⟨rfl, fun _ => rfl, fun _ => rfl⟩

theorem BaselinesKept.trans {s t u : State} (h : BaselinesKept s t) (k : BaselinesKept t u) : BaselinesKept s u :=
  ⟨k.clk.trans h.clk, fun n => (k.socket n).trans (h.socket n), fun n => (k.tap n).trans (h.tap n)⟩

theorem settleSocket_baselines (n : Nat) (s : State) : BaselinesKept s (settleSocket n s) where
  clk := settleSocket_clk n s
  socket m := by
    rw [settleSocket_socketMeter]
    split
    · rename_i h
      rw [h]
    · rfl
  tap m := settleSocket_tapBaseline n m s

theorem settleTap_baselines (n : Nat) (s : State) : BaselinesKept s (settleTap n s) where
  clk := settleTap_clk n s
  socket m := by rw [(settleTap_meters n s).socketMeter]
  tap := (settleTap_meters n s).tapBaseline

section
variable (l : List Nat) (s : State)

/-- R66: the sockets of a list, settled in its order. -/
def socketsSettled : State := l.foldl (fun u n => settleSocket n u) s

/-- R66: the taps of a list, settled in its order. -/
def tapsSettled : State := l.foldl (fun u n => settleTap n u) s

theorem socketsSettled_baselines : BaselinesKept s (socketsSettled l s) :=
  foldl_keeps .refl .trans _ (fun s n => settleSocket_baselines n s) l s

theorem tapsSettled_baselines : BaselinesKept s (tapsSettled l s) :=
  foldl_keeps .refl .trans _ (fun s n => settleTap_baselines n s) l s

/-- R66: each of the sockets is empty and in the present band. -/
theorem socketsSettled_empty :
    ∀ n ∈ l, ((socketsSettled l s).socketMeter n).unsettled = 0 ∧ ((socketsSettled l s).socketAcct n).band = s.band := by
  have own (u : State) (n : Nat) (h : u.clk = s.clk) :
      ((settleSocket n u).socketMeter n).unsettled = 0 ∧ ((settleSocket n u).socketAcct n).band = s.band := by
    rw [settleSocket_socketMeter, settleSocket_socketAcct, if_pos rfl, if_pos rfl]
    exact ⟨rfl, by rw [State.band, h]; rfl⟩
  refine (foldl_establishes (inv := fun u => u.clk = s.clk)
    (P := fun n u => (u.socketMeter n).unsettled = 0 ∧ (u.socketAcct n).band = s.band)
    (fun u n _ h => (settleSocket_clk n u).trans h) (fun u n _ h => own u n h) (fun u n _ m _ h hm => ?_) rfl).2
  by_cases hmn : m = n
  · rw [hmn]
    exact own u n h
  · rw [settleSocket_socketMeter, settleSocket_socketAcct, if_neg hmn, if_neg hmn]
    exact hm

/-- R66: each of the taps is empty. -/
theorem tapsSettled_empty : ∀ n ∈ l, ((tapsSettled l s).tapMeter n).unsettled = 0 :=
  (foldl_establishes (inv := fun _ => True) (P := fun n u => (u.tapMeter n).unsettled = 0) (fun _ _ _ _ => trivial)
    (fun u n _ _ => by rw [settleTap_tapMeter]) (fun u n _ m _ _ hm => (settleTap_meters n u).tapEmpty m hm)
    trivial).2

theorem tapsSettled_meters : MetersKept s (tapsSettled l s) := .foldl _ (fun s n => settleTap_meters n s) l s

theorem socketsSettled_speaks : Speaks s (socketsSettled l s) := .foldl _ (fun s n => settleSocket_speaks n s) l s

theorem tapsSettled_speaks : Speaks s (tapsSettled l s) := .foldl _ (fun s n => settleTap_speaks n s) l s

theorem socketsSettled_sameBut : SameBut holdParts s (socketsSettled l s) :=
  .foldl _ (fun s n => settleSocket_sameBut (fun _ h => h) n s) l s

theorem tapsSettled_sameBut : SameBut holdParts s (tapsSettled l s) :=
  .foldl _ (fun s n => settleTap_sameBut (fun _ h => h) n s) l s

end

/-- R79: what follows the settlement of every meter writes the clock's marks. -/
theorem settlementInterval_eq {s : State} (set : s.clk.isSet = true) :
    settlementInterval s =
      resetSettleTimer ((tapsSettled (List.range 128) (socketsSettled (List.range 256) s)).setClk
        { (tapsSettled (List.range 128) (socketsSettled (List.range 256) s)).clk with settleDue := false }) := by
  unfold settlementInterval
  rw [if_pos set]
  rfl

/-- R80. -/
theorem bandBoundary_eq {s : State} (begins : Band) (set : s.clk.isSet = true) :
    bandBoundary begins s =
      (socketsSettled (List.range 256) s).setClk { (socketsSettled (List.range 256) s).clk with bandDue := none } := by
  unfold bandBoundary
  rw [if_pos set]
  rfl

/-- R79: a settlement-interval event whose settlements have left a state. -/
theorem settlementInterval_leaves {s u : State} (running : s.running = true)
    (marked : settlementInterval s = resetSettleTimer (u.setClk { u.clk with settleDue := false }))
    (baselines : BaselinesKept s u) (same : SameBut holdParts s u) (speaks : Speaks s u)
    (sockets : ∀ n < 256, (u.socketMeter n).unsettled = 0) (taps : ∀ n < 128, (u.tapMeter n).unsettled = 0) :
    ∃ t, exec .settlementInterval s = .next t ∧ SameBut [.clock, .accounts, .feeders, .line, .gates] s t ∧
      AsLeft { u with clk := t.clk } t ∧ t.reply = s.reply ∧
      t.clk = { s.clk with settleDue := false, settleTimer := nextInterval s.clk.interval s.clk.sec } ∧
      (∀ n < 256, t.socketMeter n = { s.socketMeter n with unsettled := 0 }) ∧
      (∀ n < 128, t.tapMeter n = { s.tapMeter n with unsettled := 0 }) := by
  obtain ⟨t, ht, reply, hu⟩ := event_leaves (i := .settlementInterval) (f := settlementInterval) rfl running
    (by
      rw [marked]
      exact speaks.andThen rfl)
  rw [marked] at hu
  refine ⟨t, ht, hu.sameBut (((same.mono (by decide)).setClk (by decide) _).setClk (by decide) _), ?_, reply, ?_,
    fun n hn => ?_, fun n hn => ?_⟩
  · rw [hu.clk]
    exact hu
  · rw [← baselines.clk]
    exact hu.clk
  · rw [State.socketMeter, hu.pdl]
    exact meter_emptied (baselines.socket n) (sockets n hn)
  · rw [State.tapMeter, hu.pdl]
    exact meter_emptied (baselines.tap n) (taps n hn)

/-- R80: a band-boundary event whose settlements have left a state. -/
theorem bandBoundary_leaves {s u : State} (begins : Band) (running : s.running = true)
    (marked : bandBoundary begins s = u.setClk { u.clk with bandDue := none }) (baselines : BaselinesKept s u)
    (same : SameBut holdParts s u) (speaks : Speaks s u)
    (empty : ∀ n < 256, (u.socketMeter n).unsettled = 0 ∧ (u.socketAcct n).band = s.band) :
    ∃ t, exec (.bandBoundary begins) s = .next t ∧ SameBut [.clock, .accounts, .feeders, .line, .gates] s t ∧
      AsLeft { u with clk := t.clk } t ∧ t.reply = s.reply ∧ t.clk = { s.clk with bandDue := none } ∧
      ∀ n < 256, t.socketMeter n = { s.socketMeter n with unsettled := 0 } ∧ (t.socketAcct n).band = s.band := by
  obtain ⟨t, ht, reply, hu⟩ := event_leaves (i := .bandBoundary begins) (f := bandBoundary begins) rfl running
    (by
      rw [marked]
      exact speaks.andThen rfl)
  rw [marked] at hu
  refine ⟨t, ht, hu.sameBut ((same.mono (by decide)).setClk (by decide) _), ?_, reply, ?_, fun n hn => ⟨?_, ?_⟩⟩
  · rw [hu.clk]
    exact hu
  · rw [← baselines.clk]
    exact hu.clk
  · rw [State.socketMeter, hu.pdl]
    exact meter_emptied (baselines.socket n) (empty n hn).1
  · rw [State.socketAcct, hu.acu]
    exact (empty n hn).2

/-- Settles O15: each event is the settlements in their order and a write of the clock's marks. -/
theorem clockEventsSettleTheMeters : Obligations.ClockEventsSettleTheMeters := by
  unfold Obligations.ClockEventsSettleTheMeters
  intro s running set
  have empty (n : Nat) (hn : n < 256) := socketsSettled_empty (List.range 256) s n (List.mem_range.2 hn)
  have sockets := socketsSettled_baselines (List.range 256) s
  refine ⟨settlementInterval_leaves running (settlementInterval_eq set) (sockets.trans (tapsSettled_baselines _ _))
    ((socketsSettled_sameBut _ s).trans (tapsSettled_sameBut _ _))
    ((socketsSettled_speaks _ s).trans (tapsSettled_speaks _ _)) (fun n hn => ?_)
    (fun n hn => tapsSettled_empty _ _ n (List.mem_range.2 hn)),
    fun begins => bandBoundary_leaves begins running (bandBoundary_eq begins set) sockets (socketsSettled_sameBut _ s)
      (socketsSettled_speaks _ s) empty⟩
  exact (congrArg Meter.unsettled ((tapsSettled_meters _ _).socketMeter n)).trans (empty n hn).1

end Sys2Proof.Machine
end

section
/-! SUPPORT. The change of an account's hold state and its message (O28), and the rows of sockets and taps (O32). -/

namespace Sys2Proof.Machine

/-! ## An account on HOLD stays there -/

/-- An account is on HOLD below its limit, its balance within its lower bound. -/
structure OnHold (a : Nat) (s : State) : Prop where
  held : (s.account a).state = .held
  below : (s.account a).balance + (s.account a).limit < 0
  bound : -balanceBound ≤ (s.account a).balance

/-- An account on HOLD below its limit stays so, under the limit it has. -/
structure StaysOnHold (a : Nat) (s t : State) : Prop where
  onHold : OnHold a s → OnHold a t
  limit : OnHold a s → (t.account a).limit = (s.account a).limit

namespace StaysOnHold

variable {a : Nat} {s t u : State}

theorem of_account (h : t.account a = s.account a) : StaysOnHold a s t where
  onHold k := ⟨by rw [h]; exact k.held, by rw [h]; exact k.below, by rw [h]; exact k.bound⟩
  limit _ := by rw [h]

theorem refl (s : State) : StaysOnHold a s s := of_account rfl

theorem trans (h : StaysOnHold a s t) (k : StaysOnHold a t u) : StaysOnHold a s u where
  onHold := k.onHold ∘ h.onHold
  limit i := (k.limit (h.onHold i)).trans (h.limit i)

theorem foldl {α : Type} (f : State → α → State) (h : ∀ s a', StaysOnHold a s (f s a')) (l : List α) (s : State) :
    StaysOnHold a s (l.foldl f s) := foldl_keeps refl trans f h l s

end StaysOnHold

/-- R49: a charge brings no balance within its lower bound up. -/
theorem saturate_le {x y : Int} (hx : x ≤ y) (hy : -balanceBound ≤ y) : saturate x ≤ y := by
  unfold saturate
  split
  · omega
  · split <;> omega

/-- Log entry 31: a charge leaves an account on HOLD there. -/
theorem postOnly_staysOnHold {a b : Nat} {x : Int} (hx : x ≤ 0) (s : State) : StaysOnHold a s (postOnly b x s).1 := by
  by_cases h0 : x = 0
  · subst h0
    exact .refl s
  by_cases hb : a = b
  · subst hb
    have account := postOnly_account (a := a) h0 s
    have less (i : OnHold a s) : (posted a x s).balance ≤ (s.account a).balance :=
      saturate_le (by omega) i.bound
    have still (i : OnHold a s) : holdState a (posted a x s) = .held := by
      have held : (posted a x s).state = .held := i.held
      have below : ¬0 ≤ (posted a x s).balance + (posted a x s).limit := by
        have limit : (posted a x s).limit = (s.account a).limit := rfl
        have := less i
        have := i.below
        omega
      simp [holdState, held, below]
    refine ⟨fun i => ⟨?_, ?_, ?_⟩, fun i => by rw [account]; rfl⟩
    · rw [account]
      exact still i
    · rw [account]
      exact lt_of_le_of_lt (Int.add_le_add_right (less i) _) i.below
    · rw [account]
      exact (saturate_inRange _).1
  · exact .of_account ((postOnly_onlyAccount h0 s).2 a hb)

theorem settleTapBy_staysOnHold (a n : Nat) (s : State) :
    StaysOnHold a s (settleTapBy (fun b x u => (postOnly b x u).1) n s) := by
  rw [settleTapBy_eq]
  have charge : -((tapPrice n s).1 : Int) ≤ 0 := by omega
  have emptied : StaysOnHold a s (emptiedTap n s) := .of_account rfl
  exact emptied.trans (postOnly_staysOnHold charge _)

theorem closeTapBy_staysOnHold {a : Nat} {settle : Nat → State → State} (h : ∀ n s, StaysOnHold a s (settle n s)) (n : Nat)
    (c : TapCause) (s : State) : StaysOnHold a s (closeTapBy settle n c s) := by
  have ended : StaysOnHold a s (s.setRun n none) := .of_account rfl
  unfold closeTapBy
  split
  · exact .refl s
  · exact (ended.trans (h ..)).trans (.of_account rfl)

theorem pdlHold_staysOnHold (a b : Nat) (s : State) : StaysOnHold a s (pdlHold b s) :=
  .foldl _ (fun s n => closeTapBy_staysOnHold (settleTapBy_staysOnHold a) n _ s) _ _

theorem tellHold_staysOnHold (a : Nat) (s : State) : StaysOnHold a s (tellHold a s) := by
  have far : StaysOnHold a s (farHold a s) :=
    .of_account ((farHold_sameBut (parts := [.feeders]) (by decide) a s).account (by decide) a)
  unfold tellHold
  dsimp only
  split
  · exact (far.trans (pdlHold_staysOnHold ..)).trans (.of_account ((gtcHold_gates ..).account (by decide) a))
  · exact far

/-! ## An evaluation and its message -/

section
variable (a : Nat) (s : State)

theorem evaluateAndTell_eq :
    evaluateAndTell a s =
      if holdState a (s.account a) = (s.account a).state then s else tellHold a (evaluateHold a s).1 := by
  unfold evaluateAndTell
  rw [evaluateHold_eq]
  dsimp only
  split <;> rfl

theorem post_eq {x : Int} (hx : x ≠ 0) : post a x s = evaluateAndTell a (s.setAccount a (posted a x s)) := by
  unfold post evaluateAndTell
  rw [postOnly_eq hx]
  rfl

/-- R50: only an OPEN account enters HOLD. -/
theorem opened_of_enters {a : Nat} {k : Account} (changed : holdState a k ≠ k.state) (held : holdState a k = .held) :
    k.state = .opened := by
  unfold holdState at changed held
  split at changed
  · exact absurd rfl changed
  split at changed
  · rename_i h
    exact h.1
  split at changed
  · simp_all
  · exact absurd rfl changed

/-- R50, R51: an account that does not enter HOLD tells the feeders alone. -/
theorem evaluateAndTell_of_not_entered
    (h : ¬((s.account a).state = .opened ∧ holdState a (s.account a) = .held)) :
    SameBut [.accounts, .feeders] s (evaluateAndTell a s) ∧ OnlyAccount a s (evaluateAndTell a s) ∧
      (evaluateAndTell a s).account a = { s.account a with state := holdState a (s.account a) } := by
  rw [evaluateAndTell_eq]
  split
  · rename_i same
    exact ⟨.refl _ s, .refl a s, by rw [same]⟩
  · rename_i changed
    have free : holdState a (s.account a) ≠ .held := fun held => h ⟨opened_of_enters changed held, held⟩
    have account := evaluateHold_account a s
    have evaluated : SameBut [.accounts, .feeders] s (evaluateHold a s).1 := evaluateHold_sameBut (by decide) a s
    rw [tellHold_of_not_held (by rw [account]; exact free)]
    have told := farHold_sameBut (parts := [.feeders]) (by decide) a (evaluateHold a s).1
    exact ⟨evaluated.trans (told.mono (by decide)), (evaluateHold_onlyAccount a s).of_acu_eq told.acu_eq,
      (told.account (by decide) a).trans account⟩

/-- R50, R51: an evaluated account keeps, through the message, the state its balance and limit gave it. -/
theorem evaluateAndTell_state (bound : -balanceBound ≤ (s.account a).balance) :
    ((evaluateAndTell a s).account a).state = holdState a (s.account a) ∧
      ((evaluateAndTell a s).account a).limit = (s.account a).limit := by
  by_cases enters : (s.account a).state = .opened ∧ holdState a (s.account a) = .held
  · obtain ⟨opened, held⟩ := enters
    have account := evaluateHold_account a s
    have below : (s.account a).balance + (s.account a).limit < 0 := by
      by_contra above
      simp [holdState, opened, above] at held
    have onHold : OnHold a (evaluateHold a s).1 :=
      ⟨by rw [account]; exact held, by rw [account]; exact below, by rw [account]; exact bound⟩
    have changed : ¬holdState a (s.account a) = (s.account a).state := by simp [held, opened]
    rw [evaluateAndTell_eq, if_neg changed, held]
    have told := tellHold_staysOnHold a (evaluateHold a s).1
    exact ⟨(told.onHold onHold).held, (told.limit onHold).trans (by rw [account])⟩
  · obtain ⟨-, -, account⟩ := evaluateAndTell_of_not_entered a s enters
    rw [account]
    exact ⟨rfl, rfl⟩

end

/-! ## ACCT_PAY and ACCT_LIMIT -/

/-- R50: of an account in use other than account 0. -/
theorem holdState_of_used {a : Nat} {k : Account} (ha : 1 ≤ a) (used : k.state ≠ .free) :
    holdState a k = if k.balance + k.limit < 0 then .held else .opened := by
  have h0 : a ≠ 0 := by omega
  cases hk : k.state with
  | free => exact absurd hk used
  | opened => simp [holdState, h0, hk]
  | held =>
    by_cases below : k.balance + k.limit < 0
    · simp [holdState, h0, hk, below, not_le.2 below]
    · simp [holdState, h0, hk, below, not_lt.1 below]

section
variable {a : Nat} {s : State} (h1 : 1 ≤ a) (ha : a ≤ 255) (used : (s.account a).state ≠ .free)
include ha used

/-- R53. -/
theorem acctPay_accepted {x : Int} (hx : x ≠ 0) (lo : -1000000000000 ≤ x) (hi : x ≤ 1000000000000) :
    acctPay a x s =
      accept [resultItem [.i 6 (saturate ((s.account a).balance + x)),
        enumField acctStates ((post a x s).account a).state,
        .u 1 (if saturate ((s.account a).balance + x) = (s.account a).balance + x then 0 else 1)]] (post a x s) := by
  have range : ¬x < -balanceBound ∧ ¬balanceBound < x := by
    unfold balanceBound
    omega
  have met : bitField [decide (x ≠ 0) && meetsBound (s.account a).balance x] =
      if saturate ((s.account a).balance + x) = (s.account a).balance + x then 0 else 1 := by
    unfold meetsBound
    split
    · rename_i h
      simp [h, bitField]
    · rename_i h
      simp [h, hx, bitField]
  unfold acctPay
  rw [checked_pass (by simp [within_true (Nat.zero_le _) ha, range, used])]
  dsimp only
  rw [met, if_neg hx]

include h1 in
/-- R54. -/
theorem acctLimit_accepted {limit : Nat} (hl : limit ≤ 10000000) :
    acctLimit a limit s =
      accept [resultItem [enumField acctStates
        ((evaluateAndTell a (s.setAccount a { s.account a with limit })).account a).state]]
        (evaluateAndTell a (s.setAccount a { s.account a with limit })) :=
  checked_pass (by
    have h0 : a ≠ 0 := by omega
    simp [within_true (Nat.zero_le _) ha, within_true (Nat.zero_le _) (hi := limitMax) hl, h0, used])

end

/-- Settles O28: a payment and a new limit are each a write of the account and one evaluation with its message. -/
theorem paymentsAndLimitsMoveTheHoldState : Obligations.PaymentsAndLimitsMoveTheHoldState := by
  unfold Obligations.PaymentsAndLimitsMoveTheHoldState
  intro tag a s ht h1 ha used k after
  have written (w : Account) (hw : w.state = k.state) :
      let u := s.setAccount a w
      u.account a = w ∧ holdState a (u.account a) = after w.balance w.limit := by
    have account : (s.setAccount a w).account a = w := (State.account_setAccount ..).trans (if_pos rfl)
    exact ⟨account, account.symm ▸ holdState_of_used h1 (hw.symm ▸ used)⟩
  have outcome (w : Account) (hw : w.state = k.state) {t : State}
      (hu : AsLeft (evaluateAndTell a (s.setAccount a w)) t) (bound : -balanceBound ≤ w.balance) :
      SameBut holdParts s t ∧ (t.account a).limit = w.limit ∧ (t.account a).state = after w.balance w.limit ∧
      (¬(k.state = .opened ∧ after w.balance w.limit = .held) →
        SameBut [.accounts, .feeders] s t ∧ OnlyAccount a s t ∧
        t.account a = { w with state := after w.balance w.limit }) := by
    obtain ⟨account, state⟩ := written w hw
    have kept := evaluateAndTell_state a (s.setAccount a w) (by rw [account]; exact bound)
    rw [state, account] at kept
    refine ⟨hu.sameBut (((SameBut.refl _ s).setAccount (by decide) ..).trans
      (evaluateAndTell_sameBut (fun _ h => h) a _)), ?_, ?_, fun enters => ?_⟩
    · rw [hu.account]
      exact kept.2
    · rw [hu.account]
      exact kept.1
    · have told := evaluateAndTell_of_not_entered a (s.setAccount a w) (by rw [state, account, hw]; exact enters)
      rw [state, account] at told
      obtain ⟨same, only, left⟩ := told
      exact ⟨hu.sameBut (((SameBut.refl _ s).setAccount (by decide) ..).trans same),
        hu.onlyAccount ((onlyAccount_setAccount ..).trans only), (hu.account a).trans left⟩
  refine ⟨fun x hx lo hi => ?_, fun limit hl bound => ?_⟩
  · intro balance
    obtain ⟨t, hr, hu⟩ := request_answers (i := .acctPay tag a x) rfl rfl ht (acctPay_accepted ha used hx lo hi)
    rw [post_eq a s hx] at hu hr
    obtain ⟨same, -, state, rest⟩ := outcome (posted a x s) rfl hu (saturate_inRange _).1
    rw [hu.account] at state
    rw [state] at hr
    exact ⟨t, hr, same, (hu.account a) ▸ state, rest⟩
  · obtain ⟨t, hr, hu⟩ := request_answers (i := .acctLimit tag a limit) rfl rfl ht (acctLimit_accepted h1 ha used hl)
    obtain ⟨same, limits, state, rest⟩ := outcome { s.account a with limit } rfl hu bound
    refine ⟨t, ?_, same, limits, state, rest⟩
    rw [hu.account] at state
    rw [state] at hr
    exact hr

end Sys2Proof.Machine
end

section
/-! SUPPORT. The rows of sockets and taps (O32). -/

namespace Sys2Proof.Machine

theorem closeTap_meters (n : Nat) (c : TapCause) (s : State) : MetersKept s (closeTap n c s) :=
  closeTapBy_meters settleTap_meters n c s

/-- An optional berth of a row is within its range. -/
theorem berth_within {berth : Option Nat} (h : ∀ b, berth = some b → b ≤ 255) :
    (berth.map (within 0 255)).getD true = true := by
  cases berth with
  | none => rfl
  | some b => exact within_true (Nat.zero_le _) (h b rfl)

/-! ## A socket's row -/

/-- R99: what the FAR does after a row works on the feeders alone. -/
theorem socketChanged_sameBut (n rating : Nat) (s : State) : SameBut [.feeders] s (socketChanged n rating s) := by
  have changed := reevaluate_sameBut (parts := [.feeders]) (by decide) n s
  unfold socketChanged
  dsimp only
  split
  · exact changed.trans (grantSearch_sameBut (by decide) ..)
  · exact changed

section
variable {i : Nat} {r : SocketRow} {s : State}

theorem socketRow_accepted (hi : i ≤ 255) (hb : ∀ b, r.berth = some b → b ≤ 255)
    (hr : r.rating = 16 ∨ r.rating = 32 ∨ r.rating = 63) (hc : r.cls ≤ 3) (ht : r.tariff ≤ 3)
    (keeps : r.berth ≠ (s.socketCfg i).berth ∨ r.rating ≠ (s.socketCfg i).rating → (s.socket i).supplied = false)
    (room : ∀ b, r.berth = some b → ((s.berthSockets b).filter fun n => decide (n ≠ i)).length < 2) :
    socketRow i r s = .ok (socketWritten i r s) := by
  have range : (within 0 255 i && (r.berth.map (within 0 255)).getD true && [16, 32, 63].contains r.rating &&
      within 0 3 r.cls && within 0 3 r.tariff) = true := by
    simp [within_true (Nat.zero_le _) hi, berth_within hb, within_true (Nat.zero_le _) hc,
      within_true (Nat.zero_le _) ht, hr]
  have free : ¬((r.berth ≠ (s.socketCfg i).berth ∨ r.rating ≠ (s.socketCfg i).rating) ∧ (s.socket i).supplied = true) :=
    fun ⟨changes, supplied⟩ => by rw [keeps changes] at supplied; cases supplied
  unfold socketRow
  dsimp only
  rw [if_neg (by rw [range]; decide), if_neg free]
  refine (if_neg ?_).trans rfl
  cases hb : r.berth with
  | none => exact Nat.not_le.2 Nat.two_pos
  | some b => exact Nat.not_le.2 (room b hb)

/-- R99: a socket's meter is settled where the row changes its berth or its tariff set. -/
def socketSettledFor (i : Nat) (r : SocketRow) (s : State) : State :=
  if r.berth ≠ (s.socketCfg i).berth ∨ r.tariff ≠ (s.socketCfg i).tariff then settleSocket i s else s

/-- R99: the row is written, and the residue of another tariff set zeroed. -/
def socketEntered (i : Nat) (r : SocketRow) (s : State) : State :=
  let written := (socketSettledFor i r s).setSocketCfg i ⟨r.berth, r.rating, r.cls, r.tariff⟩
  if r.tariff ≠ (s.socketCfg i).tariff then zeroSocketResidue i written else written

theorem socketWritten_eq : socketWritten i r s = socketChanged i (s.socketCfg i).rating (socketEntered i r s) := rfl

theorem socketEntered_pdl :
    (socketEntered i r s).pdl = ((socketSettledFor i r s).setSocketCfg i ⟨r.berth, r.rating, r.cls, r.tariff⟩).pdl := by
  unfold socketEntered
  dsimp only
  split <;> rfl

theorem socketEntered_sameBut : SameBut holdParts s (socketEntered i r s) := by
  have settled : SameBut holdParts s (socketSettledFor i r s) := by
    unfold socketSettledFor
    split
    · exact settleSocket_sameBut (fun _ h => h) i s
    · exact .refl _ s
  unfold socketEntered
  dsimp only
  split
  · exact (settled.setSocketCfg (by decide) ..).setSocketAcct (by decide) ..
  · exact settled.setSocketCfg (by decide) ..

/-- R99: the row stands in its place, and every other row as it was. -/
theorem socketEntered_socketCfg (j : Nat) :
    (socketEntered i r s).socketCfg j = if j = i then ⟨r.berth, r.rating, r.cls, r.tariff⟩ else s.socketCfg j := by
  have kept : (socketSettledFor i r s).pdl.sockets = s.pdl.sockets := by
    unfold socketSettledFor
    split
    · exact (settleSocket_kept i s).sockets
    · rfl
  rw [State.socketCfg, socketEntered_pdl]
  refine (State.socketCfg_setSocketCfg ..).trans ?_
  rw [State.socketCfg, kept]
  rfl

/-- R99: the meter of a socket that changes hands is empty. -/
theorem socketEntered_socketMeter (h : r.berth ≠ (s.socketCfg i).berth ∨ r.tariff ≠ (s.socketCfg i).tariff) :
    (socketEntered i r s).socketMeter i = { s.socketMeter i with unsettled := 0 } := by
  rw [State.socketMeter, socketEntered_pdl, socketSettledFor, if_pos h]
  exact (settleSocket_socketMeter i i s).trans (if_pos rfl)

/-- R67: no residue goes over to another tariff set. -/
theorem socketEntered_residue (h : r.tariff ≠ (s.socketCfg i).tariff) :
    ((socketEntered i r s).socketAcct i).residue = 0 := by
  unfold socketEntered
  dsimp only
  rw [if_pos h, zeroSocketResidue, State.socketAcct_setSocketAcct, if_pos rfl]

end

/-! ## A tap's row -/

section
variable {i : Nat} {r : TapRow} {s : State}

theorem tapRow_accepted (hi : i ≤ 127) (hb : ∀ b, r.berth = some b → b ≤ 255) (ht : r.tariff ≤ 3)
    (hl : 1 ≤ r.runLimit ∧ r.runLimit ≤ 120) (room : ∀ b, r.berth = some b → ∀ n ∈ s.berthTaps b, n = i) :
    tapRow i r s = .ok (tapWritten i r s) := by
  have range : (within 0 127 i && (r.berth.map (within 0 255)).getD true && within 0 3 r.tariff &&
      within 1 120 r.runLimit) = true := by
    simp [within_true (Nat.zero_le _) hi, berth_within hb, within_true (Nat.zero_le _) ht, within_iff.2 hl]
  unfold tapRow
  dsimp only
  rw [if_neg (by rw [range]; decide)]
  refine (if_neg ?_).trans rfl
  cases hb : r.berth with
  | none => exact Bool.false_ne_true
  | some b =>
    simp only [List.any_eq_true, decide_eq_true_eq, not_exists, not_and, not_not]
    exact room b hb

/-- R98, R100: a tap whose row changes its berth is closed, and one that changes hands settled. -/
def tapSettledFor (i : Nat) (r : TapRow) (s : State) : State :=
  let closed := if r.berth ≠ (s.tapCfg i).berth then closeTap i .host s else s
  if r.berth ≠ (s.tapCfg i).berth ∨ r.tariff ≠ (s.tapCfg i).tariff then settleTap i closed else closed

theorem tapWritten_eq :
    tapWritten i r s =
      let written := (tapSettledFor i r s).setTapCfg i ⟨r.berth, r.tariff, r.runLimit⟩
      if r.tariff ≠ (s.tapCfg i).tariff then written.setTapResidue i 0 else written := rfl

theorem tapWritten_pdl :
    (tapWritten i r s).pdl = ((tapSettledFor i r s).setTapCfg i ⟨r.berth, r.tariff, r.runLimit⟩).pdl := by
  rw [tapWritten_eq]
  dsimp only
  split <;> rfl

theorem tapWritten_sameBut : SameBut holdParts s (tapWritten i r s) := by
  have closed : SameBut holdParts s (if r.berth ≠ (s.tapCfg i).berth then closeTap i .host s else s) := by
    split
    · exact closeTap_sameBut (fun _ h => h) ..
    · exact .refl _ s
  have settled : SameBut holdParts s (tapSettledFor i r s) := by
    unfold tapSettledFor
    dsimp only
    split
    · exact closed.trans (settleTap_sameBut (fun _ h => h) ..)
    · exact closed
  rw [tapWritten_eq]
  dsimp only
  split
  · exact (settled.setTapCfg (by decide) ..).setTapResidue (by decide) ..
  · exact settled.setTapCfg (by decide) ..

/-- R100: the row stands in its place, and every other row as it was. -/
theorem tapWritten_tapCfg (j : Nat) :
    (tapWritten i r s).tapCfg j = if j = i then ⟨r.berth, r.tariff, r.runLimit⟩ else s.tapCfg j := by
  have kept : ChargeKept s (tapSettledFor i r s) := by
    have closed : ChargeKept s (if r.berth ≠ (s.tapCfg i).berth then closeTap i .host s else s) := by
      split
      · exact closeTap_kept ..
      · exact .refl s
    unfold tapSettledFor
    dsimp only
    split
    · exact closed.trans (settleTap_kept ..)
    · exact closed
  rw [State.tapCfg, tapWritten_pdl]
  refine (State.tapCfg_setTapCfg ..).trans ?_
  rw [State.tapCfg, kept.taps]
  rfl

/-- R100: the meter of a tap that changes hands is empty. -/
theorem tapWritten_tapMeter (h : r.berth ≠ (s.tapCfg i).berth ∨ r.tariff ≠ (s.tapCfg i).tariff) :
    (tapWritten i r s).tapMeter i = { s.tapMeter i with unsettled := 0 } := by
  have closed : MetersKept s (if r.berth ≠ (s.tapCfg i).berth then closeTap i .host s else s) := by
    split
    · exact closeTap_meters ..
    · exact .refl s
  rw [State.tapMeter, tapWritten_pdl, tapSettledFor, if_pos h]
  exact (settleTap_tapMeter ..).trans (meter_emptied (closed.tapBaseline i) rfl)

/-- R98, R100: a tap whose berth changes is CLOSED. -/
theorem tapWritten_run (h : r.berth ≠ (s.tapCfg i).berth) : (tapWritten i r s).run i = none := by
  rw [State.run, tapWritten_pdl, tapSettledFor, if_pos (.inl h), if_pos h]
  exact (settleTap_kept i _).closed i (closeTap_run i .host s)

/-- R67. -/
theorem tapWritten_residue (h : r.tariff ≠ (s.tapCfg i).tariff) : (tapWritten i r s).tapResidue i = 0 := by
  rw [tapWritten_eq]
  dsimp only
  rw [if_pos h, State.tapResidue_setTapResidue, if_pos rfl]

end

/-- Settles O32: the rows' checks, and what each step of a row leaves. -/
theorem socketAndTapPutWriteTheRow : Obligations.SocketAndTapPutWriteTheRow := by
  unfold Obligations.SocketAndTapPutWriteTheRow
  have most : 1 ≤ 15 := by decide
  intro tag i s ht
  refine ⟨fun r hi hb hr hc hf => ?_, fun r hi hb hf h1 h2 => ?_⟩
  · intro old keeps room
    obtain ⟨t, hr, hu⟩ := request_answers (i := .socketPut tag i [.row r]) rfl rfl ht
      (multiPut_one most (socketRow_accepted hi hb hr hc hf keeps room))
    rw [socketWritten_eq] at hu
    have changed := socketChanged_sameBut i (s.socketCfg i).rating (socketEntered i r s)
    have pdl : t.pdl = (socketEntered i r s).pdl := hu.pdl.trans (changed.line.resolve_left (by decide))
    have acu : t.acu = (socketEntered i r s).acu := hu.acu.trans changed.acu_eq
    refine ⟨t, hr, hu.sameBut (socketEntered_sameBut.trans (changed.mono (by decide))), fun j => ?_, fun h => ?_,
      fun h => ?_⟩
    · rw [State.socketCfg, pdl]
      exact socketEntered_socketCfg j
    · rw [State.socketMeter, pdl]
      exact socketEntered_socketMeter h
    · rw [State.socketAcct, acu]
      exact socketEntered_residue h
  · intro old room
    obtain ⟨t, hr, hu⟩ := request_answers (i := .tapPut tag i [.row r]) rfl rfl ht
      (multiPut_one most (tapRow_accepted hi hb hf ⟨h1, h2⟩ room))
    refine ⟨t, hr, hu.sameBut tapWritten_sameBut, fun j => ?_, fun h => ?_, fun h => ?_, fun h => ?_⟩
    · rw [State.tapCfg, hu.pdl]
      exact tapWritten_tapCfg j
    · rw [State.tapMeter, hu.pdl]
      exact tapWritten_tapMeter h
    · rw [State.run, hu.pdl]
      exact tapWritten_run h
    · rw [State.tapResidue, hu.acu]
      exact tapWritten_residue h

end Sys2Proof.Machine
end

section
/-! SUPPORT. An authorisation (O42), and a self-serve offer (O49). -/

namespace Sys2Proof.Machine

/-! ## An authorisation (R143) -/

/-- R147: the fuelling state of a sale that begins. -/
theorem flowState_flowsAt (limit slow : Nat) : FlowsAt 0 limit slow (flowState 0 limit slow) := by
  unfold FlowsAt flowState
  split
  · exact .inl ⟨‹_›, rfl⟩
  split
  · exact .inr (.inl ⟨by omega, by omega, rfl⟩)
  · exact .inr (.inr ⟨by omega, rfl⟩)

/-- R147: a record takes the end reason LIMIT where the hose went to CLOSING. -/
def limitReached (number : Nat) (state : HoseState) (y : Sale) : Sale :=
  if state = .closing ∧ y.number = number then { y with reason := some .limit } else y

theorem map_limitReached_of_not_closing {state : HoseState} (h : state ≠ .closing) (number : Nat) (l : List Sale) :
    l.map (limitReached number state) = l := by
  have same : limitReached number state = id := funext fun y => if_neg fun ⟨closing, _⟩ => h closing
  rw [same, List.map_id]

section
variable (h : Nat) (x : Sale) (s : State)

/-- R147: what entering the fuelling states leaves of the fuel dock. -/
theorem enterFuelling_eq :
    enterFuelling h x s =
      let state := flowState 0 x.volLimit (s.hoseCfg h).slowDown
      (enterHose h state (some x.number) none (some s.uptime) s).setSales
        (s.fdc.sales.map (limitReached x.number state)) := by
  unfold enterFuelling
  dsimp only
  split
  · rename_i closing
    unfold setReason updateSale limitReached
    simp only [closing, true_and]
    rfl
  · rename_i flows
    rw [map_limitReached_of_not_closing flows]
    rfl

end

section
variable (a : Auth) (s : State)

/-- R143: the state a hose takes by an authorisation. -/
def authorisedState : HoseState :=
  if (s.hose a.hose).state = .calling then flowState 0 (newSale a s).volLimit (s.hoseCfg a.hose).slowDown
  else .authorised

/-- R143: the hose's record after an authorisation. -/
def authorisedHose : Hose :=
  { state := authorisedState a s, lifted := (s.hose a.hose).lifted, sale := some s.fdc.nextSale,
    authSince := if (s.hose a.hose).state = .calling then none else some s.uptime,
    flowSince := if (s.hose a.hose).state = .calling then some s.uptime else none, stray := 0, strayReported := false }

/-- R143: the queue after an authorisation. -/
def authorisedSales : List Sale :=
  (s.fdc.sales ++ [newSale a s]).map (limitReached (newSale a s).number (authorisedState a s))

theorem addEarmark_blocks (x : Sale) : addEarmark x s = { s with acu := (addEarmark x s).acu } := by
  unfold addEarmark
  split <;> rfl

/-- R58, R138, R143: an authorisation writes the earmark, the queue with the next sale number, and the hose. -/
theorem authorise_eq :
    authorise a s =
      ({ s with
        acu := (addEarmark (newSale a s) s).acu
        fdc := { s.fdc with sales := authorisedSales a s, nextSale := nextNumber s.fdc.nextSale } }).setHose a.hose
        (authorisedHose a s) := by
  unfold authorise authorisedSales authorisedHose authorisedState
  dsimp only
  rw [addEarmark_blocks]
  split
  · rw [enterFuelling_eq]
    rfl
  · rw [map_limitReached_of_not_closing (by decide)]
    rfl

theorem authorise_hose (j : Nat) : (authorise a s).hose j = if j = a.hose then authorisedHose a s else s.hose j := by
  rw [authorise_eq]
  exact State.hose_setHose ..

theorem authorise_hose_self : (authorise a s).hose a.hose = authorisedHose a s :=
  (authorise_hose a s a.hose).trans (if_pos rfl)

theorem authorise_fdc :
    (authorise a s).fdc = { s.fdc with
      sales := (authorise a s).fdc.sales, hoses := (authorise a s).fdc.hoses, nextSale := nextNumber s.fdc.nextSale } := by
  rw [authorise_eq]
  rfl

theorem authorise_sales : (authorise a s).fdc.sales = authorisedSales a s := by
  rw [authorise_eq]
  rfl

theorem authorise_gtc : (authorise a s).gtc = s.gtc := by
  rw [authorise_eq]
  rfl

theorem authorise_hlc : (authorise a s).hlc = s.hlc := by
  rw [authorise_eq]
  rfl

theorem authorise_clk : (authorise a s).clk = s.clk := by
  rw [authorise_eq]
  rfl

theorem authorise_sameBut : SameBut [.fuel, .accounts] s (authorise a s) := by
  rw [authorise_eq]
  have written : SameBut [.fuel, .accounts] s { s with acu := (addEarmark (newSale a s) s).acu } :=
    .writeAcu (by decide) s _
  exact (written.trans (.writeFdc (by decide) _ _)).setHose (by decide) ..

/-- R58: the earmark of M on the account of a sale on account. -/
theorem authorise_account (j : Nat) :
    (authorise a s).account j =
      if a.mode = .account ∧ a.account = some j then
        { s.account j with earmark := (s.account j).earmark + (newSale a s).maxAmount }
      else s.account j := by
  have earmarked : (authorise a s).account j = (addEarmark (newSale a s) s).account j := by
    rw [authorise_eq]
    rfl
  have mode : (newSale a s).mode = a.mode := rfl
  have account : (newSale a s).account = a.account := rfl
  rw [earmarked]
  unfold addEarmark
  rw [mode, account]
  cases hm : a.mode with
  | account =>
    cases ha : a.account with
    | none => simp
    | some b =>
      dsimp only
      rw [State.account_setAccount]
      by_cases hb : j = b
      · simp [hb]
      · simp [hb, Ne.symm hb]
  | prepaid => simp
  | house => simp

/-- R143: an IDLE hose waits for its nozzle. -/
theorem authorisedHose_of_idle (h : (s.hose a.hose).state = .idle) :
    (authorisedHose a s).state = .authorised ∧ (authorisedHose a s).authSince = some s.uptime := by
  simp [authorisedHose, authorisedState, h]

/-- R143, R147: a CALLING hose goes straight to the fuelling states. -/
theorem authorisedHose_of_calling (h : (s.hose a.hose).state = .calling) :
    FlowsAt 0 (newSale a s).volLimit (s.hoseCfg a.hose).slowDown (authorisedHose a s).state ∧
      (authorisedHose a s).flowSince = some s.uptime := by
  have state : (authorisedHose a s).state = flowState 0 (newSale a s).volLimit (s.hoseCfg a.hose).slowDown := if_pos h
  rw [state]
  exact ⟨flowState_flowsAt .., if_pos h⟩

end

/-! ## HOSE_AUTH -/

/-- R141: an authorisation that no check refuses. -/
theorem hoseAuth_accepted {r : AuthRequest} {mode : SaleMode} {kind : PresetKind} {s : State} (ready : s.fdc.ready = true)
    (hh : 1 ≤ r.hose ∧ r.hose ≤ 4) (hm : valueOf saleModes r.mode = some mode)
    (hk : valueOf presetKinds r.presetKind = some kind) (fields : modeFields mode r.account r.prepaid = true)
    (preset : presetFields kind r.presetValue = true) (free : (s.hose r.hose).state ∈ [HoseState.idle, .calling])
    (price : 0 < s.price (s.hoseCfg r.hose).grade) (room : s.fdc.sales.length < 16)
    (opened : mode = .account → (s.account (r.account.getD 0)).state = .opened)
    (credit : mode = .account → r.account.getD 0 ≠ 0 → 0 < (s.account (r.account.getD 0)).available) :
    let a : Auth := ⟨r.hose, mode, r.account, r.prepaid, kind, r.presetValue, none⟩
    hoseAuth r s =
      accept [resultItem [.u 2 s.fdc.nextSale, .u 4 (newSale a s).maxAmount, .u 4 (newSale a s).volLimit,
        enumField hoseStates (authorisedHose a s).state]] (authorise a s) := by
  intro a
  have pass : ∀ c ∈ (!(within 1 4 r.hose && modeFields mode r.account r.prepaid && presetFields kind r.presetValue),
      Status.range) :: authChecks a false s, c.1 = false := by
    have house : ¬s.price (s.hoseCfg r.hose).grade = 0 := by omega
    have state : ¬((s.hose r.hose).state ≠ .idle ∧ (s.hose r.hose).state ≠ .calling) := by
      simp only [List.mem_cons, List.not_mem_nil, or_false] at free
      exact fun ⟨idle, calling⟩ => free.elim idle calling
    simp only [List.forall_mem_cons, authChecks, within_iff.2 hh, fields, preset, a]
    simp only [house, Bool.and_self, Bool.not_true, Bool.or_self, decide_false, Nat.not_le.2 room, true_and,
      ← Bool.decide_and, state, decide_eq_false_iff_not]
    by_cases account : mode = .account
    · have avail (h : r.account.getD 0 ≠ 0) := not_le.2 (credit account h)
      simp [opened account]
      tauto
    · simp [account]
  unfold hoseAuth
  rw [ready, hm, hk]
  rw [if_neg (by decide)]
  dsimp only
  rw [checked_pass pass, show ((authorise a s).hose r.hose) = authorisedHose a s from authorise_hose_self a s]
  rfl

/-- Settles O42: the checks pass, and the authorisation is one write of the dock and of the account. -/
theorem hoseAuthOpensASale : Obligations.HoseAuthOpensASale := by
  unfold Obligations.HoseAuthOpensASale
  intro tag r mode kind s ht ready h1 h4 hm hk fields preset free price room opened credit a x
  obtain ⟨t, hr, hu⟩ := request_answers (i := .hoseAuth tag r) rfl rfl ht
    (hoseAuth_accepted ready ⟨h1, h4⟩ hm hk fields preset free price room opened credit)
  have fdc : t.fdc = (authorise a s).fdc := by rw [hu.blocks]
  have hose (j : Nat) : t.hose j = (authorise a s).hose j := by
    rw [State.hose, fdc]
    rfl
  have own : t.hose r.hose = authorisedHose a s := (hose _).trans (authorise_hose_self a s)
  have sales : t.fdc.sales = authorisedSales a s := by rw [fdc, authorise_sales]
  refine ⟨t, (authorisedHose a s).state, hr, hu.sameBut (authorise_sameBut a s), hu.raises (raises_of_hlc (authorise_hlc a s)),
    ?_, fun j hj => (hose j).trans ((authorise_hose a s j).trans (if_neg hj)), by rw [own], by rw [own]; rfl,
    fun idle => ?_, fun calling => ?_, fun j => ?_⟩
  · rw [fdc]
    exact authorise_fdc a s
  · obtain ⟨state, since⟩ := authorisedHose_of_idle a s idle
    refine ⟨state, by rw [own, since], ?_⟩
    have state : authorisedState a s = .authorised := state
    rw [sales, authorisedSales, state, map_limitReached_of_not_closing (by decide)]
  · obtain ⟨flows, since⟩ := authorisedHose_of_calling a s calling
    exact ⟨flows, by rw [own, since], sales⟩
  · rw [hu.account, authorise_account]
    refine if_congr (and_congr_right fun account => ?_) rfl rfl
    have fields : modeFields .account r.account r.prepaid = true := account ▸ fields
    cases ha : r.account with
    | none => rw [ha] at fields; cases fields
    | some b => simp [eq_comm]

/-! ## A self-serve offer -/

theorem firstFailed_eq_firstFailing (checks : List (Bool × Status)) : firstFailed checks = firstFailing checks := by
  induction checks with
  | nil => rfl
  | cons c rest ih =>
    obtain ⟨bad, code⟩ := c
    cases bad with
    | true => rfl
    | false => exact ih

/-- R145: the checks of an offer are R155's, and those of an authorisation on account. -/
theorem offerChecks_eq (o : Offer) (s : State) :
    offerChecks s o =
      (!s.fdc.ready, .state) :: (!(within 1 4 o.hose && modeFields .account o.account none), .range) ::
        authChecks (offerAuth o s) (decide (s.fdc.cap = 0)) s := by
  have range : decide (o.hose < 1 ∨ 4 < o.hose ∨ o.account = none ∨ 255 < o.account.getD 0) =
      !(within 1 4 o.hose && modeFields .account o.account none) := by
    rw [Bool.eq_iff_iff]
    cases o.account with
    | none => simp [modeFields, within]
    | some b => simp [modeFields, within]; omega
  unfold offerChecks authChecks offerAuth
  simp only [range, Bool.decide_and, Bool.decide_or, decide_true, Bool.true_and, Account.available]
  rfl

theorem offerRefused_eq (o : Offer) (s : State) : s.offerRefused o = firstFailed (offerChecks s o) := by
  rw [firstFailed_eq_firstFailing, offerChecks_eq, State.offerRefused]
  rfl

/-- R183: the credential of a use is stamped, while its record is not FREE. -/
theorem touchCred_cred (c j : Nat) (s : State) :
    (touchCred c s).cred j =
      if j = c ∧ (s.cred j).state ≠ .free then { s.cred j with lastUse := some s.now } else s.cred j := by
  unfold touchCred
  by_cases free : (s.cred c).state = .free
  · rw [if_pos free, if_neg]
    rintro ⟨rfl, used⟩
    exact used free
  · rw [if_neg free, State.cred_setCred]
    by_cases hj : j = c
    · subst hj
      simp [free]
    · simp [hj]

theorem touchCred_gatesOnly (c : Nat) (s : State) : GatesOnly s (touchCred c s) := by
  unfold touchCred
  split
  · exact .refl s
  · exact ⟨rfl⟩

/-- R145, R183: the sale is opened, its credential stamped, the offer taken and the lamp GREEN. -/
def offerAccepted (o : Offer) (s : State) : State :=
  lampGreen (endOffer (touchCred o.cred (authorise (offerAuth o s) s)))

theorem offerAccepted_gatesOnly (o : Offer) (s : State) :
    GatesOnly (authorise (offerAuth o s) s) (offerAccepted o s) :=
  (touchCred_gatesOnly o.cred _).trans ⟨rfl⟩

/-- R183: a refused offer ends and lights the lamp RED. -/
theorem selfServeOffer_refused {o : Offer} {s : State} {code : Status} (offer : s.gtc.fuel.offer = some o)
    (refused : s.offerRefused o = some code) :
    selfServeOffer s = (lampRed (endOffer s)).raise (.gateFuel o.cred o.hose code none) := by
  unfold selfServeOffer
  rw [offer]
  dsimp only
  rw [refused]

theorem selfServeOffer_accepted {o : Offer} {s : State} (offer : s.gtc.fuel.offer = some o)
    (accepted : s.offerRefused o = none) :
    selfServeOffer s = (offerAccepted o s).raise (.gateFuel o.cred o.hose .ok (some s.fdc.nextSale)) := by
  unfold selfServeOffer
  rw [offer]
  dsimp only
  rw [accepted]
  rfl

section
variable (o : Offer) (s : State)

theorem offerAccepted_fuel :
    (offerAccepted o s).gtc.fuel = { s.gtc.fuel with offer := none, lamp := .green s.uptime } := by
  have touched : (touchCred o.cred (authorise (offerAuth o s) s)).gtc.fuel = s.gtc.fuel := by
    rw [← authorise_gtc (offerAuth o s) s, touchCred]
    split <;> rfl
  have clk : (endOffer (touchCred o.cred (authorise (offerAuth o s) s))).clk = s.clk :=
    (touchCred_gatesOnly o.cred _).clk.trans (authorise_clk ..)
  rw [offerAccepted, lampGreen, State.uptime, clk, endOffer, touched]
  rfl

theorem offerAccepted_cred (j : Nat) :
    (offerAccepted o s).cred j =
      if j = o.cred ∧ (s.cred j).state ≠ .free then { s.cred j with lastUse := some s.now } else s.cred j := by
  have cred : (authorise (offerAuth o s) s).cred j = s.cred j := by
    rw [State.cred, authorise_gtc]
    rfl
  have now : (authorise (offerAuth o s) s).now = s.now := by
    rw [State.now, authorise_clk]
    rfl
  have kept (u : State) : (lampGreen (endOffer u)).cred j = u.cred j := rfl
  rw [offerAccepted, kept, touchCred_cred, cred, now]

theorem offerAccepted_sameBut : SameBut [.fuel, .accounts, .gates] s (offerAccepted o s) := by
  rw [(offerAccepted_gatesOnly o s).blocks]
  exact ((authorise_sameBut ..).mono (by decide)).trans (.writeGtc (by decide) _ _)

theorem offerAccepted_raises :
    Raises [.gateFuel o.cred o.hose .ok (some s.fdc.nextSale)] s
      ((offerAccepted o s).raise (.gateFuel o.cred o.hose .ok (some s.fdc.nextSale))) :=
  raises_raise _ ((offerAccepted_gatesOnly o s).hlc.trans (authorise_hlc ..))
    ((offerAccepted_gatesOnly o s).clk.trans (authorise_clk ..))

theorem offerAccepted_fdc : (offerAccepted o s).fdc = (authorise (offerAuth o s) s).fdc := by
  rw [(offerAccepted_gatesOnly o s).blocks]

theorem offerAccepted_acu : (offerAccepted o s).acu = (authorise (offerAuth o s) s).acu := by
  rw [(offerAccepted_gatesOnly o s).blocks]

end

/-- Settles O49: the checks one by one, and the two outcomes of an offer. -/
theorem selfServeOfferIsDecided : Obligations.SelfServeOfferIsDecided := by
  unfold Obligations.SelfServeOfferIsDecided
  refine ⟨offerRefused_eq, fun o s running offer => ?_⟩
  obtain ⟨hu, -⟩ := event_asLeft (f := selfServeOffer) running
  refine ⟨event selfServeOffer s, rfl, ?_⟩
  generalize event selfServeOffer s = t at hu
  cases refused : s.offerRefused o with
  | some code =>
    rw [selfServeOffer_refused offer refused] at hu
    have ended : SameBut [.gates] s (lampRed (endOffer s)) :=
      ((SameBut.refl _ s).setFuel (by decide) _).setFuel (by decide) _
    have left : SameBut [.gates] s t := hu.sameBut (ended.raise _)
    refine ⟨left.mono (by decide), by rw [hu.gtc]; rfl, fun c hc => ?_, fun h => by cases h⟩
    cases hc
    exact ⟨left, by rw [hu.gtc]; rfl, by rw [hu.gtc]; rfl, hu.raises (raises_raise _ rfl rfl)⟩
  | none =>
    rw [selfServeOffer_accepted offer refused] at hu
    have gtc : t.gtc = (offerAccepted o s).gtc := hu.gtc
    have fuel : t.gtc.fuel = { s.gtc.fuel with offer := none, lamp := .green s.uptime } := by
      rw [gtc, offerAccepted_fuel]
    have fdc : t.fdc = (authorise (offerAuth o s) s).fdc := by
      rw [hu.blocks, ← offerAccepted_fdc]
      rfl
    have acu : t.acu = (authorise (offerAuth o s) s).acu := hu.acu.trans (offerAccepted_acu o s)
    refine ⟨hu.sameBut ((offerAccepted_sameBut o s).raise _), by rw [fuel], fun _ h => (by cases h), fun _ => ?_⟩
    intro x state
    have hose (j : Nat) : t.hose j = (authorise (offerAuth o s) s).hose j := by
      rw [State.hose, fdc]
      rfl
    have own : t.hose o.hose = authorisedHose (offerAuth o s) s :=
      (hose _).trans (authorise_hose_self (offerAuth o s) s)
    have state_eq : state = (authorisedHose (offerAuth o s) s).state := congrArg Hose.state own
    have sales : t.fdc.sales = authorisedSales (offerAuth o s) s := by rw [fdc, authorise_sales]
    refine ⟨by rw [fuel], by rw [own]; rfl, rfl, rfl, rfl, rfl, rfl, ?_, ?_,
      fun j hj => (hose j).trans ((authorise_hose _ s j).trans (if_neg hj)), fun idle => ?_, fun calling => ?_,
      fun j => ?_, fun j => ?_, hu.raises (offerAccepted_raises o s)⟩
    · rw [sales, state_eq]
      rfl
    · rw [fdc]
      exact authorise_fdc _ s
    · rw [state_eq, own]
      exact authorisedHose_of_idle _ s idle
    · rw [state_eq, own]
      exact authorisedHose_of_calling (offerAuth o s) s calling
    · rw [State.account, acu]
      refine (authorise_account (offerAuth o s) s j).trans (if_congr ?_ rfl rfl)
      simp [offerAuth]
    · rw [State.cred, gtc]
      exact offerAccepted_cred o s j

end Sys2Proof.Machine
end

section
/-! SUPPORT. A pass of the grant search (R107, R111) and the grant stamps (R103), for O36. -/

namespace Sys2Proof.Machine

/-! ## The first that fits -/

section
variable {test : Nat → Bool} {l : List Nat}

theorem firstFit_eq_none (skipped : List Nat) : firstFit test skipped l = none ↔ ∀ n ∈ l, test n = false := by
  induction l generalizing skipped with
  | nil => simp [firstFit]
  | cons a rest ih =>
    rw [firstFit]
    cases ha : test a with
    | true => simp [ha]
    | false => simp [ha, ih]

/-- The first of a list that passes, with those before it, none of which does. -/
theorem firstFit_eq_some {n : Nat} (skipped later : List Nat) :
    firstFit test skipped l = some (n, later) ↔
      test n = true ∧ ∃ before rest, l = before ++ n :: rest ∧ later = skipped.reverse ++ before ∧
        ∀ m ∈ before, test m = false := by
  induction l generalizing skipped with
  | nil => simp [firstFit]
  | cons a rest ih =>
    rw [firstFit]
    cases ha : test a with
    | true =>
      rw [if_pos rfl]
      constructor
      · intro h
        cases h
        exact ⟨ha, [], rest, rfl, by simp, by simp⟩
      · rintro ⟨-, before, tail, hl, rfl, fails⟩
        cases before with
        | nil =>
          cases hl
          simp
        | cons b before =>
          cases hl
          rw [fails a List.mem_cons_self] at ha
          cases ha
    | false =>
      rw [if_neg Bool.false_ne_true, ih]
      constructor
      · rintro ⟨passes, before, tail, rfl, rfl, fails⟩
        refine ⟨passes, a :: before, tail, rfl, by simp, ?_⟩
        simpa [ha] using fails
      · rintro ⟨passes, before, tail, hl, rfl, fails⟩
        cases before with
        | nil =>
          cases hl
          rw [passes] at ha
          cases ha
        | cons b before =>
          cases hl
          exact ⟨passes, before, tail, rfl, by simp, fun m hm => fails m (List.mem_cons_of_mem _ hm)⟩

end

section
variable {f : Nat} {s : State}

/-- R111: a pass grants nothing where nothing in its order fits. -/
theorem pass_eq_none : s.pass f = none ↔ ∀ n ∈ s.passOrder f, s.fits f n = false := firstFit_eq_none []

/-- R111: a pass grants the first in its order that fits. -/
theorem pass_eq_some {n : Nat} {skipped : List Nat} :
    s.pass f = some (n, skipped) ↔
      s.fits f n = true ∧ (∀ m ∈ skipped, s.fits f m = false) ∧ ∃ rest, s.passOrder f = skipped ++ n :: rest := by
  refine (firstFit_eq_some [] skipped).trans (and_congr_right fun _ => ?_)
  constructor
  · rintro ⟨before, rest, order, rfl, fails⟩
    exact ⟨fails, rest, order⟩
  · rintro ⟨fails, rest, order⟩
    exact ⟨skipped, rest, order, rfl, fails⟩

theorem passOrder_of_blocking {n : Nat} (h : (s.feeder f).blocking = some n) : s.passOrder f = [n] := by
  rw [State.passOrder, h]

theorem passOrder_of_none (h : (s.feeder f).blocking = none) : s.passOrder f = s.rotation f := by
  rw [State.passOrder, h]

theorem fits_iff {n : Nat} :
    s.fits f n = true ↔ (s.feeder f).reserved + s.reservation n ≤ (s.feederCfg f).limit := decide_eq_true_iff

theorem fits_eq_false {n : Nat} :
    s.fits f n = false ↔ ¬(s.feeder f).reserved + s.reservation n ≤ (s.feederCfg f).limit := decide_eq_false_iff_not

/-- R111: where there is a blocking request, a pass grants no other socket and passes over none. -/
theorem pass_of_blocking {m n : Nat} {skipped : List Nat} (h : (s.feeder f).blocking = some m)
    (hp : s.pass f = some (n, skipped)) : m = n ∧ skipped = [] := by
  obtain ⟨-, -, rest, order⟩ := pass_eq_some.1 hp
  rw [passOrder_of_blocking h] at order
  cases skipped with
  | nil =>
    cases order
    exact ⟨rfl, rfl⟩
  | cons a skipped => simp at order

/-- R111: the order of an ascending pending set names each socket once. -/
theorem rotation_nodup (h : (s.feeder f).pending.Nodup) : (s.rotation f).Nodup := by
  refine List.nodup_flatMap.2 ⟨fun c _ => ?_, ?_⟩
  · have own := h.filter fun n => decide ((s.socketCfg n).cls = c)
    refine List.Nodup.append (own.filter _) (own.filter _) fun n hn hm => ?_
    have after := (List.mem_filter.1 hn).2
    have upto := (List.mem_filter.1 hm).2
    simp only [decide_eq_true_eq] at after upto
    omega
  · have cls {c n : Nat} (hn : n ∈ cyclicFrom (tableGet 0 (s.feeder f).pointers c)
        ((s.feeder f).pending.filter fun n => decide ((s.socketCfg n).cls = c))) : (s.socketCfg n).cls = c := by
      rcases List.mem_append.1 hn with hn | hn <;>
        exact of_decide_eq_true (List.mem_filter.1 (List.mem_of_mem_filter hn)).2
    have apart : [0, 1, 2, 3].Pairwise fun c d : Nat => c ≠ d := by decide
    exact apart.imp fun hne n hc hd => hne ((cls hc).symm.trans (cls hd))

/-- R111: the sockets passed over are each passed over once. -/
theorem skipped_nodup {n : Nat} {skipped : List Nat} (h : (s.feeder f).pending.Nodup)
    (hp : s.pass f = some (n, skipped)) : skipped.Nodup := by
  cases hb : (s.feeder f).blocking with
  | some m =>
    rw [(pass_of_blocking hb hp).2]
    exact .nil
  | none =>
    obtain ⟨-, -, rest, order⟩ := pass_eq_some.1 hp
    have nodup := rotation_nodup h
    rw [← passOrder_of_none hb, order] at nodup
    exact (List.nodup_append'.1 nodup).1

end

/-! ## Sorting by a key -/

theorem insertBy_sorted {α : Type} (key : α → Nat) (x : α) {l : List α} (h : l.Pairwise fun a b => key a ≤ key b) :
    (insertBy (fun a b => decide (key a < key b)) x l).Pairwise fun a b => key a ≤ key b := by
  induction l with
  | nil => exact List.pairwise_singleton ..
  | cons y rest ih =>
    obtain ⟨first, later⟩ := List.pairwise_cons.1 h
    rw [insertBy]
    split
    · rename_i before
      have before : key x < key y := of_decide_eq_true before
      refine List.pairwise_cons.2 ⟨fun z hz => ?_, h⟩
      rcases List.mem_cons.1 hz with rfl | hz
      · exact before.le
      · exact before.le.trans (first z hz)
    · rename_i behind
      have behind : key y ≤ key x := by simpa using behind
      refine List.pairwise_cons.2 ⟨fun z hz => ?_, ih later⟩
      rcases List.mem_cons.1 ((insertBy_perm ..).mem_iff.1 hz) with rfl | hz
      · exact behind
      · exact first z hz

theorem sortBy_sorted {α : Type} (key : α → Nat) (l : List α) :
    (sortBy (fun a b => decide (key a < key b)) l).Pairwise fun a b => key a ≤ key b := by
  induction l with
  | nil => exact .nil
  | cons x rest ih => exact insertBy_sorted key x ih

/-! ## Grant stamps (R103) -/

/-- A write of sockets' records and of the grant counter. -/
structure StampsOnly (s t : State) : Prop where
  blocks : t = { s with far := { s.far with sockets := t.far.sockets, counter := t.far.counter } }

namespace StampsOnly

variable {s t u : State}

theorem refl (s : State) : StampsOnly s s := ⟨rfl⟩

theorem trans (h : StampsOnly s t) (k : StampsOnly t u) : StampsOnly s u := by
  refine ⟨k.blocks.trans ?_⟩
  rw [h.blocks]

theorem foldl {α : Type} (f : State → α → State) (h : ∀ s a, StampsOnly s (f s a)) (l : List α) (s : State) :
    StampsOnly s (l.foldl f s) := foldl_keeps refl trans f h l s

theorem feeder (h : StampsOnly s t) (f : Nat) : t.feeder f = s.feeder f := by rw [h.blocks]; rfl
theorem feederCfg (h : StampsOnly s t) (f : Nat) : t.feederCfg f = s.feederCfg f := by rw [h.blocks]; rfl
theorem cfg (h : StampsOnly s t) : t.far.cfg = s.far.cfg := by rw [h.blocks]
theorem pdl (h : StampsOnly s t) : t.pdl = s.pdl := by rw [h.blocks]
theorem hlc (h : StampsOnly s t) : t.hlc = s.hlc := by rw [h.blocks]
theorem clk (h : StampsOnly s t) : t.clk = s.clk := by rw [h.blocks]

end StampsOnly

/-- One step of a renumbering: an entry's socket takes a stamp. -/
def stampEntry (t : State) (e : (Nat × Socket) × Nat) : State :=
  t.setSocket e.1.1 { t.socket e.1.1 with stamp := some e.2 }

theorem stampEntry_socket (t : State) (e : (Nat × Socket) × Nat) (j : Nat) :
    (stampEntry t e).socket j = if j = e.1.1 then { t.socket e.1.1 with stamp := some e.2 } else t.socket j :=
  State.socket_setSocket ..

section
variable {l : List ((Nat × Socket) × Nat)} {s : State}

theorem stampAll_socket_of_unlisted {j : Nat} (h : ∀ e ∈ l, e.1.1 ≠ j) : (l.foldl stampEntry s).socket j = s.socket j := by
  induction l generalizing s with
  | nil => rfl
  | cons e rest ih =>
    rw [List.foldl_cons, ih fun d hd => h d (List.mem_cons_of_mem _ hd), stampEntry_socket,
      if_neg (h e List.mem_cons_self).symm]

theorem stampAll_socket_of_listed (nodup : (l.map (·.1.1)).Nodup) {e : (Nat × Socket) × Nat} (he : e ∈ l) :
    (l.foldl stampEntry s).socket e.1.1 = { s.socket e.1.1 with stamp := some e.2 } := by
  induction l generalizing s with
  | nil => cases he
  | cons d rest ih =>
    obtain ⟨once, nodup⟩ := List.nodup_cons.1 nodup
    rw [List.foldl_cons]
    rcases List.mem_cons.1 he with rfl | he
    · rw [stampAll_socket_of_unlisted fun d hd hde => once (List.mem_map.2 ⟨d, hd, hde⟩), stampEntry_socket, if_pos rfl]
    · have hne : e.1.1 ≠ d.1.1 := fun hde => once (List.mem_map.2 ⟨e, he, hde⟩)
      rw [ih nodup he, stampEntry_socket, if_neg hne]

end

/-- The GRANTED and ENERGISED sockets in the order of their stamps. -/
def stampOrder (s : State) : List (Nat × Socket) :=
  sortBy (fun x y => decide (x.2.stamp.getD 0 < y.2.stamp.getD 0)) (s.far.sockets.filter fun e => e.2.supplied)

section
variable (s : State)

theorem renumber_eq :
    renumber s =
      { (((stampOrder s).zipIdx 1).foldl stampEntry s) with
        far := { (((stampOrder s).zipIdx 1).foldl stampEntry s).far with counter := (stampOrder s).length } } := rfl

theorem renumber_socket (j : Nat) : (renumber s).socket j = (((stampOrder s).zipIdx 1).foldl stampEntry s).socket j := rfl

theorem renumber_stampsOnly : StampsOnly s (renumber s) := by
  rw [renumber_eq]
  exact (StampsOnly.foldl stampEntry (fun _ _ => ⟨rfl⟩) _ s).trans ⟨rfl⟩

theorem stampOrder_perm : (stampOrder s).Perm (s.far.sockets.filter fun e => e.2.supplied) := sortBy_perm ..

end

section
variable {s : State} (form : tableOk startSocket s.far.sockets = true)
include form

/-- A supplied socket stands in the order, once and with its record. -/
theorem mem_stampOrder {e : Nat × Socket} :
    e ∈ stampOrder s ↔ (s.socket e.1).supplied = true ∧ e.2 = s.socket e.1 := by
  rw [(stampOrder_perm s).mem_iff, List.mem_filter]
  constructor
  · rintro ⟨he, supplied⟩
    have own : s.socket e.1 = e.2 := tableGet_of_mem form he
    exact ⟨own ▸ supplied, own.symm⟩
  · rintro ⟨supplied, own⟩
    have listed : (e.1, s.socket e.1) ∈ s.far.sockets := mem_of_tableGet_ne fun start => by
      rw [State.socket, start] at supplied
      cases supplied
    rw [← own] at listed
    exact ⟨listed, by simpa [own] using supplied⟩

theorem stampOrder_nodup : ((stampOrder s).map (·.1)).Nodup := by
  have entries : ((s.far.sockets.filter fun e => e.2.supplied).map (·.1)).Nodup :=
    List.pairwise_map.2 (((tableOk_ascending form).filter _).imp Nat.ne_of_lt)
  exact (((stampOrder_perm s).map _).nodup_iff).2 entries

/-- R103: a renumbering leaves a socket that holds no stamp of a grant. -/
theorem renumber_socket_of_unsupplied {j : Nat} (h : (s.socket j).supplied = false) :
    (renumber s).socket j = s.socket j := by
  rw [renumber_socket]
  refine stampAll_socket_of_unlisted fun e he hj => ?_
  have listed : e.1 ∈ stampOrder s := by
    rw [← List.zipIdx_map_fst 1 (stampOrder s)]
    exact List.mem_map_of_mem he
  have supplied := ((mem_stampOrder form).1 listed).1
  rw [hj, h] at supplied
  cases supplied

/-- R103: a renumbering gives a supplied socket its place in the order, from 1. -/
theorem renumber_socket_of_supplied {j : Nat} (h : (s.socket j).supplied = true) :
    ∃ i, (stampOrder s)[i]? = some (j, s.socket j) ∧
      (renumber s).socket j = { s.socket j with stamp := some (1 + i) } := by
  have listed : (j, s.socket j) ∈ stampOrder s := (mem_stampOrder form).2 ⟨h, rfl⟩
  obtain ⟨i, hi⟩ := List.mem_iff_getElem?.1 listed
  refine ⟨i, hi, ?_⟩
  have numbered : ((j, s.socket j), 1 + i) ∈ (stampOrder s).zipIdx 1 := List.mk_add_mem_zipIdx_iff_getElem?.2 hi
  have keys : ((stampOrder s).zipIdx 1).map (·.1.1) = (stampOrder s).map (·.1) := by
    rw [← List.zipIdx_map_fst 1 (stampOrder s), List.map_map]
    simp
  rw [renumber_socket]
  exact stampAll_socket_of_listed (keys ▸ stampOrder_nodup form) numbered

/-- R103: of two supplied sockets the order of the stamps is the order of the places. -/
theorem renumber_keeps_order {j k : Nat} (hj : (s.socket j).supplied = true) (hk : (s.socket k).supplied = true)
    (lt : (s.socket j).stamp.getD 0 < (s.socket k).stamp.getD 0) :
    ((renumber s).socket j).stamp.getD 0 < ((renumber s).socket k).stamp.getD 0 := by
  obtain ⟨i, hi, si⟩ := renumber_socket_of_supplied form hj
  obtain ⟨l, hl, sl⟩ := renumber_socket_of_supplied form hk
  have sorted : (stampOrder s).Pairwise fun a b => a.2.stamp.getD 0 ≤ b.2.stamp.getD 0 :=
    sortBy_sorted (fun e : Nat × Socket => e.2.stamp.getD 0) _
  obtain ⟨hi', hi⟩ := List.getElem?_eq_some_iff.1 hi
  obtain ⟨hl', hl⟩ := List.getElem?_eq_some_iff.1 hl
  rw [si, sl]
  simp only [Option.getD_some]
  by_contra hle
  rcases Nat.lt_or_eq_of_le (show l ≤ i by omega) with before | rfl
  · have ordered := List.pairwise_iff_getElem.1 sorted l i hl' hi' before
    rw [hi, hl] at ordered
    exact absurd lt (not_lt.2 ordered)
  · rw [hi] at hl
    cases hl
    exact absurd lt (lt_irrefl _)

end

theorem takeStamp_stampsOnly (s : State) : StampsOnly s (takeStamp s).1 := by
  unfold takeStamp
  dsimp only
  split
  · exact (renumber_stampsOnly s).trans ⟨rfl⟩
  · exact ⟨rfl⟩

/-- R103: short of its end the counter rises by 1. -/
theorem takeStamp_of_room {s : State} (h : s.far.counter < 4294967295) :
    takeStamp s = ({ s with far := { s.far with counter := s.far.counter + 1 } }, s.far.counter + 1) := by
  unfold takeStamp
  dsimp only
  rw [if_neg (show ¬s.far.counter ≥ counterMax by unfold counterMax; omega)]

/-- R103: at its end the stamps are renumbered first. -/
theorem takeStamp_of_end {s : State} (h : 4294967295 ≤ s.far.counter) :
    (takeStamp s).2 = (s.far.sockets.filter fun e => e.2.supplied).length + 1 ∧
      ∀ j, (takeStamp s).1.socket j = (renumber s).socket j := by
  unfold takeStamp
  dsimp only
  rw [if_pos (show s.far.counter ≥ counterMax from h)]
  exact ⟨congrArg (· + 1) (stampOrder_perm s).length_eq, fun _ => rfl⟩

/-- R103: a socket that is not supplied is as it was. -/
theorem takeStamp_socket_of_unsupplied {s : State} (form : tableOk startSocket s.far.sockets = true) {j : Nat}
    (h : (s.socket j).supplied = false) : (takeStamp s).1.socket j = s.socket j := by
  by_cases room : s.far.counter < 4294967295
  · rw [takeStamp_of_room room]
    rfl
  · rw [(takeStamp_of_end (not_lt.1 room)).2]
    exact renumber_socket_of_unsupplied form h

end Sys2Proof.Machine
end

section
/-! SUPPORT. A grant (R112) and the grant search (R110), for O36. -/

namespace Sys2Proof.Machine

/-! ## What a grant writes -/

theorem countBypass_socket (t : State) (n j : Nat) :
    (countBypass t n).socket j =
      if j = n then { t.socket n with bypass := min ((t.socket n).bypass + 1) 15 } else t.socket j :=
  State.socket_setSocket ..

/-- R112 step 5: each of the sockets passed over gains 1. -/
theorem countAll_socket {l : List Nat} (nodup : l.Nodup) (t : State) (j : Nat) :
    (l.foldl countBypass t).socket j =
      if j ∈ l then { t.socket j with bypass := min ((t.socket j).bypass + 1) 15 } else t.socket j := by
  induction l generalizing t with
  | nil => rfl
  | cons n rest ih =>
    obtain ⟨once, nodup⟩ := List.nodup_cons.1 nodup
    rw [List.foldl_cons, ih nodup, countBypass_socket]
    by_cases hj : j = n
    · subst hj
      simp [once]
    · simp [hj]

/-- R112: a socket passed over in a pass without a blocking request gains 1 in its bypass count, up to 15. -/
def bypassCounted (f : Nat) (skipped : List Nat) (s : State) (j : Nat) : Socket :=
  if (s.feeder f).blocking = none ∧ j ∈ skipped then { s.socket j with bypass := min ((s.socket j).bypass + 1) 15 }
  else s.socket j

theorem bypassCounted_of_blocking {f m : Nat} {s : State} (h : (s.feeder f).blocking = some m) (skipped : List Nat)
    (j : Nat) : bypassCounted f skipped s j = s.socket j := by
  rw [bypassCounted, h]
  exact if_neg fun ⟨absent, _⟩ => by cases absent

theorem bypassCounted_of_none {f : Nat} {s : State} (h : (s.feeder f).blocking = none) (skipped : List Nat) (j : Nat) :
    bypassCounted f skipped s j =
      if j ∈ skipped then { s.socket j with bypass := min ((s.socket j).bypass + 1) 15 } else s.socket j :=
  if_congr (and_iff_right h) rfl rfl

theorem far_of_cfg_eq {x y : Far} (h : x.cfg = y.cfg) :
    x = { y with sockets := x.sockets, feeders := x.feeders, counter := x.counter } := by rw [← h]

/-- R112: a socket has its grant's record, the other sockets and the feeder not yet written. -/
def grantedOnly (n : Nat) (s : State) : State :=
  (takeStamp s).1.setSocket n
    { (takeStamp s).1.socket n with
      state := .granted, reservation := some (s.reservation n), stamp := some (takeStamp s).2, confirm := some 0,
      bypass := 0 }

theorem grantedOnly_socket_self (n : Nat) (s : State) :
    (grantedOnly n s).socket n =
      { (takeStamp s).1.socket n with
        state := .granted, reservation := some (s.reservation n), stamp := some (takeStamp s).2, confirm := some 0,
        bypass := 0 } := (State.socket_setSocket ..).trans (if_pos rfl)

theorem grantedOnly_socket_other {n j : Nat} (hj : j ≠ n) (s : State) :
    (grantedOnly n s).socket j = (takeStamp s).1.socket j := (State.socket_setSocket ..).trans (if_neg hj)

theorem grantedSockets_of_blocking {f m : Nat} {s : State} (h : (s.feeder f).blocking = some m) (n : Nat)
    (skipped : List Nat) : grantedSockets f n skipped s = grantedOnly n s := by
  unfold grantedSockets
  rw [(takeStamp_stampsOnly s).feeder, h]
  rfl

theorem grantedSockets_of_none {f : Nat} {s : State} (h : (s.feeder f).blocking = none) (n : Nat)
    (skipped : List Nat) : grantedSockets f n skipped s = skipped.foldl countBypass (grantedOnly n s) := by
  unfold grantedSockets
  rw [(takeStamp_stampsOnly s).feeder, h]
  rfl

section
variable (f n : Nat) (skipped : List Nat) (s : State)

theorem grantedSockets_stampsOnly : StampsOnly s (grantedSockets f n skipped s) := by
  have granted : StampsOnly s (grantedOnly n s) := (takeStamp_stampsOnly s).trans ⟨rfl⟩
  cases h : (s.feeder f).blocking with
  | some m => exact grantedSockets_of_blocking h n skipped ▸ granted
  | none =>
    exact grantedSockets_of_none h n skipped ▸ granted.trans (.foldl countBypass (fun _ _ => ⟨rfl⟩) skipped _)

theorem countAll_counter (l : List Nat) (t : State) : (l.foldl countBypass t).far.counter = t.far.counter :=
  foldl_keeps (kept := fun s t : State => t.far.counter = s.far.counter) (fun _ => rfl) (fun h k => k.trans h)
    countBypass (fun _ _ => rfl) l t

theorem grantedSockets_counter : (grantedSockets f n skipped s).far.counter = (takeStamp s).2 := by
  cases h : (s.feeder f).blocking with
  | some m =>
    rw [grantedSockets_of_blocking h]
    rfl
  | none =>
    rw [grantedSockets_of_none h, countAll_counter]
    rfl

/-- R113: the blocking request a grant leaves. -/
def grantBlock : Option Nat :=
  if (s.feeder f).blocking.isSome then (if (s.feeder f).blocking = some n then none else (s.feeder f).blocking)
  else skipped.find? fun m => decide ((s.feederCfg f).bypassLimit ≤ ((grantedSockets f n skipped s).socket m).bypass)

/-- R112: the feeder's record a grant leaves. -/
def grantedFeeder : Feeder :=
  { s.feeder f with
    reserved := (s.feeder f).reserved + s.reservation n
    pointers := tableSet 0 (s.feeder f).pointers (s.socketCfg n).cls n
    pending := (s.feeder f).pending.filter fun m => decide (m ≠ n)
    blocking := grantBlock f n skipped s }

/-- R112: a grant writes the sockets and its feeder, and raises its notice. -/
theorem grant_written :
    grant f n skipped s =
      ((grantedSockets f n skipped s).setFeeder f (grantedFeeder f n skipped s)).raise
        (.socketGranted n f (s.reservation n) ((s.feederCfg f).limit - ((s.feeder f).reserved + s.reservation n))) := by
  have stamped := takeStamp_stampsOnly s
  have written := grantedSockets_stampsOnly f n skipped s
  have feeder : (takeStamp s).1.feeder f = s.feeder f := stamped.feeder f
  have cfg : (grantedSockets f n skipped s).feederCfg f = s.feederCfg f := written.feederCfg f
  have fd : { (takeStamp s).1.feeder f with
      reserved := ((takeStamp s).1.feeder f).reserved + s.reservation n
      pointers := tableSet 0 ((takeStamp s).1.feeder f).pointers (s.socketCfg n).cls n
      pending := ((takeStamp s).1.feeder f).pending.filter fun m => decide (m ≠ n)
      blocking :=
        if ((takeStamp s).1.feeder f).blocking.isSome then
          (if ((takeStamp s).1.feeder f).blocking = some n then none else ((takeStamp s).1.feeder f).blocking)
        else skipped.find? fun m =>
          decide (((grantedSockets f n skipped s).feederCfg f).bypassLimit ≤
            ((grantedSockets f n skipped s).socket m).bypass) } = grantedFeeder f n skipped s := by
    rw [feeder, cfg]
    rfl
  have headroom : ((grantedSockets f n skipped s).setFeeder f (grantedFeeder f n skipped s)).headroom f =
      (s.feederCfg f).limit - ((s.feeder f).reserved + s.reservation n) := by
    rw [State.headroom, State.feeder_setFeeder, if_pos rfl]
    exact congrArg (fun c : FeederCfg => c.limit - _) cfg
  rw [← headroom, ← fd]
  rfl

theorem grant_feeder (g : Nat) :
    (grant f n skipped s).feeder g = if g = f then grantedFeeder f n skipped s else s.feeder g := by
  rw [grant_written]
  refine (State.feeder_setFeeder ..).trans (if_congr Iff.rfl rfl ?_)
  exact (grantedSockets_stampsOnly f n skipped s).feeder g

theorem grant_feeder_self : (grant f n skipped s).feeder f = grantedFeeder f n skipped s :=
  (grant_feeder ..).trans (if_pos rfl)

theorem grant_socket (j : Nat) : (grant f n skipped s).socket j = (grantedSockets f n skipped s).socket j := by
  rw [grant_written]
  rfl

theorem grant_feederCfg (g : Nat) : (grant f n skipped s).feederCfg g = s.feederCfg g := by
  rw [grant_written]
  exact (grantedSockets_stampsOnly f n skipped s).feederCfg g

theorem grant_counter : (grant f n skipped s).far.counter = (takeStamp s).2 := by
  rw [grant_written]
  exact grantedSockets_counter f n skipped s

theorem grant_far :
    (grant f n skipped s).far =
      { s.far with
        sockets := (grant f n skipped s).far.sockets, feeders := (grant f n skipped s).far.feeders,
        counter := (grant f n skipped s).far.counter } := by
  refine far_of_cfg_eq ?_
  rw [grant_written]
  exact (grantedSockets_stampsOnly f n skipped s).cfg

theorem grant_raises :
    Raises [.socketGranted n f (s.reservation n) ((s.feederCfg f).limit - ((s.feeder f).reserved + s.reservation n))] s
      (grant f n skipped s) := by
  have written := grantedSockets_stampsOnly f n skipped s
  rw [grant_written]
  exact raises_raise _ written.hlc written.clk

end

/-! ## A grant of a pass -/

theorem pending_nodup {f : Nat} {s : State} (sound : FeedersSound s) : (s.feeder f).pending.Nodup :=
  (sound.ascending f).imp Nat.ne_of_lt

section
variable {f n : Nat} {skipped : List Nat} {s : State} (sound : FeedersSound s) (hp : s.pass f = some (n, skipped))
include sound hp

theorem pass_unsupplied : (s.socket n).supplied = false := by
  rw [Socket.supplied, (sound.pending f n (pass_mem sound.pendingSound hp).1).1]
  rfl

theorem not_mem_skipped : n ∉ skipped := fun h => ((pass_mem sound.pendingSound hp).2 n h).2 rfl

/-- R111, R112: in a grant of a pass no socket but the granted one is written otherwise than by its stamp and its bypass
count. -/
theorem grant_socket_other {j : Nat} (hj : j ≠ n) :
    (grant f n skipped s).socket j =
      { bypassCounted f skipped s j with stamp := ((takeStamp s).1.socket j).stamp } := by
  have stamped : (takeStamp s).1.socket j = { s.socket j with stamp := ((takeStamp s).1.socket j).stamp } := by
    by_cases room : s.far.counter < 4294967295
    · rw [takeStamp_of_room room]
      rfl
    · rw [(takeStamp_of_end (not_lt.1 room)).2]
      cases supplied : (s.socket j).supplied with
      | true =>
        obtain ⟨i, -, hi⟩ := renumber_socket_of_supplied sound.sockets supplied
        rw [hi]
      | false => rw [renumber_socket_of_unsupplied sound.sockets supplied]
  cases hb : (s.feeder f).blocking with
  | some m =>
    rw [grant_socket, grantedSockets_of_blocking hb, grantedOnly_socket_other hj, bypassCounted_of_blocking hb]
    exact stamped
  | none =>
    rw [grant_socket, grantedSockets_of_none hb, countAll_socket (skipped_nodup (pending_nodup sound) hp),
      grantedOnly_socket_other hj, bypassCounted_of_none hb]
    by_cases listed : j ∈ skipped
    · rw [if_pos listed, if_pos listed, stamped]
    · rw [if_neg listed, if_neg listed]
      exact stamped

/-- R112: the granted socket's record. -/
theorem grant_socket_self :
    (grant f n skipped s).socket n =
      { s.socket n with
        state := .granted, reservation := some (s.reservation n), stamp := some (takeStamp s).2, confirm := some 0,
        bypass := 0 } := by
  have stamped := takeStamp_socket_of_unsupplied sound.sockets (pass_unsupplied sound hp)
  cases hb : (s.feeder f).blocking with
  | some m => rw [grant_socket, grantedSockets_of_blocking hb, grantedOnly_socket_self, stamped]
  | none =>
    rw [grant_socket, grantedSockets_of_none hb, countAll_socket (skipped_nodup (pending_nodup sound) hp),
      if_neg (not_mem_skipped sound hp), grantedOnly_socket_self, stamped]

/-- R113: after a pass without a blocking request, the first of those passed over that is at the limit. -/
theorem grantBlock_eq :
    grantBlock f n skipped s =
      if (s.feeder f).blocking.isSome then none
      else skipped.find? fun m => decide ((s.feederCfg f).bypassLimit ≤ min ((s.socket m).bypass + 1) 15) := by
  unfold grantBlock
  split
  · rename_i some
    obtain ⟨m, hm⟩ := Option.isSome_iff_exists.1 some
    rw [hm, (pass_of_blocking hm hp).1, if_pos rfl]
  · rename_i absent
    have absent : (s.feeder f).blocking = none := by simpa using absent
    refine List.find?_congr fun m hm => ?_
    have ne : m ≠ n := ((pass_mem sound.pendingSound hp).2 m hm).2
    rw [← grant_socket, grant_socket_other sound hp ne, bypassCounted, if_pos ⟨absent, hm⟩]

/-- R103: short of the counter's end, the others keep their stamps. -/
theorem grant_socket_of_room (room : s.far.counter < 4294967295) {j : Nat} (hj : j ≠ n) :
    (grant f n skipped s).socket j = bypassCounted f skipped s j := by
  rw [grant_socket_other sound hp hj, takeStamp_of_room room, bypassCounted]
  split <;> rfl

/-- R103: at the counter's end the stamps held are renumbered, below the new one. -/
theorem grant_stamp_of_end (full : 4294967295 ≤ s.far.counter) {j : Nat} (hj : j ≠ n) :
    ((grant f n skipped s).socket j).stamp = ((renumber s).socket j).stamp := by
  rw [grant_socket_other sound hp hj, (takeStamp_of_end full).2]

theorem grant_stamp_range (full : 4294967295 ≤ s.far.counter) {j : Nat} (hj : j ≠ n)
    (supplied : (s.socket j).supplied = true) :
    1 ≤ ((grant f n skipped s).socket j).stamp.getD 0 ∧
      ((grant f n skipped s).socket j).stamp.getD 0 < (grant f n skipped s).far.counter := by
  obtain ⟨i, hi, stamp⟩ := renumber_socket_of_supplied sound.sockets supplied
  obtain ⟨hi, -⟩ := List.getElem?_eq_some_iff.1 hi
  rw [(stampOrder_perm s).length_eq] at hi
  rw [grant_stamp_of_end sound hp full hj, stamp, grant_counter, (takeStamp_of_end full).1]
  simp only [Option.getD_some]
  omega

/-- A supplied socket is not the one a pass grants. -/
theorem ne_of_supplied {j : Nat} (supplied : (s.socket j).supplied = true) : j ≠ n := by
  rintro rfl
  rw [pass_unsupplied sound hp] at supplied
  cases supplied

end

/-! ## The search (R110) -/

theorem grantSearch_of_none {f : Nat} {s : State} (h : s.pass f = none) : grantSearch f s = s := by
  rw [grantSearch, searchPasses, h]

/-- R110: after a pass that grants, the search goes on as a new one. -/
theorem grantSearch_of_some {f n : Nat} {skipped : List Nat} {s : State} (sound : FeedersSound s)
    (hp : s.pass f = some (n, skipped)) : grantSearch f s = grantSearch f (grant f n skipped s) := by
  have member := (pass_mem sound.pendingSound hp).1
  have fewer : ((grant f n skipped s).feeder f).pending.length + 1 = (s.feeder f).pending.length := by
    rw [grant_feeder_self]
    have erased : (s.feeder f).pending.erase n = (s.feeder f).pending.filter fun m => decide (m ≠ n) := by
      rw [(pending_nodup sound).erase_eq_filter]
      exact List.filter_congr fun m _ => by rw [Bool.eq_iff_iff]; simp
    exact (congrArg (·.length + 1) erased.symm).trans (List.length_erase_add_one member)
  rw [grantSearch, searchPasses, hp]
  dsimp only
  rw [grantSearch, fewer]

/-- The blocking request of a feeder, where it is none of its pending sockets, is one more that a pass may grant. -/
def strayBlocking (f : Nat) (s : State) : Nat :=
  if ∀ m, (s.feeder f).blocking = some m → m ∈ (s.feeder f).pending then 0 else 1

theorem strayBlocking_of_member {f : Nat} {s : State} (h : ∀ m, (s.feeder f).blocking = some m → m ∈ (s.feeder f).pending) :
    strayBlocking f s = 0 := by
  unfold strayBlocking
  exact if_pos h

theorem filter_ne_length_lt {n : Nat} {l : List Nat} (h : n ∈ l) :
    (l.filter fun m => decide (m ≠ n)).length < l.length :=
  List.length_filter_lt_length_iff_exists.2 ⟨n, h, by simp⟩

section
variable {f n : Nat} {skipped : List Nat} {s : State} (hp : s.pass f = some (n, skipped))
include hp

/-- R113: a grant leaves no blocking request but one of the pending set. -/
theorem grant_blocking_member :
    ∀ m, ((grant f n skipped s).feeder f).blocking = some m → m ∈ ((grant f n skipped s).feeder f).pending := by
  intro m hm
  obtain ⟨fits, unfit, rest, order⟩ := pass_eq_some.1 hp
  rw [grant_feeder_self] at hm ⊢
  change grantBlock f n skipped s = some m at hm
  unfold grantBlock at hm
  cases hb : (s.feeder f).blocking with
  | some b =>
    rw [hb, (pass_of_blocking hb hp).1] at hm
    simp at hm
  | none =>
    rw [hb] at hm
    have listed : m ∈ skipped := List.mem_of_find?_eq_some hm
    have pending : m ∈ (s.feeder f).pending := by
      refine mem_rotation (s := s) ?_
      rw [← passOrder_of_none hb, order]
      exact List.mem_append_left _ listed
    refine List.mem_filter.2 ⟨pending, decide_eq_true ?_⟩
    rintro rfl
    rw [unfit m listed] at fits
    cases fits

/-- R110: a grant leaves less for further passes. -/
theorem grant_measure :
    ((grant f n skipped s).feeder f).pending.length + strayBlocking f (grant f n skipped s) <
      (s.feeder f).pending.length + strayBlocking f s := by
  have pending : ((grant f n skipped s).feeder f).pending = (s.feeder f).pending.filter fun m => decide (m ≠ n) := by
    rw [grant_feeder_self]
    rfl
  rw [strayBlocking_of_member (grant_blocking_member hp), pending]
  by_cases member : n ∈ (s.feeder f).pending
  · have := filter_ne_length_lt member
    omega
  · have stray : strayBlocking f s = 1 := by
      refine if_neg fun h => member ?_
      cases hb : (s.feeder f).blocking with
      | some b => exact (pass_of_blocking hb hp).1 ▸ h b hb
      | none =>
        obtain ⟨-, -, rest, order⟩ := pass_eq_some.1 hp
        refine mem_rotation ?_
        rw [← passOrder_of_none hb, order]
        exact List.mem_append_right _ List.mem_cons_self
    have := List.length_filter_le (fun m => decide (m ≠ n)) (s.feeder f).pending
    omega

/-- R106: a grant keeps within the limit. -/
theorem grant_within :
    ((grant f n skipped s).feeder f).reserved ≤ ((grant f n skipped s).feederCfg f).limit ∧
      (s.feeder f).reserved ≤ ((grant f n skipped s).feeder f).reserved := by
  have fits := fits_iff.1 (pass_eq_some.1 hp).1
  rw [grant_feeder_self, grant_feederCfg]
  exact ⟨fits, Nat.le_add_right ..⟩

end

/-- R110: passes enough in number end with nothing left to grant. -/
theorem searchPasses_done {f fuel : Nat} {s : State} (h : (s.feeder f).pending.length + strayBlocking f s ≤ fuel) :
    (searchPasses f fuel s).pass f = none := by
  induction fuel generalizing s with
  | zero =>
    have empty : (s.feeder f).pending = [] := List.eq_nil_of_length_eq_zero (by omega)
    have absent : (s.feeder f).blocking = none := by
      by_contra some
      obtain ⟨m, hm⟩ := Option.ne_none_iff_exists'.1 some
      have stray : strayBlocking f s = 1 := if_neg fun h => by
        have := h m hm
        rw [empty] at this
        cases this
      omega
    refine (pass_eq_none (s := s)).2 fun n hn => ?_
    rw [passOrder_of_none absent] at hn
    have := mem_rotation hn
    rw [empty] at this
    cases this
  | succ fuel ih =>
    rw [searchPasses]
    split
    · assumption
    · rename_i n skipped hp
      have := grant_measure hp
      exact ih (by omega)

theorem grantSearch_done (f : Nat) (s : State) : (grantSearch f s).pass f = none := by
  refine searchPasses_done ?_
  have : strayBlocking f s ≤ 1 := by
    unfold strayBlocking
    split <;> omega
  omega

/-- R106: the search keeps within the limit. -/
theorem searchPasses_within {f fuel : Nat} {s : State} (h : (s.feeder f).reserved ≤ (s.feederCfg f).limit) :
    ((searchPasses f fuel s).feeder f).reserved ≤ ((searchPasses f fuel s).feederCfg f).limit ∧
      (s.feeder f).reserved ≤ ((searchPasses f fuel s).feeder f).reserved := by
  induction fuel generalizing s with
  | zero => exact ⟨h, le_rfl⟩
  | succ fuel ih =>
    rw [searchPasses]
    split
    · exact ⟨h, le_rfl⟩
    · rename_i n skipped hp
      obtain ⟨within, more⟩ := grant_within hp
      obtain ⟨kept, further⟩ := ih within
      exact ⟨kept, more.trans further⟩

end Sys2Proof.Machine
end

section
/-! SUPPORT. The PENDING sockets that a hold or a loss leaves ineligible (R51, R121, R123), and O36. -/

namespace Sys2Proof.Machine

/-! ## A socket that is no longer eligible -/

/-- A plugged socket of a berth that is not entitled to supply or whose pedestal is not ONLINE. -/
structure Withheld (n : Nat) (s : State) : Prop where
  berth : (s.socketCfg n).berth ≠ none
  plugged : s.plugged n = true
  barred : ¬(s.entitled n = true ∧ (s.link (pedestalOf n)).link = .online)

/-- R105: such a socket is judged WAITING. -/
theorem Withheld.judged {n : Nat} {s : State} (h : Withheld n s) : s.judged n = .waiting := by
  have ineligible : ¬s.eligible n = true := fun eligible => by
    simp only [State.eligible, Bool.and_eq_true, decide_eq_true_eq] at eligible
    obtain ⟨⟨⟨⟨entitled, online⟩, -⟩, -⟩, -⟩ := eligible
    exact h.barred ⟨entitled, online⟩
  have plugged : ¬((s.report n).map (·.plug)).getD false = false := fun unplugged =>
    Bool.false_ne_true (unplugged.symm.trans h.plugged)
  rw [State.judged, if_neg h.berth, if_neg plugged, if_neg ineligible]

/-- What the feeders do does not change who is entitled. -/
theorem Withheld.of_sameBut {n : Nat} {s t : State} (h : Withheld n s) (same : SameBut [.feeders] s t) :
    Withheld n t := by
  have bal : t.bal = s.bal := same.berths.resolve_left (by decide)
  have acu : t.acu = s.acu := same.accounts.resolve_left (by decide)
  have pdl : t.pdl = s.pdl := same.line.resolve_left (by decide)
  have cfg : t.socketCfg n = s.socketCfg n := congrArg (fun p : Pdl => tableGet coldSocketCfg p.sockets n) pdl
  have report : t.report n = s.report n := congrArg (fun p : Pdl => tableGet none p.reports n) pdl
  have link : t.link (pedestalOf n) = s.link (pedestalOf n) :=
    congrArg (fun p : Pdl => tableGet startLink p.links (pedestalOf n)) pdl
  have entitled : t.entitled n = s.entitled n := by
    unfold State.entitled State.arrivedOn State.berth State.booking State.account
    rw [cfg, bal, acu]
  refine ⟨cfg ▸ h.berth, ?_, ?_⟩
  · unfold State.plugged
    rw [report]
    exact h.plugged
  · rw [entitled, link]
    exact h.barred

/-! ## The hold message and the loss of a pedestal (log entry 15) -/

section
variable {n : Nat} {s : State}

/-- A socket that leaves the pending set in one step with others has the state it leaves for: no search grants it. -/
theorem leaveAllPending_socket_state {dest : Nat → SocketState} {l : List Nat} (sound : PendingSound s) (hn : n ∈ l)
    (pending : (s.socket n).state = .pending) (hd : dest n ≠ .pending) :
    ((leaveAllPending dest l s).socket n).state = dest n := by
  have left : (((leaving dest l s).foldl (fun t n => withdraw n (dest n) t) s).socket n).state = dest n := by
    rw [withdrawAll_socket_state, if_pos ((mem_leaving ..).2 ⟨hn, pending, hd⟩)]
  rw [(leaveAllPending_searches dest l s).others (withdrawAll_pendingSound dest _ sound) n (left.symm ▸ hd), left]

/-- R105: the re-evaluation of one socket leaves the state of any other that is not PENDING. -/
theorem reevaluate_socket_other {m : Nat} (sound : PendingSound s) (hm : n ≠ m) (hn : (s.socket n).state ≠ .pending) :
    ((reevaluate m s).socket n).state = (s.socket n).state := by
  unfold reevaluate
  dsimp only
  split
  · rfl
  split
  · split
    · rfl
    · have placed : (placePending m s).socket n = s.socket n := (placePending_socket ..).trans (if_neg hm)
      rw [(grantSearch_onlyGrants ..).others (placePending_pendingSound sound) n (placed.symm ▸ hn), placed]
  · split
    · exact (leaveAllPending_onlyGrants ..).others sound n hn
    · rw [State.socket_setSocket, if_neg hm]

/-- R105: a WAITING socket that is not eligible stays WAITING, whichever is re-evaluated. -/
theorem reevaluate_waiting (m : Nat) (sound : PendingSound s) (held : Withheld n s)
    (waiting : (s.socket n).state = .waiting) : ((reevaluate m s).socket n).state = .waiting := by
  by_cases hm : n = m
  · subst hm
    unfold reevaluate
    dsimp only
    rw [waiting, held.judged, if_neg (by decide), if_neg (by decide), if_neg (by decide), State.socket_setSocket,
      if_pos rfl]
  · rw [reevaluate_socket_other sound hm (by rw [waiting]; decide), waiting]

theorem reevaluateAll_waiting {l : List Nat} (sound : PendingSound s) (held : Withheld n s)
    (waiting : (s.socket n).state = .waiting) :
    ((l.foldl (fun t m => reevaluate m t) s).socket n).state = .waiting := by
  induction l generalizing s with
  | nil => exact waiting
  | cons m rest ih =>
    exact ih (reevaluate_pendingSound sound) (held.of_sameBut (reevaluate_sameBut (by decide) m s))
      (reevaluate_waiting m sound held waiting)

/-- R123: a pedestal's loss takes its ineligible PENDING sockets to WAITING. -/
theorem pedestalLostFar_waiting {l : List Nat} (sound : PendingSound s) (held : Withheld n s)
    (pending : (s.socket n).state = .pending) (hn : n ∈ l) :
    ((pedestalLostFar l s).socket n).state = .waiting := by
  have dest : s.judged n ≠ .pending := by
    rw [held.judged]
    decide
  exact (leaveAllPending_socket_state sound hn pending dest).trans held.judged

theorem mem_socketsIn {states : List SocketState} (listed : (s.socket n).state ∈ states)
    (hs : (s.socket n).state ≠ .unassigned) : n ∈ s.socketsIn states := by
  have entry : (n, s.socket n) ∈ s.far.sockets := mem_of_tableGet_ne fun start => hs (by rw [State.socket, start]; rfl)
  exact List.mem_map.2 ⟨_, List.mem_filter.2 ⟨entry, decide_eq_true listed⟩, rfl⟩

/-- R51, R121: so does an account's hold message those whose berths name it. -/
theorem farHold_waiting {account : Nat} (sound : PendingSound s) (held : Withheld n s)
    (pending : (s.socket n).state = .pending) (named : s.berthNames (s.socketCfg n).berth account = true) :
    ((farHold account s).socket n).state = .waiting := by
  have listed : n ∈ s.socketsIn [.waiting, .pending] :=
    mem_socketsIn (by rw [pending]; decide) (by rw [pending]; decide)
  refine reevaluateAll_waiting ((leaveAllPending_onlyGrants ..).sound sound)
    (held.of_sameBut (leaveAllPending_sameBut (by decide) ..)) ?_
  exact pedestalLostFar_waiting sound held pending (List.mem_filter.2 ⟨listed, named⟩)

end

/-! ## The order of a pass -/

/-- R111: a pass with a blocking request considers it alone. -/
theorem order_eq_passOrder (f : Nat) (s : State) :
    (match (s.feeder f).blocking with
      | some n => [n]
      | none => [0, 1, 2, 3].flatMap fun c =>
          let ofClass := (s.feeder f).pending.filter fun n => decide ((s.socketCfg n).cls = c)
          ofClass.filter (fun n => decide (tableGet 0 (s.feeder f).pointers c < n)) ++
            ofClass.filter (fun n => decide (n ≤ tableGet 0 (s.feeder f).pointers c))) = s.passOrder f := by
  cases h : (s.feeder f).blocking with
  | some n => exact (passOrder_of_blocking h).symm
  | none => exact (passOrder_of_none h).symm

/-! ## The statement -/

/-- Settles O36: what a pass grants is the first that fits in its order; what a grant writes is read off its lemmas, at the
counter's end through the renumbering; the search repeats passes, each of which leaves less to grant; and the sockets that
leave together leave before any search. -/
theorem grantSearchFillsTheHeadroom : Obligations.GrantSearchFillsTheHeadroom := by
  unfold Obligations.GrantSearchFillsTheHeadroom
  refine ⟨fun f s => ?_, fun f n skipped s sound hp => ?_, fun f s => ?_, fun f s within => ?_,
    fun n s sound pending berth barred => ?_⟩
  · have order := order_eq_passOrder f s
    refine ⟨?_, fun n skipped => ?_⟩
    · refine pass_eq_none.trans ?_
      rw [← order]
      exact forall₂_congr fun _ _ => fits_eq_false
    · refine pass_eq_some.trans ?_
      rw [← order]
      exact and_congr fits_iff (and_congr_left fun _ => forall₂_congr fun _ _ => fits_eq_false)
  · have counter := grant_counter f n skipped s
    refine ⟨grant_sameBut (by decide) f n skipped s, grant_far f n skipped s, ?_, fun room => ?_, fun full => ?_, ?_,
      fun c => ?_, fun g hg => ?_, grant_raises f n skipped s⟩
    · rw [counter]
      exact grant_socket_self sound hp
    · refine ⟨?_, fun j hj => grant_socket_of_room sound hp room hj⟩
      rw [counter, takeStamp_of_room room]
    · refine ⟨counter.trans (takeStamp_of_end full).1, fun j hj => ⟨?_, fun unsupplied => ?_, ?_⟩,
        fun j k hj hk lt => ?_⟩
      · rw [grant_socket_other sound hp hj]
        rfl
      · rw [grant_stamp_of_end sound hp full hj, renumber_socket_of_unsupplied sound.sockets unsupplied]
      · exact grant_stamp_range sound hp full hj
      · dsimp only at lt ⊢
        rw [grant_stamp_of_end sound hp full (ne_of_supplied sound hp hj),
          grant_stamp_of_end sound hp full (ne_of_supplied sound hp hk)]
        exact renumber_keeps_order sound.sockets hj hk lt
    · rw [← grantBlock_eq sound hp, grant_feeder_self]
      rfl
    · rw [grant_feeder_self]
      exact tableGet_tableSet ..
    · exact (grant_feeder f n skipped s g).trans (if_neg hg)
  · exact ⟨grantSearch_of_none, fun n skipped sound hp => grantSearch_of_some sound hp⟩
  · obtain ⟨kept, more⟩ := searchPasses_within (fuel := (s.feeder f).pending.length + 1) within
    exact ⟨kept, more, grantSearch_done f s, grantSearch_sameBut (by decide) f s⟩
  · have held : Withheld n s := ⟨berth, sound.plugs n pending, barred⟩
    exact ⟨fun account named => ⟨farHold_waiting sound.pendingSound held pending named, farHold_sameBut (by decide) account s⟩,
      fun sockets hn => ⟨pedestalLostFar_waiting sound.pendingSound held pending hn,
        pedestalLostFar_sameBut (by decide) sockets s⟩⟩

end Sys2Proof.Machine
end

section
/-! SUPPORT. CLOCK_SET (R72 to R74, R77, O12): its five outcomes, and the clock each leaves. -/

namespace Sys2Proof.Machine

/-! ## The clock a set leaves -/

/-- The clock of a set: a day and a second with fraction 0, and the settlement timer computed afresh (R72, R79). -/
def Clk.setTo (c : Clk) (day sec : Nat) : Clk :=
  { c with day, sec, frac := 0, isSet := true, settleTimer := nextInterval c.interval sec }

theorem setTime_eq (day sec : Nat) (s : State) : setTime day sec s = s.setClk (s.clk.setTo day sec) := rfl

theorem Clk.setTo_of_isSet {c : Clk} (set : c.isSet = true) (day sec : Nat) :
    c.setTo day sec = { c with day, sec, frac := 0, settleTimer := nextInterval c.interval sec } := by
  rw [Clk.setTo, ← set]

theorem setTime_sameBut {parts : List Part} (h : .clock ∈ parts) (day sec : Nat) (s : State) :
    SameBut parts s (setTime day sec s) := .writeClk h s _

/-- R73: a run of the rollovers missed by a night raises the last rollover day to it, when it is later, and writes nothing
else of the clock. -/
theorem rollRun_clk_to_night (src : RolloverSource) (night : Nat) (s : State) :
    (rollRun src (s.clk.lastRoll + 1) (night - s.clk.lastRoll) s).clk =
      { s.clk with lastRoll := max s.clk.lastRoll night } := by
  rcases Nat.le_total night s.clk.lastRoll with early | late
  · rw [Nat.sub_eq_zero_of_le early, Nat.max_eq_left early]
    rfl
  · obtain ⟨missed, rfl⟩ := Nat.exists_eq_add_of_le late
    rw [Nat.add_sub_cancel_left, Nat.max_eq_right late]
    cases missed with
    | zero => rfl
    | succ more => rw [rollRun_clk, Nat.add_right_comm, Nat.add_assoc]

/-! ## The five outcomes -/

section
variable {day sec : Nat} {s : State} (hd : day ≤ 65535) (hs : sec ≤ 86399)
include hd hs

/-- R72: a set within its range is judged by the clock. -/
theorem clockSet_inRange :
    clockSet day sec s =
      if !s.clk.isSet then clockReply 0 (firstSet day sec s)
      else if secondsOf s.clk.day s.clk.sec + 604800 < secondsOf day sec then refuse .range s
      else if secondsOf s.clk.day s.clk.sec < secondsOf day sec then
        clockReply (nightAt s.clk.rollHour day sec - s.clk.lastRoll)
          (setTime day sec
            (rollRun .set (s.clk.lastRoll + 1) (nightAt s.clk.rollHour day sec - s.clk.lastRoll) s))
      else if secondsOf day sec < secondsOf s.clk.day s.clk.sec then clockReply 0 (setTime day sec s)
      else clockReply 0 (s.setClk { s.clk with frac := 0 }) :=
  if_neg (by simp [within_true (Nat.zero_le _) hd, within_true (Nat.zero_le _) hs])

theorem clockSet_first (unset : s.clk.isSet = false) :
    clockSet day sec s = clockReply 0 (firstSet day sec s) := by
  rw [clockSet_inRange hd hs, if_pos (by simp [unset])]

theorem clockSet_of_isSet (set : s.clk.isSet = true) :
    (secondsOf s.clk.day s.clk.sec + 604800 < secondsOf day sec → clockSet day sec s = refuse .range s) ∧
    (secondsOf s.clk.day s.clk.sec < secondsOf day sec → secondsOf day sec ≤ secondsOf s.clk.day s.clk.sec + 604800 →
      clockSet day sec s = clockReply (nightAt s.clk.rollHour day sec - s.clk.lastRoll)
        (setTime day sec
          (rollRun .set (s.clk.lastRoll + 1) (nightAt s.clk.rollHour day sec - s.clk.lastRoll) s))) ∧
    (secondsOf day sec < secondsOf s.clk.day s.clk.sec → clockSet day sec s = clockReply 0 (setTime day sec s)) ∧
    (secondsOf day sec = secondsOf s.clk.day s.clk.sec →
      clockSet day sec s = clockReply 0 (s.setClk { s.clk with frac := 0 })) := by
  rw [clockSet_inRange hd hs, if_neg (by simp [set])]
  refine ⟨fun far => if_pos far, fun later near => ?_, fun earlier => ?_, fun equal => ?_⟩
  · rw [if_neg (by omega), if_pos later]
  · rw [if_neg (by omega), if_neg (by omega), if_pos earlier]
  · rw [if_neg (by omega), if_neg (by omega), if_neg (by omega)]

end

/-! ## The statement -/

section
variable {tag day sec : Nat} {s : State} (takes : s.takes = true)
include takes

/-- A CLOCK_SET that is accepted answers the number of rollovers run. -/
theorem clockSet_answers {rollovers : Nat} {u : State} (h : clockSet day sec s = clockReply rollovers u) :
    ∃ t, Replies (.clockSet tag day sec) s t 0x08 tag ⟨.ok, 0, [⟨0x11, [.u 1 rollovers]⟩]⟩ ∧ AsLeft u t :=
  request_answers rfl rfl takes h

/-- A CLOCK_SET that writes the clock alone. -/
theorem clockSet_writes_clock {c : Clk} (h : clockSet day sec s = clockReply 0 (s.setClk c)) :
    ∃ t, Replies (.clockSet tag day sec) s t 0x08 tag ⟨.ok, 0, [⟨0x11, [.u 1 0]⟩]⟩ ∧ SameBut [.clock] s t ∧
      Raises [] s t ∧ t.clk = c := by
  obtain ⟨t, hr, hu⟩ := clockSet_answers takes h
  exact ⟨t, hr, hu.sameBut (.writeClk (by decide) s c), hu.raises (raises_of_hlc rfl), hu.clk⟩

end

/-- Settles O12: the five outcomes of a set, and of each the clock it leaves; a forward set's run writes the last rollover
day alone of the clock before the set writes the time. -/
theorem clockSetMovesTheClock : Obligations.ClockSetMovesTheClock := by
  unfold Obligations.ClockSetMovesTheClock
  refine ⟨fun tag day sec s takes hd hs unset => ?_, fun tag day sec s takes hd hs set => ?_⟩
  · obtain ⟨t, hr, hu⟩ := clockSet_answers (tag := tag) takes (clockSet_first hd hs unset)
    have parts : SameBut [.clock, .berths] s (firstSet day sec s) :=
      ((setTime_sameBut (by decide) day sec s).setClk (by decide) _).setTides (by decide) _
    exact ⟨t, hr, hu.sameBut parts, hu.raises (raises_of_hlc rfl), hu.clk, hu.bal⟩
  · obtain ⟨far, forward, backward, equal⟩ := clockSet_of_isSet hd hs set
    refine ⟨fun late => read_answers rfl rfl takes (far late), fun later near => ?_, fun earlier => ?_,
      fun same => clockSet_writes_clock takes (equal same)⟩
    · obtain ⟨t, hr, hu⟩ := clockSet_answers (tag := tag) takes (forward later near)
      have run := rollRun_clk_to_night .set (nightAt s.clk.rollHour day sec) s
      refine ⟨t, hr, hu.sameBut ((rollRun_parts ..).trans (setTime_sameBut (by decide) ..)), ?_, ?_⟩
      · have rolled : ({ s.clk with lastRoll := max s.clk.lastRoll (nightAt s.clk.rollHour day sec) } : Clk).isSet = true :=
          set
        rw [hu.clk, setTime_eq]
        exact (congrArg (Clk.setTo · day sec) run).trans (Clk.setTo_of_isSet rolled day sec)
      · rw [rollRun_eq] at hu
        dsimp only
        rw [hu.clk]
        exact hu
    · refine clockSet_writes_clock takes ?_
      rw [backward earlier, setTime_eq, Clk.setTo_of_isSet set]

end Sys2Proof.Machine
end

section
/-! SUPPORT. The clock's advance by 1/256 s, the events it marks, and its stop (R69, R79 to R81, O16). -/

namespace Sys2Proof.Machine

/-! ## The events of a second -/

/-- The clock on a second it has advanced onto: the second's events are marked while the part runs. -/
def Clk.marked (events : Bool) (c : Clk) : Clk := if events then markEvents c else c

/-- The band boundary due on a second of a clock that is set (R80). -/
def Clk.bandMark (c : Clk) : Option Band :=
  if c.sec = c.dayHour * 3600 then some .day else if c.sec = c.nightHour * 3600 then some .night else c.bandDue

/-- R79, R80: only the settlement timer and the marks are written, and only while the part runs and the clock is set. -/
theorem Clk.marked_eq (events : Bool) (c : Clk) :
    c.marked events =
      { c with
        settleDue := c.settleDue || (events && c.isSet && decide (c.sec = c.settleTimer))
        settleTimer :=
          if events = true ∧ c.isSet = true ∧ c.sec = c.settleTimer then nextInterval c.interval c.sec else c.settleTimer
        bandDue := if events = true ∧ c.isSet = true then c.bandMark else c.bandDue } := by
  by_cases run : events = true ∧ c.isSet = true
  · obtain ⟨part, set⟩ := run
    simp [Clk.marked, markEvents, Clk.bandMark, part, set]
  · have idle : (events && c.isSet) = false := by simpa using run
    have kept : c.marked events = c := by
      unfold Clk.marked markEvents
      split
      · rename_i part
        exact if_neg fun set => run ⟨part, set⟩
      · rfl
    rw [kept, idle, if_neg run, if_neg fun h => run ⟨h.1, h.2.1⟩]
    simp

theorem Clk.bandMark_day {c : Clk} (day : c.sec = c.dayHour * 3600) : c.bandMark = some .day := if_pos day

theorem Clk.bandMark_night {c : Clk} (hours : c.dayHour ≠ c.nightHour) (night : c.sec = c.nightHour * 3600) :
    c.bandMark = some .night := by
  rw [Clk.bandMark, if_neg (by omega), if_pos night]

/-! ## The three ways the clock advances -/

section
variable (events : Bool) {c : Clk}

theorem advanceClock_fraction (room : c.frac < 255) : advanceClock events c = { c with frac := c.frac + 1 } := if_pos room

/-- R69: at the end of a second that is not the last of day 65535 the clock goes on to the next, and the events of that
second are marked. -/
theorem advanceClock_second (last : c.frac = 255) (sound : c.sec ≤ 86399) (more : c.day < 65535 ∨ c.sec < 86399) :
    ∃ day sec, advanceClock events c = Clk.marked events { c with day, sec, frac := 0 } ∧
      day * 86400 + sec = c.day * 86400 + c.sec + 1 ∧ sec ≤ 86399 := by
  unfold advanceClock
  dsimp only
  rw [if_neg (by omega)]
  by_cases inside : c.sec < 86399
  · exact ⟨c.day, c.sec + 1, if_pos inside, by omega, by omega⟩
  · refine ⟨c.day + 1, 0, ?_, by omega, by omega⟩
    rw [if_neg inside, if_pos (by omega)]
    rfl

/-- R69: the clock stops at the end of day 65535. -/
theorem advanceClock_end (last : c.frac = 255) (hd : c.day = 65535) (hs : c.sec = 86399) :
    advanceClock events c = stopClock c := by
  unfold advanceClock
  dsimp only
  rw [if_neg (by omega), if_neg (by omega), if_neg (by omega)]

end

/-! ## CLOCK_STOP -/

/-- R69: CLOCK_STOP of a clock that runs. -/
theorem exec_clockStop {s : State} (runs : s.sup.main = true ∨ s.sup.backup = true) :
    ∃ t, exec .clockStop s = .next t ∧ AsLeft (s.setClk (stopClock s.clk)) t := by
  refine ⟨pump (s.setClk (stopClock s.clk)), ?_, asLeft_pump _⟩
  have stops : (if s.clockRuns then s.setClk (stopClock s.clk) else s) = s.setClk (stopClock s.clk) :=
    if_pos (by simpa [State.clockRuns] using runs)
  rw [← stops]
  rfl

/-- R81: no event of a clock that is not set is due. -/
theorem dueClock_of_unset {s : State} (unset : s.clk.isSet = false) : s.dueClock = none := by
  simp [State.dueClock, State.rolloverDue, unset]

/-- Settles O16: the clock's next reading by the three branches of its advance, the marks of a second it advances onto, and
the stop, after which no event is due because the clock is unset. -/
theorem clockAdvancesAndStops : Obligations.ClockAdvancesAndStops := by
  unfold Obligations.ClockAdvancesAndStops
  refine ⟨fun events c hs _ _ => ⟨advanceClock_fraction events, fun last more => ?_, fun last hd hs => ?_⟩, fun s runs => ?_⟩
  · obtain ⟨day, sec, next, later, inDay⟩ := advanceClock_second events last hs more
    rw [Clk.marked_eq] at next
    rw [next]
    refine ⟨rfl, later, inDay, rfl, rfl, rfl, rfl, fun run set isDay => ?_, fun run set hours isNight => ?_⟩
    · exact (if_pos ⟨run, set⟩).trans (Clk.bandMark_day isDay)
    · exact (if_pos ⟨run, set⟩).trans (Clk.bandMark_night hours isNight)
  · rw [advanceClock_end events last hd hs]
    exact ⟨rfl, rfl, rfl, rfl⟩
  · obtain ⟨t, ht, hu⟩ := exec_clockStop runs
    refine ⟨t, ht, hu.sameBut (.writeClk (by decide) s _), hu.raises (raises_of_hlc rfl), dueClock_of_unset ?_, hu.clk⟩
    rw [hu.clk]
    rfl

end Sys2Proof.Machine
end

section
/-! SUPPORT. SITE_PUT of one item (R71, R198, O17): what each parameter's item answers and writes, where the band hour it
does not write is one; and a state, with a night band hour that is none, in which the day band hour's item is refused. -/

namespace Sys2Proof.Machine

/-! ## One item -/

/-- A SITE_PUT of one item is answered as written, and its parameter reads back at the value. -/
structure SiteWritten (tag p : Nat) (v : Int) (s t : State) : Prop where
  replies : Replies (.sitePut tag [.row ⟨p, v⟩]) s t 0x03 tag (rowsWritten 1)
  reads : t.siteValue p = v

theorem AsLeft.siteValue {u t : State} (h : AsLeft u t) (q : Nat) : t.siteValue q = u.siteValue q := by
  rw [h.blocks]
  rfl

/-- R71: two band hours that differ. -/
theorem setBandHours_accepted {day night : Nat} (s : State) (hd : day ≤ 23) (hn : night ≤ 23) (differ : day ≠ night) :
    setBandHours day night s = .ok (s.setClk { s.clk with dayHour := day, nightHour := night }) :=
  if_pos (by simp [within_true (Nat.zero_le _) hd, within_true (Nat.zero_le _) hn, differ])

theorem withinInt_true {lo hi v : Int} (h : lo ≤ v) (k : v ≤ hi) : withinInt lo hi v = true := by simp [withinInt, h, k]

section
variable {tag p : Nat} {v : Int} {s : State} (takes : s.takes = true)
include takes

/-- R198: an item its owner accepts. -/
theorem sitePut_answers {u : State} (item : siteItem 0 ⟨p, v⟩ s = .ok u) (reads : u.siteValue p = v) :
    ∃ t, SiteWritten tag p v s t ∧ AsLeft u t := by
  obtain ⟨t, hr, hu⟩ := request_answers (i := .sitePut tag [.row ⟨p, v⟩]) rfl rfl takes
    (multiPut_one (most := 16) (by decide) item)
  exact ⟨t, ⟨hr, (hu.siteValue p).trans reads⟩, hu⟩

theorem sitePut_writes_bal {x : Bal} (item : siteItem 0 ⟨p, v⟩ s = .ok { s with bal := x })
    (reads : State.siteValue { s with bal := x } p = v) :
    ∃ t, SiteWritten tag p v s t ∧ SameBut [.berths] s t ∧ t.bal = x := by
  obtain ⟨t, ht, hu⟩ := sitePut_answers takes item reads
  exact ⟨t, ht, hu.sameBut (.writeBal (by decide) s x), hu.bal⟩

theorem sitePut_writes_clk {x : Clk} (item : siteItem 0 ⟨p, v⟩ s = .ok (s.setClk x))
    (reads : (s.setClk x).siteValue p = v) :
    ∃ t, SiteWritten tag p v s t ∧ SameBut [.clock] s t ∧ t.clk = x := by
  obtain ⟨t, ht, hu⟩ := sitePut_answers takes item reads
  exact ⟨t, ht, hu.sameBut (.writeClk (by decide) s x), hu.clk⟩

/-! ## The parameters of the berth allocator and the fuel dock -/

theorem sitePut_lowWater (lo : -300 ≤ v) (hi : v ≤ 800) :
    ∃ t, SiteWritten tag 0 v s t ∧ SameBut [.berths] s t ∧ t.bal = { s.bal with lowWater := v } :=
  sitePut_writes_bal takes (if_pos (withinInt_true lo hi)) rfl

theorem sitePut_margin (lo : 0 ≤ v) (hi : v ≤ 300) :
    ∃ t, SiteWritten tag 1 v s t ∧ SameBut [.berths] s t ∧ t.bal = { s.bal with margin := v.toNat } :=
  sitePut_writes_bal takes (if_pos (withinInt_true lo hi)) (Int.toNat_of_nonneg lo)

theorem sitePut_grace (lo : 0 ≤ v) (hi : v ≤ 3) :
    ∃ t, SiteWritten tag 2 v s t ∧ SameBut [.berths] s t ∧ t.bal = { s.bal with grace := v.toNat } :=
  sitePut_writes_bal takes (if_pos (withinInt_true lo hi)) (Int.toNat_of_nonneg lo)

theorem sitePut_cap (lo : 0 ≤ v) (hi : v ≤ 100000) :
    ∃ t, SiteWritten tag 8 v s t ∧ SameBut [.fuel] s t ∧ t.fdc = { s.fdc with cap := v.toNat } := by
  have item : siteItem 0 ⟨8, v⟩ s = .ok { s with fdc := { s.fdc with cap := v.toNat } } :=
    if_pos (withinInt_true lo hi)
  obtain ⟨t, ht, hu⟩ := sitePut_answers (tag := tag) takes item (Int.toNat_of_nonneg lo)
  exact ⟨t, ht, hu.sameBut (.writeFdc (by decide) s _), by rw [hu.blocks]⟩

/-! ## The parameters of the clock unit -/

theorem sitePut_interval (listed : v ∈ ([5, 10, 15, 20, 30, 60] : List Int)) :
    ∃ t, SiteWritten tag 4 v s t ∧ SameBut [.clock] s t ∧
      t.clk = { s.clk with interval := v.toNat, settleTimer := nextInterval v.toNat s.clk.sec } := by
  have accepted : (withinInt 0 60 v && intervals.contains v.toNat) = true :=
    (by decide : ∀ w ∈ ([5, 10, 15, 20, 30, 60] : List Int), (withinInt 0 60 w && intervals.contains w.toNat) = true)
      v listed
  have range : 0 ≤ v := (by decide : ∀ w ∈ ([5, 10, 15, 20, 30, 60] : List Int), 0 ≤ w) v listed
  exact sitePut_writes_clk takes (if_pos accepted) (Int.toNat_of_nonneg range)

/-- R71: the day band hour, where the night band hour that stays is one. -/
theorem sitePut_dayHour (stays : s.clk.nightHour ≤ 23) (lo : 0 ≤ v) (hi : v ≤ 23) (differ : v.toNat ≠ s.clk.nightHour) :
    ∃ t, SiteWritten tag 5 v s t ∧ SameBut [.clock] s t ∧ t.clk = { s.clk with dayHour := v.toNat } :=
  have hour : v.toNat ≤ 23 := by omega
  sitePut_writes_clk takes
    ((if_pos (withinInt_true lo hi)).trans (setBandHours_accepted s hour stays differ)) (Int.toNat_of_nonneg lo)

/-- R71: the night band hour, where the day band hour that stays is one. -/
theorem sitePut_nightHour (stays : s.clk.dayHour ≤ 23) (lo : 0 ≤ v) (hi : v ≤ 23) (differ : v.toNat ≠ s.clk.dayHour) :
    ∃ t, SiteWritten tag 6 v s t ∧ SameBut [.clock] s t ∧ t.clk = { s.clk with nightHour := v.toNat } :=
  have hour : v.toNat ≤ 23 := by omega
  sitePut_writes_clk takes
    ((if_pos (withinInt_true lo hi)).trans (setBandHours_accepted s stays hour differ.symm)) (Int.toNat_of_nonneg lo)

theorem sitePut_bandHours {day night : Nat} (hv : v = day * 256 + night) (hd : day ≤ 23) (hn : night ≤ 23)
    (differ : day ≠ night) :
    ∃ t, SiteWritten tag 7 v s t ∧ SameBut [.clock] s t ∧ t.clk = { s.clk with dayHour := day, nightHour := night } := by
  have bytes : setBandHours (v.toNat / 256) (v.toNat % 256) s = setBandHours day night s := by
    congr 1 <;> omega
  have range : withinInt 0 65535 v = true := withinInt_true (by omega) (by omega)
  refine sitePut_writes_clk takes ?_ (by rw [hv]; rfl)
  exact (if_pos range).trans (bytes.trans (setBandHours_accepted s hd hn differ))

end

/-! ## The rollover hour -/

section
variable (hour : Nat) (s : State)

/-- The state with the rollover hour written. -/
def rollHourWritten : State := { s with clk := { s.clk with rollHour := hour } }

/-- The hour's change takes the current night above the last rollover day (R71). -/
def NightRises : Prop :=
  s.clk.isSet = true ∧ s.night ≤ s.clk.lastRoll ∧ s.clk.lastRoll < nightAt hour s.clk.day s.clk.sec

theorem rollHourWritten_siteValue : ∀ {q : Nat}, q ≠ 3 → (rollHourWritten hour s).siteValue q = s.siteValue q
  | 3, other => absurd rfl other
  | 0, _ | 1, _ | 2, _ | 4, _ | 5, _ | 6, _ | 7, _ | 8, _ | _ + 9, _ => rfl

/-- A rollover writes no site parameter. -/
theorem rollOver_siteValue (src : RolloverSource) (moment : Stamp) (d q : Nat) :
    (rollOver src moment d s).siteValue q = s.siteValue q := by
  have fdc : (rollOver src moment d s).fdc = s.fdc := (rollOver_parts src moment d s).fuel.resolve_left (by decide)
  have bal : (rollOver src moment d s).bal = _ := rollOver_bookingsOnly src moment d s
  unfold State.siteValue
  rw [rollOver_clk, fdc, bal]
  rfl

variable {hour s}

/-- R71: that night's rollover runs. -/
theorem setRollHour_of_rises (rises : NightRises hour s) :
    setRollHour hour s = rollOver .site s.now (nightAt hour s.clk.day s.clk.sec) (rollHourWritten hour s) :=
  if_pos rises

theorem setRollHour_of_rests (rests : ¬ NightRises hour s) : setRollHour hour s = rollHourWritten hour s := if_neg rests

theorem setRollHour_siteValue (q : Nat) : (setRollHour hour s).siteValue q = (rollHourWritten hour s).siteValue q := by
  by_cases rises : NightRises hour s
  · rw [setRollHour_of_rises rises, rollOver_siteValue]
  · rw [setRollHour_of_rests rises]

theorem setRollHour_parts : SameBut rolloverParts s (setRollHour hour s) := by
  have written : SameBut rolloverParts s (rollHourWritten hour s) := .writeClk (by decide) s _
  by_cases rises : NightRises hour s
  · rw [setRollHour_of_rises rises]
    exact written.trans (rollOver_parts ..)
  · rwa [setRollHour_of_rests rises]

end

/-- R71, R198. -/
theorem sitePut_rollHour {tag : Nat} {v : Int} {s : State} (takes : s.takes = true) (lo : 0 ≤ v) (hi : v ≤ 23) :
    ∃ t, SiteWritten tag 3 v s t ∧ SameBut rolloverParts s t ∧ (∀ q, q ≠ 3 → t.siteValue q = s.siteValue q) ∧
      (NightRises v.toNat s →
        AsLeft (rollOver .site s.now (nightAt v.toNat s.clk.day s.clk.sec) (rollHourWritten v.toNat s)) t ∧
        t.clk = { s.clk with rollHour := v.toNat, lastRoll := nightAt v.toNat s.clk.day s.clk.sec }) ∧
      (¬ NightRises v.toNat s →
        SameBut [.clock] s t ∧ Raises [] s t ∧ t.clk = { s.clk with rollHour := v.toNat }) := by
  have item : siteItem 0 ⟨3, v⟩ s = .ok (setRollHour v.toNat s) := if_pos (withinInt_true lo hi)
  obtain ⟨t, ht, hu⟩ := sitePut_answers (tag := tag) takes item
    ((setRollHour_siteValue 3).trans (Int.toNat_of_nonneg lo))
  refine ⟨t, ht, hu.sameBut setRollHour_parts, fun q other => ?_, fun rises => ?_, fun rests => ?_⟩
  · exact ((hu.siteValue q).trans (setRollHour_siteValue q)).trans (rollHourWritten_siteValue _ s other)
  · rw [setRollHour_of_rises rises] at hu
    exact ⟨hu, hu.clk.trans (rollOver_clk ..)⟩
  · rw [setRollHour_of_rests rests] at hu
    exact ⟨hu.sameBut (.writeClk (by decide) s _), hu.raises (raises_of_hlc rfl), hu.clk⟩

/-! ## The refutation -/

/-- The reset state but for a night band hour of 24. R71 gives a band hour 0 to 23, and `Inv` keeps it so. -/
def nightHourAstray : State := { State.reset with clk := { State.reset.clk with nightHour := 24 } }

/-- The day band hour's item is judged with the night band hour that stays (R71), and is refused RANGE. -/
theorem nightHourAstray_refuses (tag : Nat) :
    ∃ t, Replies (.sitePut tag [.row ⟨5, 7⟩]) nightHourAstray t 0x03 tag ⟨.range, 0, []⟩ := by
  have refused : sitePut [.row ⟨5, 7⟩] nightHourAstray = (nightHourAstray, ⟨.range, 0, []⟩) := by rfl
  obtain ⟨t, ht, -⟩ := read_answers (i := .sitePut tag [.row ⟨5, 7⟩]) rfl rfl (by decide) refused
  exact ⟨t, ht⟩

/-- Refutes O17: it names every state, and in one whose night band hour is past 23 the day band hour's item is refused RANGE,
as `nightHourAstray` shows. That the band hour an item leaves is within its range (R71; `Inv` keeps it) is what the statement
lacks, for its items 5 and 6: those hold with it (`sitePut_dayHour`, `sitePut_nightHour`), and the others hold in every state
(`sitePut_lowWater`, `sitePut_margin`, `sitePut_grace`, `sitePut_rollHour`, `sitePut_interval`, `sitePut_bandHours`,
`sitePut_cap`). -/
theorem not_sitePutWritesOneParameter : ¬ Obligations.SitePutWritesOneParameter := by
  unfold Obligations.SitePutWritesOneParameter
  intro holds
  obtain ⟨-, -, -, -, -, dayHour, -⟩ := holds 0 5 7 nightHourAstray (by decide)
  obtain ⟨t, ⟨⟨runs, written⟩, -⟩, -⟩ := dayHour rfl (by decide) (by decide) (by decide)
  obtain ⟨u, runsToo, refused⟩ := nightHourAstray_refuses 0
  obtain rfl : t = u := Host.Outcome.next.inj (runs.symm.trans runsToo)
  exact absurd (written.symm.trans refused) (by decide)

end Sys2Proof.Machine
end

section
/-! SUPPORT. PEDESTAL_PUT (R84, O31): a pedestal that is not busy leaves the scan without a release and without a notice. -/

namespace Sys2Proof.Machine

/-- R119, plug gone, of a socket that is neither supplied nor PENDING: it leaves the states a plug gave it. -/
theorem takePlugGone_of_at_rest {n : Nat} {s : State} (unsupplied : (s.socket n).supplied = false)
    (out : (s.socket n).state ≠ .pending) :
    takePlugGone n s =
      if (s.socket n).state ∈ [SocketState.waiting, .shed, .tripped] then
        s.setSocket n { s.socket n with state := .idle, shedSource := none, holdOffEnd := none }
      else s := by
  rw [Bool.eq_false_iff, Ne, supplied_iff, not_or] at unsupplied
  unfold takePlugGone
  dsimp only
  generalize (s.socket n).state = state at unsupplied out
  cases state <;> simp at unsupplied out ⊢

/-- R84: one socket of a pedestal that leaves the scan. -/
def forgetSocket (n : Nat) (s : State) : State := takePlugGone n (s.setReport n none)

/-- No socket of a list is supplied or PENDING. -/
def AtRest (l : List Nat) (s : State) : Prop := ∀ n ∈ l, (s.socket n).supplied = false ∧ (s.socket n).state ≠ .pending

/-- A socket without a report and in none of the states that a plug gave it. -/
def Forgotten (n : Nat) (s : State) : Prop :=
  s.report n = none ∧ (s.socket n).state ∉ [SocketState.waiting, .shed, .tripped]

section
variable {l : List Nat} {n m : Nat} {s : State}

theorem forgetSocket_cases (rest : AtRest l s) (hn : n ∈ l) :
    (forgetSocket n s = s.setReport n none ∧ (s.socket n).state ∉ [SocketState.waiting, .shed, .tripped]) ∨
      forgetSocket n s = (s.setReport n none).setSocket n
        { s.socket n with state := .idle, shedSource := none, holdOffEnd := none } := by
  obtain ⟨unsupplied, out⟩ := rest n hn
  have taken := takePlugGone_of_at_rest (s := s.setReport n none) unsupplied out
  by_cases h : (s.socket n).state ∈ [SocketState.waiting, .shed, .tripped]
  · exact .inr (taken.trans (if_pos h))
  · exact .inl ⟨taken.trans (if_neg h), h⟩

theorem forgetSocket_report (rest : AtRest l s) (hn : n ∈ l) (m : Nat) :
    (forgetSocket n s).report m = if m = n then none else s.report m := by
  rcases forgetSocket_cases rest hn with ⟨h, -⟩ | h
  · rw [h, State.report_setReport]
  · rw [h]
    exact State.report_setReport ..

theorem forgetSocket_socket (rest : AtRest l s) (hn : n ∈ l) (m : Nat) :
    (forgetSocket n s).socket m = s.socket m ∨ ((forgetSocket n s).socket m).state = .idle := by
  rcases forgetSocket_cases rest hn with ⟨h, -⟩ | h
  · exact .inl (by rw [h]; rfl)
  · rw [h, State.socket_setSocket]
    by_cases hm : m = n
    · rw [if_pos hm]; exact .inr rfl
    · rw [if_neg hm]; exact .inl rfl

/-- What forgetting a socket leaves as it was: all but the reports and the sockets. -/
theorem forgetSocket_rest (rest : AtRest l s) (hn : n ∈ l) :
    forgetSocket n s = { s with
      pdl := { s.pdl with reports := (forgetSocket n s).pdl.reports }
      far := { s.far with sockets := (forgetSocket n s).far.sockets } } := by
  rcases forgetSocket_cases rest hn with ⟨h, -⟩ | h
  · rw [h]; rfl
  · rw [h]; rfl

theorem forgetSocket_atRest (rest : AtRest l s) (hn : n ∈ l) : AtRest l (forgetSocket n s) := fun m hm => by
  rcases forgetSocket_socket rest hn m with h | h
  · rw [h]
    exact rest m hm
  · exact ⟨by simp [Socket.supplied, h], by simp [h]⟩

theorem forgetSocket_forgets (rest : AtRest l s) (hn : n ∈ l) : Forgotten n (forgetSocket n s) := by
  refine ⟨by rw [forgetSocket_report rest hn, if_pos rfl], ?_⟩
  rcases forgetSocket_cases rest hn with ⟨h, out⟩ | h
  · rw [h]
    exact out
  · rw [h, State.socket_setSocket, if_pos rfl]
    simp

theorem forgetSocket_keeps_forgotten (rest : AtRest l s) (hn : n ∈ l) (h : Forgotten m s) :
    Forgotten m (forgetSocket n s) := by
  obtain ⟨report, out⟩ := h
  refine ⟨?_, ?_⟩
  · rw [forgetSocket_report rest hn, report, ite_self]
  · rcases forgetSocket_socket rest hn m with h | h
    · rwa [h]
    · rw [h]
      decide

end

/-! ## The row -/

/-- R84: a pedestal out of the scan, its link and its sockets forgotten, and nothing else of the part. -/
theorem unconfigure_forgets {a : Nat} {s : State} (rest : AtRest (socketsOf a) s) :
    unconfigure a s = { s with
        pdl := { s.pdl with
          links := (s.setLink a { startLink with heard := (s.link a).heard }).pdl.links
          reports := (unconfigure a s).pdl.reports }
        far := { s.far with sockets := (unconfigure a s).far.sockets } } ∧
      ∀ n ∈ socketsOf a, Forgotten n (unconfigure a s) := by
  have start : AtRest (socketsOf a) (s.setLink a { startLink with heard := (s.link a).heard }) := rest
  obtain ⟨⟨-, unchanged⟩, forgotten⟩ := foldl_establishes (f := fun u n => forgetSocket n u) (P := Forgotten)
    (inv := fun u => AtRest (socketsOf a) u ∧
      u = { s with
        pdl := { s.pdl with
          links := (s.setLink a { startLink with heard := (s.link a).heard }).pdl.links
          reports := u.pdl.reports }
        far := { s.far with sockets := u.far.sockets } })
    (fun u n hn ⟨rest, same⟩ =>
      ⟨forgetSocket_atRest rest hn, (forgetSocket_rest rest hn).trans (by rw [same])⟩)
    (fun u n hn ⟨rest, _⟩ => forgetSocket_forgets rest hn)
    (fun u n hn m _ ⟨rest, _⟩ h => forgetSocket_keeps_forgotten rest hn h)
    ⟨start, rfl⟩
  exact ⟨unchanged, forgotten⟩

theorem atRest_of_not_busy {a : Nat} {s : State} (h : s.pedestalBusy a = false) : AtRest (socketsOf a) s := by
  intro n hn
  simp only [State.pedestalBusy, Bool.or_eq_false_iff, List.any_eq_false] at h
  simpa using h.1 n hn

/-- A pedestal's row as it is written, the scan not yet begun. -/
def pedestalWritten (a : Nat) (r : PedestalRow) (s : State) : State :=
  if (s.pedestal a).configured && !r.configured then unconfigure a (s.setPedestal a ⟨r.configured, r.feeder⟩)
  else s.setPedestal a ⟨r.configured, r.feeder⟩

theorem pedestalRow_accepted {a : Nat} {r : PedestalRow} {s : State} (ha : 1 ≤ a ∧ a ≤ 64)
    (hf : 1 ≤ r.feeder ∧ r.feeder ≤ 8)
    (free : r.feeder ≠ (s.pedestal a).feeder ∨ ((s.pedestal a).configured = true ∧ r.configured = false) →
      s.pedestalBusy a = false) :
    pedestalRow a r s = .ok
      (if (pedestalWritten a r s).pdl.poll.isNone then beginScan (pedestalWritten a r s) else pedestalWritten a r s) := by
  unfold pedestalRow
  simp only [within_iff.2 ha, within_iff.2 hf, Bool.and_self, Bool.not_true, Bool.false_eq_true, if_false]
  rw [if_neg]
  · rfl
  · rintro ⟨change, busy⟩
    rw [free change] at busy
    cases busy

/-- A row of a pedestal writes, but for the poll that may begin a scan (log entry 16), what it says of the table. -/
theorem pedestalRow_written (a : Nat) (r : PedestalRow) (s : State) :
    ∃ poll replied,
      (if (pedestalWritten a r s).pdl.poll.isNone then beginScan (pedestalWritten a r s) else pedestalWritten a r s) =
        { pedestalWritten a r s with pdl := { (pedestalWritten a r s).pdl with poll, replied } } := by
  split
  · exact ⟨_, _, rfl⟩
  · exact ⟨_, _, rfl⟩

/-- Settles O31: the one write of the table, and for a pedestal that leaves the scan what forgetting its sockets writes. -/
theorem pedestalPutWritesTheRow : Obligations.PedestalPutWritesTheRow := by
  unfold Obligations.PedestalPutWritesTheRow
  intro tag a r s takes ha1 ha64 hf1 hf8 old free
  obtain ⟨t, hr, left⟩ := request_answers (i := .pedestalPut tag a [.row r]) rfl rfl takes
    (multiPut_one (by decide : 1 ≤ 15) (pedestalRow_accepted ⟨ha1, ha64⟩ ⟨hf1, hf8⟩ free))
  obtain ⟨poll, replied, scanned⟩ := pedestalRow_written a r s
  rw [scanned] at left
  have pedestal (j : Nat) : (s.setPedestal a ⟨r.configured, r.feeder⟩).pedestal j =
      if j = a then ⟨r.configured, r.feeder⟩ else s.pedestal j := State.pedestal_setPedestal ..
  refine ⟨t, hr, ?_⟩
  by_cases leaves : (s.pedestal a).configured = true ∧ r.configured = false
  · obtain ⟨was, is⟩ := leaves
    have written : pedestalWritten a r s = unconfigure a (s.setPedestal a ⟨r.configured, r.feeder⟩) :=
      if_pos (by simp [was, is])
    obtain ⟨rest, forgotten⟩ := unconfigure_forgets (s := s.setPedestal a ⟨r.configured, r.feeder⟩)
      (atRest_of_not_busy (free (.inr ⟨was, is⟩)))
    rw [written] at left
    generalize unconfigure a (s.setPedestal a ⟨r.configured, r.feeder⟩) = u at left rest forgotten
    have link (j : Nat) : t.link j = if j = a then { startLink with heard := (s.link a).heard } else s.link j := by
      rw [State.link, left.pdl, rest]
      exact State.link_setLink s a j _
    refine ⟨left.sameBut ?_, left.raises (raises_of_hlc (by rw [rest]; rfl)), fun j => ?_, fun j hj => ?_,
      fun _ _ => ⟨?_, fun n hn => ?_⟩, fun h => ?_⟩
    · rw [rest]
      exact (SameBut.writePdl (by decide) s _).trans (.writeFar (by decide) _ _)
    · rw [State.pedestal, left.pdl, rest]
      exact pedestal j
    · rw [link, if_neg hj]
    · rw [link, if_pos rfl]
    · obtain ⟨report, state⟩ := forgotten n hn
      rw [State.report, State.socket, left.pdl, left.far]
      exact ⟨report, state⟩
    · rcases h with h | h
      · exact absurd (was.symm.trans h) (by decide)
      · exact absurd (is.symm.trans h) (by decide)
  · have written : pedestalWritten a r s = s.setPedestal a ⟨r.configured, r.feeder⟩ :=
      if_neg (by simpa using leaves)
    rw [written] at left
    have link (j : Nat) : t.link j = s.link j := by rw [State.link, left.pdl]; rfl
    refine ⟨left.sameBut (.writePdl (by decide) s _), left.raises (raises_of_hlc rfl), fun j => ?_,
      fun j _ => link j, fun was is => absurd ⟨was, is⟩ leaves, fun _ => ⟨link a, left.far, by rw [left.pdl]; rfl⟩⟩
    rw [State.pedestal, left.pdl]
    exact pedestal j

end Sys2Proof.Machine
end

section
/-! SUPPORT. The starts that keep the retained domain (R200, R201, O9): what each block's part of a start writes, and the
state that a start leaves. -/

namespace Sys2Proof.Machine

/-! ## The hoses and the gates -/

/-- R134, R155: at a start each hose is read from its nozzle, and nothing else is written. -/
theorem startHoses_eq (l : List Nat) (s : State) :
    ∃ hoses, l.foldl (fun t h => startHoseNow h t) s = { s with fdc := { s.fdc with hoses } } ∧
      ∀ j, tableGet startHose hoses j =
        if j ∈ l then (if s.nozzle j then startHoseLifted else startHose) else s.hose j := by
  induction l generalizing s with
  | nil => exact ⟨s.fdc.hoses, rfl, fun _ => rfl⟩
  | cons h rest ih =>
    obtain ⟨hoses, eq, reads⟩ := ih (startHoseNow h s)
    refine ⟨hoses, eq, fun j => (reads j).trans ?_⟩
    have written : (startHoseNow h s).hose j =
        if j = h then (if s.nozzle h then startHoseLifted else startHose) else s.hose j := State.hose_setHose ..
    by_cases hr : j ∈ rest
    · rw [if_pos hr, if_pos (List.mem_cons_of_mem _ hr)]
      rfl
    · rw [if_neg hr, written]
      by_cases hj : j = h
      · simp [hj]
      · simp [hj, hr]

/-- R196: a notice raised with room in the queue joins it. -/
theorem raise_of_room {s : State} (room : s.hlc.notices.length < noticeCapacity) (b : NoticeBody) :
    s.raise b = { s with hlc := { s.hlc with notices := s.hlc.notices ++ [⟨s.now, b⟩] } } := by
  rw [State.raise, enterNotice, if_neg (Nat.not_le.2 room)]
  rfl

/-- The notice of one gate at a start, where its contact reads OPEN. -/
def gateNotices (s : State) (g : Nat) : List Notice := if s.contact g then [openGateNotice s g] else []

/-- R163, R185: at a start a gate is judged by its contact, an OPEN one with its notice. -/
theorem startGateNow_eq {g : Nat} {s : State} (room : s.hlc.notices.length < noticeCapacity) :
    ∃ gates, startGateNow g s = { s with
        gtc := { s.gtc with gates }
        hlc := { s.hlc with notices := s.hlc.notices ++ gateNotices s g } } ∧
      ∀ j, tableGet startGate gates j = if j = g then startedGate s g else s.gate j := by
  have opened (door : DoorState) (j : Nat) :
      (settleDoor g door (keepContact g true (s.setGate g startGate))).gate j =
        if j = g then ⟨door, true, none, none, none, none, false⟩ else s.gate j := by
    simp only [settleDoor, keepContact, State.gate_setGate, if_true]
    split <;> rfl
  by_cases contact : s.contact g = true
  · by_cases mode : (s.gateCfg g).mode = .openHold
    · have run : startGateNow g s = (settleDoor g .opened (keepContact g true (s.setGate g startGate))).raise
          (.gatePassage g .none none false) := (if_pos contact).trans (if_pos mode)
      refine ⟨(settleDoor g .opened (keepContact g true (s.setGate g startGate))).gtc.gates, ?_, fun j => ?_⟩
      · rw [run, raise_of_room (by exact room)]
        simp only [gateNotices, openGateNotice, if_pos contact, if_pos mode]
        rfl
      · refine (opened .opened j).trans ?_
        simp only [startedGate, if_pos contact, if_pos mode]
    · have door : ((s.setGate g startGate).gate g).door = .secure := by rw [State.gate_setGate, if_pos rfl]; rfl
      have run : startGateNow g s = (settleDoor g .forcedAlarm (keepContact g true (s.setGate g startGate))).raise
          (.gateForced g) := by
        refine (if_pos contact).trans ((if_neg mode).trans ?_)
        rw [door]
      refine ⟨(settleDoor g .forcedAlarm (keepContact g true (s.setGate g startGate))).gtc.gates, ?_, fun j => ?_⟩
      · rw [run, raise_of_room (by exact room)]
        simp only [gateNotices, openGateNotice, if_pos contact, if_neg mode]
        rfl
      · refine (opened .forcedAlarm j).trans ?_
        simp only [startedGate, if_pos contact, if_neg mode]
  · refine ⟨(s.setGate g startGate).gtc.gates, ?_, fun j => ?_⟩
    · rw [startGateNow, if_neg contact, gateNotices, if_neg contact, List.append_nil]
      rfl
    · rw [startedGate, if_neg contact]
      exact State.gate_setGate ..

/-- R163, R185: the gates at a start, in their order. -/
theorem startGates_eq {l : List Nat} {s : State} (room : s.hlc.notices.length + l.length ≤ noticeCapacity) :
    ∃ gates, l.foldl (fun t g => startGateNow g t) s = { s with
        gtc := { s.gtc with gates }
        hlc := { s.hlc with notices := s.hlc.notices ++ (l.filter s.contact).map (openGateNotice s) } } ∧
      ∀ j, tableGet startGate gates j = if j ∈ l then startedGate s j else s.gate j := by
  induction l generalizing s with
  | nil => exact ⟨s.gtc.gates, by simp, fun _ => rfl⟩
  | cons g rest ih =>
    rw [List.length_cons] at room
    obtain ⟨first, step, read⟩ := startGateNow_eq (g := g) (s := s) (by omega)
    have some_more : (gateNotices s g).length ≤ 1 := by
      unfold gateNotices
      split <;> simp
    obtain ⟨gates, eq, reads⟩ := ih (s := startGateNow g s) (by
      rw [step]
      simp only [List.length_append]
      omega)
    refine ⟨gates, ?_, fun j => (reads j).trans ?_⟩
    · have notices : gateNotices s g ++ (rest.filter s.contact).map (openGateNotice s) =
          ((g :: rest).filter s.contact).map (openGateNotice s) := by
        rw [gateNotices, List.filter_cons]
        split <;> rfl
      rw [List.foldl_cons, eq, step, ← notices, ← List.append_assoc]
      rfl
    · have same : startedGate (startGateNow g s) j = startedGate s j := by rw [step]; rfl
      have other : (startGateNow g s).gate j = if j = g then startedGate s g else s.gate j := by
        rw [step]
        exact read j
      rw [same, other]
      by_cases hj : j = g
      · simp [hj]
      · simp [hj]

/-! ## The state a start leaves -/

/-- The retained domain with every volatile field at its start value (R200, R201), the hoses and the gates as they are
read, before the transmit path begins STARTED. -/
def startedState (cause : Cause) (spa spb : Bool) (hoses : Table Hose) (gates : Table Gate) (s : State) : State :=
  { s with
    sup := { s.sup with startDue := false, spa, spb }
    hlc := { rxState := .hunt, rxBytes := [], waiting := [], slot := none, tx := none,
             notices := startedNotice cause spa spb s.sup.backup s ::
               ([1, 2, 3, 4, 5, 6].filter s.contact).map (openGateNotice s)
             dropped := false, cause, speed := speedOf spa spb, restart := none }
    clk := { s.clk with
      settleTimer := nextInterval s.clk.interval s.clk.sec, catchUpDue := true, settleDue := false, bandDue := none,
      uptime := 0 }
    bal := { s.bal with arrivals := [] }
    pdl := { s.pdl with
      links := [], reports := [], runs := [], acks := [], replied := false
      poll := s.configuredPedestals.head?.map fun a =>
        ⟨a, [.keep, .keep, .keep, .keep], [false, false], [false, false]⟩ }
    far := { s.far with sockets := startSockets s.pdl.sockets, feeders := [], counter := 0 }
    fdc := { s.fdc with hoses, ready := false }
    gtc := { s.gtc with gates, terminals := [], fuel := startFuelTerminal, keyEvents := [] } }

/-- R200, R201: a start of a cause that keeps the retained domain. -/
theorem start_eq {cause : Cause} (warm : cause ≠ .cold) (spa spb : Bool) (s : State) :
    ∃ hoses gates, start cause spa spb s = startedState cause spa spb hoses gates s ∧
      (∀ h ∈ [1, 2, 3, 4], tableGet startHose hoses h = if s.nozzle h then startHoseLifted else startHose) ∧
      ∀ g ∈ [1, 2, 3, 4, 5, 6], tableGet startGate gates g = startedGate s g := by
  let linked := startClk cause (startHlc cause spa spb { s with sup := { s.sup with startDue := false } })
  let lined := startLine { linked with bal := { linked.bal with arrivals := [] } }
  obtain ⟨hoses, hosesEq, nozzles⟩ := startHoses_eq [1, 2, 3, 4] { lined with fdc := { lined.fdc with hoses := [] } }
  let fuelled : State := { lined with fdc := { lined.fdc with hoses, ready := decide (cause = .cold) } }
  obtain ⟨gates, gatesEq, contacts⟩ := startGates_eq (l := [1, 2, 3, 4, 5, 6])
    (s := { fuelled with
      gtc := { fuelled.gtc with gates := [], terminals := [], fuel := startFuelTerminal, keyEvents := [] } })
    (by decide : 1 + 6 ≤ 32)
  have fdc : startFdc cause lined = fuelled := by
    unfold startFdc
    rw [hosesEq]
  have gtc : start cause spa spb s = startGtc (startFdc cause lined) := by
    unfold start
    rw [if_neg warm]
  refine ⟨hoses, gates, ?_, fun h hh => (nozzles h).trans (if_pos hh), fun g hg => (contacts g).trans (if_pos hg)⟩
  rw [gtc, fdc, startGtc, gatesEq]
  have ready : decide (cause = .cold) = false := decide_eq_false warm
  have owed : decide (cause ≠ .cold) = true := decide_eq_true warm
  simp only [fuelled, lined, linked, startedState, startClk, startHlc, startLine, beginScan, ready, owed]
  rfl

/-- The transmit path begins the oldest notice of a link whose slot is empty and which awaits no restart (R195). -/
theorem pump_begins_notice {s : State} {n : Notice} {rest : List Notice} (running : s.running = true)
    (free : s.hlc.tx = none) (slot : s.hlc.slot = none) (restart : s.hlc.restart = none)
    (queue : s.hlc.notices = n :: rest) :
    (pump s).hlc =
      if s.sup.hostCts then { s.hlc with tx := some (.notice n s.hlc.dropped), notices := rest, dropped := false }
      else s.hlc := by
  unfold pump
  by_cases cts : s.sup.hostCts = true
  · simp [running, cts, free, chooseFrame, slot, restart, sendNotice, queue]
  · simp [cts]

/-- A part with main power that is not held in reset, as a start finds it. -/
def powered (startDue backup : Bool) (s : State) : State :=
  { s with sup := { s.sup with main := true, resetHeld := false, startDue, backup } }

/-- R200, R201: what a start of a powered part leaves, once the transmit path has begun what it may. -/
theorem started_of_start {cause : Cause} (warm : cause ≠ .cold) (spa spb startDue backup : Bool) (s : State) :
    Started cause spa spb s (pump (start cause spa spb (powered startDue backup s))) ∧
      (pump (start cause spa spb (powered startDue backup s))).pending = s.pending ∧
      (pump (start cause spa spb (powered startDue backup s))).sup.backup = backup := by
  obtain ⟨hoses, gates, eq, nozzles, contacts⟩ := start_eq warm spa spb (powered startDue backup s)
  rw [eq]
  have begun := pump_begins_notice (s := startedState cause spa spb hoses gates (powered startDue backup s)) rfl rfl rfl
    rfl rfl
  obtain ⟨blocks, link, outgoing⟩ := asLeft_pump (startedState cause spa spb hoses gates (powered startDue backup s))
  generalize pump (startedState cause spa spb hoses gates (powered startDue backup s)) = t at *
  generalize t.hlc = sent at *
  subst blocks
  have gate (g : Nat) (hg : g ∈ [1, 2, 3, 4, 5, 6]) :
      (startedState cause spa spb hoses gates (powered startDue backup s)).gate g = startedGate s g := contacts g hg
  refine ⟨?_, rfl, rfl⟩
  exact
    { running := rfl, retained := by constructor <;> rfl, supply := rfl
      rxState := link.rxState, rxBytes := link.rxBytes, waiting := link.waiting, lastCause := link.cause
      lineSpeed := link.speed, restart := link.restart
      slot := by rw [begun]; split <;> rfl
      dropped := by rw [begun]; split <;> rfl
      sending := by rw [begun, apply_ite Hlc.tx]; rfl
      notices := outgoing
      settleTimer := rfl, catchUp := rfl, settleDue := rfl, bandDue := rfl, timeBase := rfl, arrivals := rfl
      links := rfl, reports := rfl, runs := rfl, acks := rfl, poll := rfl, replied := rfl
      sockets := rfl, feeders := rfl, counter := rfl, notReady := rfl
      hoses := nozzles, gates := gate
      relays := fun g hg => by
        have shut : ((startedState cause spa spb hoses gates (powered startDue backup s)).gate g).door ≠ .released := by
          rw [gate g hg, startedGate]
          split
          · dsimp only
            split <;> decide
          · decide
        have relay := decide_eq_false shut
        show (decide ((s.gateCfg g).mode = .openHold) || decide (_ = DoorState.released)) = _
        exact (congrArg _ relay).trans (Bool.or_false _)
      terminals := rfl, dock := rfl, keys := rfl }

/-- Settles O9: each cause makes its start of the part it finds powered. -/
theorem startsKeepTheRetainedDomain : Obligations.StartsKeepTheRetainedDomain := by
  unfold Obligations.StartsKeepTheRetainedDomain
  intro spa spb s
  have made {i : Instr} {cause : Cause} (warm : cause ≠ .cold) (startDue backup : Bool)
      (hx : exec i s = .next (pump (start cause spa spb (powered startDue backup s)))) :
      ∃ t, exec i s = .next t ∧ Started cause spa spb s t ∧ t.pending = s.pending ∧ t.sup.backup = backup :=
    ⟨_, hx, started_of_start warm spa spb startDue backup s⟩
  refine ⟨fun backup off mark free => ?_, fun main held owed => ?_, fun running awaited => ?_⟩
  · refine made (cause := .power) (by decide) s.sup.startDue backup ?_
    show Host.Outcome.next (pump (powerOn spa spb backup s)) = _
    have same : powered s.sup.startDue backup s = { s with sup := { s.sup with main := true, backup } } := by
      rw [powered, ← free]
    rw [powerOn, if_neg (by simp [off]), same, if_neg (by simp [free]), State.powerCause, if_pos mark]
  · refine made (cause := .pin) (by decide) false s.sup.backup ?_
    show Host.Outcome.next (pump (resetPinRelease spa spb s)) = _
    have same : powered false s.sup.backup s = { s with sup := { s.sup with resetHeld := false } } := by
      rw [powered, ← main, ← owed]
    rw [resetPinRelease, if_neg (by simp [held]), same, if_neg (by simp [main]), if_neg (by simp [owed])]
  · have same : powered s.sup.startDue s.sup.backup s = s := by
      simp only [State.running, Bool.and_eq_true, Bool.not_eq_true'] at running
      obtain ⟨⟨main, free⟩, -⟩ := running
      rw [powered, ← main, ← free]
    refine ⟨fun empty => made (by decide) s.sup.startDue s.sup.backup ?_,
      made (by decide) s.sup.startDue s.sup.backup ?_⟩
    · show Host.Outcome.next (pump (restartBegin spa spb s)) = _
      rw [same, restartBegin, if_pos ⟨running, awaited, by rw [empty]; rfl⟩]
    · show Host.Outcome.next (pump (restartTimeout spa spb s)) = _
      rw [same, restartTimeout, if_pos ⟨running, awaited⟩]

end Sys2Proof.Machine
end

section
/-! SUPPORT. What a charge, a tap's close and the feeders' operations leave of the link and of the pedestal line (O34, O35):
notices alone are raised, and of the line the taps' runs and the meters' unsettled quantities alone move. -/

namespace Sys2Proof.Machine

/-- Notices are raised and no reply is made; of the pedestal line the runs and the unsettled quantities alone may differ. -/
structure LineKept (s t : State) : Prop where
  speaks : Speaks s t
  pdl : t.pdl = { s.pdl with runs := t.pdl.runs, socketMeters := t.pdl.socketMeters, tapMeters := t.pdl.tapMeters }
  socketBaseline : ∀ n, (t.socketMeter n).baseline = (s.socketMeter n).baseline
  tapBaseline : ∀ n, (t.tapMeter n).baseline = (s.tapMeter n).baseline

namespace LineKept

variable {s t u : State}

/-- An operation that does not reach the line. -/
theorem of_pdl (speaks : Speaks s t) (h : t.pdl = s.pdl) : LineKept s t where
  speaks := speaks
  pdl := by rw [h]
  socketBaseline n := by rw [State.socketMeter, h]; rfl
  tapBaseline n := by rw [State.tapMeter, h]; rfl

/-- A write of another block than the link and the line. -/
theorem of_blocks (hlc : t.hlc = s.hlc) (pdl : t.pdl = s.pdl) : LineKept s t := of_pdl (.of_hlc hlc) pdl

theorem of_sameBut {parts : List Part} (speaks : Speaks s t) (h : SameBut parts s t)
    (out : Part.line ∉ parts := by decide) : LineKept s t := of_pdl speaks (h.line.resolve_left out)

theorem refl (s : State) : LineKept s s := of_blocks rfl rfl

theorem trans (h : LineKept s t) (k : LineKept t u) : LineKept s u where
  speaks := h.speaks.trans k.speaks
  pdl := k.pdl.trans (by rw [h.pdl])
  socketBaseline n := (k.socketBaseline n).trans (h.socketBaseline n)
  tapBaseline n := (k.tapBaseline n).trans (h.tapBaseline n)

theorem foldl {α : Type} (f : State → α → State) (h : ∀ s a, LineKept s (f s a)) (l : List α) (s : State) :
    LineKept s (l.foldl f s) := foldl_keeps refl trans f h l s

/-- A write of another block may follow. -/
theorem andThen (h : LineKept s t) (hlc : u.hlc = t.hlc) (pdl : u.pdl = t.pdl) : LineKept s u := h.trans (of_blocks hlc pdl)

theorem raise (h : LineKept s t) (b : NoticeBody) : LineKept s (t.raise b) := h.trans (of_pdl ((Speaks.refl t).raise b) rfl)

theorem setSocket (h : LineKept s t) (n : Nat) (x : Socket) : LineKept s (t.setSocket n x) := h.andThen rfl rfl

theorem setFeeder (h : LineKept s t) (f : Nat) (x : Feeder) : LineKept s (t.setFeeder f x) := h.andThen rfl rfl

theorem ite {c : Prop} [Decidable c] (h : LineKept s t) (k : LineKept s u) : LineKept s (if c then t else u) := by
  split
  · exact h
  · exact k

section
variable (h : LineKept s t)
include h

theorem link (j : Nat) : t.link j = s.link j := by rw [State.link, h.pdl]; rfl
theorem report (j : Nat) : t.report j = s.report j := by rw [State.report, h.pdl]; rfl
theorem ack (j : Nat) : t.ack j = s.ack j := by rw [State.ack, h.pdl]; rfl
theorem pedestal (j : Nat) : t.pedestal j = s.pedestal j := by rw [State.pedestal, h.pdl]; rfl
theorem socketCfg (j : Nat) : t.socketCfg j = s.socketCfg j := by rw [State.socketCfg, h.pdl]; rfl
theorem configuredPedestals : t.configuredPedestals = s.configuredPedestals := by
  rw [State.configuredPedestals, h.pdl]; rfl

end

end LineKept

/-! ## Feeders -/

theorem grantSearch_line (f : Nat) (s : State) : LineKept s (grantSearch f s) :=
  .of_sameBut (grantSearch_speaks f s) (grantSearch_sameBut (parts := [.feeders]) (by decide) f s)

theorem leaveAllPending_line (d : Nat → SocketState) (l : List Nat) (s : State) : LineKept s (leaveAllPending d l s) :=
  .of_sameBut (leaveAllPending_speaks d l s) (leaveAllPending_sameBut (parts := [.feeders]) (by decide) d l s)

theorem reevaluate_line (n : Nat) (s : State) : LineKept s (reevaluate n s) :=
  .of_sameBut (reevaluate_speaks n s) (reevaluate_sameBut (parts := [.feeders]) (by decide) n s)

theorem adopt_speaks (n : Nat) (s : State) : Speaks s (adopt n s) := by
  unfold adopt
  refine Speaks.raise ?_ _
  exact (takeStamp_speaks s).andThen rfl

theorem adoptSocket_line (n : Nat) (r : SocketReport) (s : State) : LineKept s (adoptSocket n r s) := by
  refine .of_sameBut ?_ (adoptSocket_sameBut (parts := [.feeders]) (by decide) n r s)
  simp only [adoptSocket]
  repeat' split
  · exact .refl s
  · exact .of_hlc rfl
  · exact .of_hlc rfl
  · exact adopt_speaks n s
  · exact .of_hlc rfl
  · exact .of_hlc rfl

/-! ## Charges -/

theorem emptiedSocket_line (n : Nat) (s : State) : LineKept s (emptiedSocket n s) where
  speaks := .of_hlc rfl
  pdl := rfl
  socketBaseline m := by
    refine (congrArg Meter.baseline (State.socketMeter_setSocketMeter ..)).trans ?_
    split
    · next h => rw [h]
    · rfl
  tapBaseline _ := rfl

theorem emptiedTap_line (n : Nat) (s : State) : LineKept s (emptiedTap n s) where
  speaks := .of_hlc rfl
  pdl := rfl
  socketBaseline _ := rfl
  tapBaseline := (emptiedTap_meters n s).tapBaseline

theorem setRun_line (n : Nat) (x : Option TapRun) (s : State) : LineKept s (s.setRun n x) :=
  ⟨.of_hlc rfl, rfl, fun _ => rfl, fun _ => rfl⟩

section
variable {charge : Nat → Int → State → State} (h : ∀ a x s, LineKept s (charge a x s)) (n : Nat) (s : State)
include h

theorem settleSocketBy_line : LineKept s (settleSocketBy charge n s) :=
  settleSocketBy_eq n s charge ▸ (emptiedSocket_line n s).trans (h ..)

theorem settleTapBy_line : LineKept s (settleTapBy charge n s) :=
  settleTapBy_eq n s charge ▸ (emptiedTap_line n s).trans (h ..)

end

theorem closeTapBy_line {settle : Nat → State → State} (h : ∀ n s, LineKept s (settle n s)) (n : Nat) (c : TapCause)
    (s : State) : LineKept s (closeTapBy settle n c s) := by
  unfold closeTapBy
  split
  · exact .refl s
  · exact ((setRun_line n none s).trans (h ..)).raise _

section
variable (a : Nat) (x : Int) (s : State)

theorem postOnly_line : LineKept s (postOnly a x s).1 :=
  .of_sameBut (postOnly_speaks a x s) (postOnly_sameBut (parts := [.accounts]) (by decide) a x s)

theorem tellHold_line : LineKept s (tellHold a s) := by
  have fed : LineKept s (farHold a s) :=
    .of_sameBut (farHold_speaks a s) (farHold_sameBut (parts := [.feeders]) (by decide) a s)
  have closed (u : State) : LineKept u (pdlHold a u) :=
    .foldl _ (fun s n => closeTapBy_line (settleTapBy_line postOnly_line) n _ s) _ _
  unfold tellHold
  exact .ite ((fed.trans (closed _)).trans (.of_sameBut (gtcHold_speaks a _) (gtcHold_gates a _))) fed

theorem post_line : LineKept s (post a x s) := by
  unfold post
  exact .ite ((postOnly_line a x s).trans (tellHold_line ..)) (postOnly_line a x s)

end

theorem settleSocket_line (n : Nat) (s : State) : LineKept s (settleSocket n s) := settleSocketBy_line post_line n s

theorem closeTap_line (n : Nat) (c : TapCause) (s : State) : LineKept s (closeTap n c s) :=
  closeTapBy_line (settleTapBy_line post_line) n c s

theorem pressTap_line (n : Nat) (s : State) : LineKept s (pressTap n s) := by
  have opened (b : Nat) (k : Option Nat) : LineKept s (openTap n b k s) := (setRun_line n _ s).raise _
  unfold pressTap pressClosed
  repeat' split
  · exact closeTap_line ..
  · exact (LineKept.refl s).raise _
  · exact opened ..
  · exact (LineKept.refl s).raise _
  · exact (LineKept.refl s).raise _
  · exact opened ..

/-! ## Releases, changes and scans -/

theorem release_line (n : Nat) (land : Landing) (notice : Option NoticeBody) (s : State) :
    LineKept s (release n land notice s) := by
  refine LineKept.trans ?_ (grantSearch_line ..)
  have settled := settleSocket_line n s
  cases notice with
  | none => exact (settled.setFeeder ..).setSocket ..
  | some b => exact ((settled.setFeeder ..).setSocket ..).raise b

theorem shed_line (n : Nat) (source : ShedSource) (cause : ShedCause) (s : State) : LineKept s (shed n source cause s) := by
  unfold shed
  exact release_line ..

theorem takePlugGone_line (n : Nat) (s : State) : LineKept s (takePlugGone n s) := by
  unfold takePlugGone
  dsimp only
  split
  · exact release_line ..
  · exact release_line ..
  · exact leaveAllPending_line ..
  all_goals exact .of_blocks rfl rfl

theorem takeChanges_line (n : Nat) (c : Changes) (s : State) : LineKept s (takeChanges n c s) := by
  have energised : LineKept s (energise n s) := by
    unfold energise
    refine LineKept.raise ?_ _
    exact .of_blocks rfl rfl
  simp only [takeChanges]
  repeat' split
  · exact takePlugGone_line n s
  · exact release_line ..
  · exact release_line ..
  · exact energised
  · exact .of_blocks rfl rfl
  · exact reevaluate_line n s
  · exact .refl s

theorem endHandover_line (h : Handover) (a : Nat) (s : State) : LineKept s (endHandover h a s) := by
  cases h with
  | adoption => exact .ite (grantSearch_line ..) (.refl s)
  | afterLoss => exact .foldl _ (fun u n => .ite (reevaluate_line n u) (.refl u)) _ s
  | differences => exact .refl s

theorem countScan_line (n : Nat) (s : State) : LineKept s (countScan n s) := by
  unfold countScan
  exact .ite (.refl s) (.ite (release_line ..) (.of_blocks rfl rfl))

theorem judgeFeeder_line (f : Nat) (s : State) : LineKept s (judgeFeeder f s) := by
  unfold judgeFeeder
  dsimp only
  split
  · exact (LineKept.refl s).setFeeder ..
  split
  · exact (LineKept.refl s).setFeeder ..
  · refine (LineKept.setFeeder ?_ ..).raise _
    split
    · exact shed_line ..
    · exact .refl s

theorem scanComplete_line (s : State) : LineKept s (scanComplete s) := by
  have measured : LineKept s
      (feederNumbers.foldl (fun t f => t.setFeeder f { t.feeder f with measured := s.measuredCurrent f }) s) :=
    .foldl _ (fun t _ => (LineKept.refl t).setFeeder ..) _ s
  unfold scanComplete
  exact (measured.trans (.foldl _ (fun u n => countScan_line n u) _ _)).trans
    (.foldl _ (fun u f => judgeFeeder_line f u) _ _)

end Sys2Proof.Machine
end

section
/-! SUPPORT. A slot's end (R85, R86, R89, R91, O35): the missed poll, the scan's completion and the poll of the next slot. -/

namespace Sys2Proof.Machine

/-- R89: the link of a pedestal that gave no good reply. -/
def missedLink (l : PedestalLink) : PedestalLink :=
  { l with miss := min (l.miss + 1) 3, link := if 2 ≤ l.miss then .lost else l.link }

/-- R89: a missed poll writes the link, and what a loss does besides leaves the links as they are. -/
theorem missPoll_line (a : Nat) (s : State) : LineKept (s.setLink a (missedLink (s.link a))) (missPoll a s) := by
  unfold missPoll
  dsimp only
  split
  · next early =>
    have same : missedLink (s.link a) = { s.link a with miss := min ((s.link a).miss + 1) 3 } := by
      unfold missedLink
      split
      · next late =>
        have lost : (s.link a).link = .lost := early.resolve_left (by omega)
        simp only [lost]
      · rfl
    rw [same]
    exact .refl _
  · next lost =>
    have late : 2 ≤ (s.link a).miss := by omega
    have same : missedLink (s.link a) = { s.link a with link := .lost, miss := 3 } := by
      rw [missedLink, if_pos late, Nat.min_eq_right (by omega)]
    rw [same]
    have raised : LineKept (s.setLink a { s.link a with link := .lost, miss := 3 })
        ((s.setLink a { s.link a with link := .lost, miss := 3 }).raise (.pedestalLost a (s.pedestal a).feeder)) :=
      (LineKept.refl _).raise _
    exact (raised.trans (leaveAllPending_line ..)).trans (.foldl _ (fun u n => closeTap_line n .lost u) _ _)

/-- R85, R89: the state once the slot in progress is judged. -/
def slotJudged (a : Nat) (s : State) : State :=
  if s.pdl.replied = false ∧ (s.pedestal a).configured = true then missPoll a s else s

/-- R85: the next configured address above one. -/
def State.addressAbove (s : State) (a : Nat) : Option Nat := s.configuredPedestals.find? fun b => decide (a < b)

/-- R91: the state as the next slot finds it, the scan's completion taken where no address is above. -/
def slotLeft (a : Nat) (s : State) : State :=
  if s.addressAbove a = none ∧ s.configuredPedestals ≠ [] then scanComplete (slotJudged a s) else slotJudged a s

/-- R89: what a slot's end writes of the links: that of the pedestal polled, where it gave no good reply. -/
def missWritten (a : Nat) (s : State) : State :=
  if s.pdl.replied = false ∧ (s.pedestal a).configured = true then s.setLink a (missedLink (s.link a)) else s

section
variable (a : Nat) (s : State)

theorem missWritten_link (j : Nat) :
    (missWritten a s).link j =
      if j = a ∧ s.pdl.replied = false ∧ (s.pedestal a).configured = true then missedLink (s.link a) else s.link j := by
  unfold missWritten
  by_cases missed : s.pdl.replied = false ∧ (s.pedestal a).configured = true
  · rw [if_pos missed, State.link_setLink]
    simp only [missed, and_self, and_true]
  · rw [if_neg missed, if_neg fun h => missed h.2]

theorem slotJudged_line : LineKept (missWritten a s) (slotJudged a s) := by
  unfold missWritten slotJudged
  split
  · exact missPoll_line a s
  · exact .refl s

theorem slotLeft_line : LineKept (missWritten a s) (slotLeft a s) := by
  have judged := slotJudged_line a s
  unfold slotLeft
  split
  · exact judged.trans (scanComplete_line _)
  · exact judged

theorem slotJudged_configured : (slotJudged a s).configuredPedestals = s.configuredPedestals := by
  rw [(slotJudged_line a s).configuredPedestals, missWritten]
  split <;> rfl

theorem slotLeft_speaks : Speaks s (slotLeft a s) :=
  (slotLeft_line a s).speaks.after (by unfold missWritten; split <;> rfl)

theorem slotLeft_link (j : Nat) : (slotLeft a s).link j = (missWritten a s).link j := (slotLeft_line a s).link j

end

/-- R85: a slot's end polls the next configured address, or the lowest. -/
theorem slotEnd_eq {p : Poll} {s : State} (h : s.pdl.poll = some p) :
    slotEnd s = (slotLeft p.address s).setPoll
      (((s.addressAbove p.address).orElse fun _ => s.configuredPedestals.head?).map (slotLeft p.address s).pollFor) := by
  have judged : (if s.pdl.replied = true ∨ (s.pedestal p.address).configured = false then s else missPoll p.address s) =
      slotJudged p.address s := by
    unfold slotJudged
    by_cases missed : s.pdl.replied = false ∧ (s.pedestal p.address).configured = true
    · rw [if_pos missed, if_neg (by simp [missed])]
    · rw [if_neg missed, if_pos (by simpa [imp_iff_not_or] using missed)]
  have configured := slotJudged_configured p.address s
  unfold slotEnd
  rw [h]
  dsimp only
  rw [judged]
  unfold beginSlotAbove
  rw [configured]
  cases above : s.addressAbove p.address with
  | some b =>
    have left : slotLeft p.address s = slotJudged p.address s := if_neg (by simp [above])
    rw [State.addressAbove] at above
    rw [above, left]
    rfl
  | none =>
    by_cases empty : s.configuredPedestals = []
    · have left : slotLeft p.address s = slotJudged p.address s := if_neg (by simp [empty])
      rw [State.addressAbove] at above
      rw [above, left]
      simp [empty]
    · have left : slotLeft p.address s = scanComplete (slotJudged p.address s) := if_pos ⟨above, empty⟩
      rw [State.addressAbove] at above
      rw [above, left]
      simp only [if_true, if_neg empty, beginScan, (scanComplete_line _).configuredPedestals, configured]
      rfl

/-- Settles O35: the poll of the next slot is built from the state that the judged slot, and the scan where it is complete,
leave; of the links the one of the pedestal polled alone is written. -/
theorem slotEndPollsTheNextPedestal : Obligations.SlotEndPollsTheNextPedestal := by
  unfold Obligations.SlotEndPollsTheNextPedestal
  intro p s running poll
  have ended := slotEnd_eq poll
  obtain ⟨t, hx, reply, left⟩ := event_leaves (i := .pollSlotEnd) (f := slotEnd) (s := s) rfl running
    (by rw [ended]; exact (slotLeft_speaks p.address s).andThen rfl)
  have same := left.sameBut (slotEnd_sameBut (parts := holdParts) (fun _ h => h) s)
  rw [ended] at left
  have pdl := left.pdl
  have link (j : Nat) : t.link j = (slotLeft p.address s).link j := by rw [State.link, pdl]; rfl
  have polled : t.pdl.poll =
      ((s.addressAbove p.address).orElse fun _ => s.configuredPedestals.head?).map (slotLeft p.address s).pollFor := by
    rw [pdl]; rfl
  refine ⟨t, hx, same, by rw [pdl]; rfl, ?_, ?_, reply, fun kept => ?_, fun missed => ?_, fun j hj => ?_, fun q hq => ?_⟩
  · rw [polled, Option.map_map]
    exact congrFun Option.map_id _
  · rw [polled]
    exact left
  · rw [link, slotLeft_link, missWritten_link, if_neg fun h => kept h.2]
  · rw [link, slotLeft_link, missWritten_link, if_pos ⟨rfl, missed⟩]
    rfl
  · rw [link, slotLeft_link, missWritten_link, if_neg fun h => hj h.1]
  · obtain ⟨b, -, rfl⟩ := Option.map_eq_some_iff.1 (polled.symm.trans hq)
    have socket (n : Nat) : t.socket n = (slotLeft p.address s).socket n := by rw [State.socket, left.far]; rfl
    have run (n : Nat) : t.run n = (slotLeft p.address s).run n := by rw [State.run, pdl]; rfl
    have ack (n : Nat) : t.ack n = (slotLeft p.address s).ack n := by rw [State.ack, pdl]; rfl
    simp only [link, socket, run, funext ack]
    exact ⟨rfl, rfl, rfl⟩

end Sys2Proof.Machine
end

section
/-! SUPPORT. The sockets that an operation of the FAR, a charge or a release leaves as they are, but for a grant stamp that
a renumbering may change (O40). -/

namespace Sys2Proof.Machine

/-- The pending sets stay sound, and a socket in a state of which the operation moves none keeps its record but for its
grant stamp. -/
structure Untouched (moves : SocketState → Bool) (s t : State) : Prop where
  sound : PendingSound s → PendingSound t
  others : PendingSound s → ∀ n, moves (s.socket n).state = false → ∃ stamp, t.socket n = { s.socket n with stamp }

/-- A grant search moves PENDING sockets only. -/
def SocketState.isPending (k : SocketState) : Bool := decide (k = .pending)

theorem isPending_eq_false {k : SocketState} : k.isPending = false ↔ k ≠ .pending := decide_eq_false_iff_not

theorem isPending_of_not_judgeable {k : SocketState} (h : k.judgeable = false) : k.isPending = false :=
  isPending_eq_false.2 fun pending => by
    rw [pending] at h
    cases h

namespace Untouched

variable {moves : SocketState → Bool} {s t u : State}

theorem of_sockets (sound : PendingSound s → PendingSound t) (same : ∀ n, ∃ stamp, t.socket n = { s.socket n with stamp }) :
    Untouched moves s t := ⟨sound, fun _ n _ => same n⟩

theorem of_blocks (far : t.far = s.far) (pedestals : t.pdl.pedestals = s.pdl.pedestals) : Untouched moves s t :=
  of_sockets (SameQueues.of_blocks far pedestals).sound fun n => ⟨_, by rw [State.socket, far]; rfl⟩

theorem refl (s : State) : Untouched moves s s := of_blocks rfl rfl

theorem trans (h : Untouched moves s t) (k : Untouched moves t u) : Untouched moves s u where
  sound := k.sound ∘ h.sound
  others sound n still := by
    obtain ⟨stamp, first⟩ := h.others sound n still
    obtain ⟨later, second⟩ := k.others (h.sound sound) n (by rw [first]; exact still)
    exact ⟨later, by rw [second, first]⟩

theorem foldl {α : Type} (f : State → α → State) (h : ∀ s a, Untouched moves s (f s a)) (l : List α) (s : State) :
    Untouched moves s (l.foldl f s) := foldl_keeps refl trans f h l s

theorem raise (h : Untouched moves s t) (b : NoticeBody) : Untouched moves s (t.raise b) :=
  h.trans (of_blocks rfl rfl)

/-- What moves PENDING sockets only moves none that a re-evaluation leaves. -/
theorem of_pending (h : Untouched SocketState.isPending s t) : Untouched SocketState.judgeable s t :=
  ⟨h.sound, fun sound n still => h.others sound n (isPending_of_not_judgeable still)⟩

end Untouched

/-! ## The grant search (R103, R112) -/

theorem stampAll_socket (l : List ((Nat × Socket) × Nat)) (s : State) (n : Nat) :
    ∃ stamp, (l.foldl stampEntry s).socket n = { s.socket n with stamp } := by
  induction l generalizing s with
  | nil => exact ⟨_, rfl⟩
  | cons e rest ih =>
    obtain ⟨stamp, later⟩ := ih (stampEntry s e)
    refine ⟨stamp, later.trans ?_⟩
    rw [stampEntry_socket]
    split
    · next h => rw [h]
    · rfl

/-- R103: a renumbering writes stamps only. -/
theorem takeStamp_socket (s : State) (n : Nat) : ∃ stamp, (takeStamp s).1.socket n = { s.socket n with stamp } := by
  by_cases room : s.far.counter < 4294967295
  · rw [takeStamp_of_room room]
    exact ⟨_, rfl⟩
  · rw [(takeStamp_of_end (not_lt.1 room)).2]
    exact stampAll_socket _ s n

theorem countAll_socket_of_unlisted {l : List Nat} {n : Nat} (out : n ∉ l) (t : State) :
    (l.foldl countBypass t).socket n = t.socket n := by
  induction l generalizing t with
  | nil => rfl
  | cons m rest ih =>
    rw [List.foldl_cons, ih fun h => out (List.mem_cons_of_mem _ h), countBypass_socket,
      if_neg fun h => out (List.mem_cons.2 (.inl h))]

theorem grant_untouched {f n : Nat} {skipped : List Nat} {s : State} (hp : s.pass f = some (n, skipped)) :
    Untouched SocketState.isPending s (grant f n skipped s) where
  sound h := grant_pendingSound h (pass_mem h hp).1 (pass_mem h hp).2
  others h m still := by
    obtain ⟨chosen, passed⟩ := pass_mem h hp
    have unqueued : m ∉ (s.feeder f).pending := fun hm => isPending_eq_false.1 still (h.pending f m hm).1
    have other : m ≠ n := fun hm => unqueued (hm ▸ chosen)
    have written : (grantedSockets f n skipped s).socket m = (takeStamp s).1.socket m := by
      cases hb : (s.feeder f).blocking with
      | some b => rw [grantedSockets_of_blocking hb, grantedOnly_socket_other other]
      | none =>
        rw [grantedSockets_of_none hb, countAll_socket_of_unlisted fun hm => unqueued (passed m hm).1,
          grantedOnly_socket_other other]
    rw [grant_socket, written]
    exact takeStamp_socket s m

theorem grantSearch_untouched (f : Nat) (s : State) : Untouched SocketState.isPending s (grantSearch f s) := by
  unfold grantSearch
  generalize (s.feeder f).pending.length + 1 = fuel
  induction fuel generalizing s with
  | zero => exact .refl s
  | succ fuel ih =>
    rw [searchPasses]
    split
    · exact .refl s
    · next hp => exact (grant_untouched hp).trans (ih _)

/-! ## Leaving and re-evaluation (R105) -/

theorem withdraw_socket (n m : Nat) (dest : SocketState) (s : State) :
    (withdraw n dest s).socket m = if m = n then { s.socket n with state := dest, bypass := 0 } else s.socket m := by
  rw [← dropPending_socket]
  unfold withdraw
  dsimp only
  split <;> rfl

theorem withdrawAll_socket_of_unlisted {dest : Nat → SocketState} {l : List Nat} {m : Nat} (out : m ∉ l) (s : State) :
    (l.foldl (fun t n => withdraw n (dest n) t) s).socket m = s.socket m := by
  induction l generalizing s with
  | nil => rfl
  | cons n rest ih =>
    rw [List.foldl_cons, ih fun h => out (List.mem_cons_of_mem _ h), withdraw_socket,
      if_neg fun h => out (List.mem_cons.2 (.inl h))]

theorem leaveAllPending_untouched (dest : Nat → SocketState) (l : List Nat) (s : State) :
    Untouched SocketState.isPending s (leaveAllPending dest l s) := by
  have left : Untouched SocketState.isPending s ((leaving dest l s).foldl (fun t n => withdraw n (dest n) t) s) :=
    ⟨withdrawAll_pendingSound dest _, fun _ n still => ⟨_, by
      rw [withdrawAll_socket_of_unlisted fun hn => isPending_eq_false.1 still ((mem_leaving ..).1 hn).2.1]⟩⟩
  exact left.trans (.foldl _ (fun t _ => grantSearch_untouched _ t) _ _)

theorem reevaluate_untouched (n : Nat) (s : State) : Untouched SocketState.judgeable s (reevaluate n s) := by
  have other {m : Nat} (moved : (s.socket n).state.judgeable = true) (still : (s.socket m).state.judgeable = false) :
      m ≠ n := by
    rintro rfl
    rw [moved] at still
    cases still
  unfold reevaluate
  dsimp only
  split
  · exact .refl s
  next moved =>
  replace moved : (s.socket n).state.judgeable = true := by simpa using moved
  split
  · split
    · exact .refl s
    · refine Untouched.trans ⟨placePending_pendingSound, fun _ m still => ⟨(s.socket m).stamp, ?_⟩⟩
        (grantSearch_untouched ..).of_pending
      rw [placePending_socket, if_neg (other moved still)]
  · split
    · exact (leaveAllPending_untouched ..).of_pending
    · next out =>
      refine ⟨fun sound => setSocket_pendingSound sound out, fun _ m still => ⟨(s.socket m).stamp, ?_⟩⟩
      rw [State.socket_setSocket, if_neg (other moved still)]

/-! ## Charges (R49, R51, R63) -/

theorem farHold_untouched (a : Nat) (s : State) : Untouched SocketState.judgeable s (farHold a s) :=
  (leaveAllPending_untouched ..).of_pending.trans (.foldl _ (fun t n => reevaluate_untouched n t) _ _)

section
variable {moves : SocketState → Bool}

theorem postOnly_untouched (a : Nat) (x : Int) (s : State) : Untouched moves s (postOnly a x s).1 := by
  have same := postOnly_sameBut (parts := [.accounts]) (by decide) a x s
  exact .of_blocks (same.feeders.resolve_left (by decide)) (by rw [same.line.resolve_left (by decide)])

theorem pdlHold_untouched (a : Nat) (s : State) : Untouched moves s (pdlHold a s) := by
  refine .foldl _ (fun t n => ?_) _ s
  have emptied (u : State) : Untouched moves u (emptiedTap n u) := .of_blocks rfl rfl
  unfold closeTapBy
  split
  · exact .refl t
  · have ended : Untouched moves t (t.setRun n none) := .of_blocks rfl rfl
    exact ((ended.trans (emptied _)).trans (postOnly_untouched ..)).raise _

end

theorem tellHold_untouched (a : Nat) (s : State) : Untouched SocketState.judgeable s (tellHold a s) := by
  have gates (u : State) : Untouched SocketState.judgeable u (gtcHold a u) := by
    have same := gtcHold_gates a u
    exact .of_blocks (same.feeders.resolve_left (by decide)) (by rw [same.line.resolve_left (by decide)])
  unfold tellHold
  dsimp only
  split
  · exact ((farHold_untouched a s).trans (pdlHold_untouched ..)).trans (gates _)
  · exact farHold_untouched a s

theorem settleSocket_untouched (n : Nat) (s : State) : Untouched SocketState.judgeable s (settleSocket n s) := by
  have emptied : Untouched SocketState.judgeable s (emptiedSocket n s) := .of_blocks rfl rfl
  rw [settleSocket, settleSocketBy_eq]
  unfold post
  dsimp only
  split
  · exact (emptied.trans (postOnly_untouched ..)).trans (tellHold_untouched ..)
  · exact emptied.trans (postOnly_untouched ..)

/-! ## A release (R118) -/

/-- The record of a released socket. -/
def landedSocket (land : Landing) (k : Socket) : Socket :=
  { k with
    state := land.state, reservation := none, stamp := none, confirm := none, shedSource := land.shedSource,
    holdOffEnd := land.holdOffEnd, fault := land.fault }

/-- A socket released on its feeder, its meter settled and the search not yet run. -/
def landed (n : Nat) (land : Landing) (f : Nat) (s : State) : State :=
  (s.setFeeder f { s.feeder f with reserved := (s.feeder f).reserved - (s.socket n).reservation.getD 0 }).setSocket n
    (landedSocket land (s.socket n))

theorem landed_pendingSound {n f : Nat} {land : Landing} {s : State} (sound : PendingSound s)
    (out : (s.socket n).state ≠ .pending) : PendingSound (landed n land f s) := by
  have freed : SameQueues s
      (s.setFeeder f { s.feeder f with reserved := (s.feeder f).reserved - (s.socket n).reservation.getD 0 }) := by
    refine ⟨fun _ => rfl, fun g => ?_, fun g => ?_, rfl⟩
    all_goals
      rw [State.feeder_setFeeder]
      split
      · next h => rw [h]
      · rfl
  exact setSocket_pendingSound (freed.sound sound) out

/-- R118: a release leaves its socket as the releasing rule lands it. -/
theorem release_lands {n : Nat} {land : Landing} {s : State} (sound : PendingSound s)
    (held : (s.socket n).state.judgeable = false) (lands : land.state ≠ .pending) (notice : Option NoticeBody) :
    ∃ stamp, (release n land notice s).socket n = { landedSocket land (s.socket n) with stamp } := by
  have settled := settleSocket_untouched n s
  obtain ⟨stamp, kept⟩ := settled.others sound n held
  have out : ((settleSocket n s).socket n).state ≠ .pending := by
    rw [kept]
    exact isPending_eq_false.1 (isPending_of_not_judgeable held)
  have record : (landed n land (s.feederOf n) (settleSocket n s)).socket n = landedSocket land (s.socket n) := by
    rw [landed, State.socket_setSocket, if_pos rfl, kept]
    rfl
  have searched {u : State} (raised : Untouched SocketState.isPending (landed n land (s.feederOf n) (settleSocket n s)) u) :
      ∃ stamp, (grantSearch (s.feederOf n) u).socket n = { landedSocket land (s.socket n) with stamp } := by
    obtain ⟨stamp, last⟩ := (raised.trans (grantSearch_untouched (s.feederOf n) u)).others
      (landed_pendingSound (settled.sound sound) out) n (by rw [record]; exact isPending_eq_false.2 lands)
    exact ⟨stamp, by rw [last, record]⟩
  cases notice with
  | none => exact searched (.refl _)
  | some b => exact searched ((Untouched.refl _).raise b)

end Sys2Proof.Machine
end

section
/-! SUPPORT. The hand-over of a report (R88, R116, R118, R119, R123, R132) and a scan's completion (R91, R117, R127, R128),
O40. -/

namespace Sys2Proof.Machine

/-! ## The hand-over (R88 step 3) -/

/-- A hand-over writes the report, and what it tells the FAR leaves the line's other records. -/
theorem handSocket_line (h : Handover) (n : Nat) (x : SocketReport) (s : State) :
    LineKept (s.setReport n (some (s.kept n x))) (handSocket h n x s) := by
  cases h with
  | adoption => exact adoptSocket_line ..
  | afterLoss => exact takeChanges_line ..
  | differences => exact takeChanges_line ..

theorem handSocket_pedestal (h : Handover) (n : Nat) (x : SocketReport) (s : State) (a : Nat) :
    (handSocket h n x s).pedestal a = s.pedestal a := (handSocket_line h n x s).pedestal a

/-- The four sockets of a report handed over in position order. -/
def handFour (h : Handover) (n : Nat) (x0 x1 x2 x3 : SocketReading) (s : State) : State :=
  handSocket h (n + 3) x3.report
    (handSocket h (n + 2) x2.report (handSocket h (n + 1) x1.report (handSocket h n x0.report s)))

theorem handReport_eq (h : Handover) {r : PollReply} {x0 x1 x2 x3 : SocketReading} (s : State)
    (readings : r.sockets = [x0, x1, x2, x3]) :
    handReport h r s = endHandover h r.address (handFour h ((r.address - 1) * 4) x0 x1 x2 x3 s) := by
  rw [handReport, readings]
  rfl

theorem handFour_pedestal (h : Handover) (n : Nat) (x0 x1 x2 x3 : SocketReading) (s : State) (a : Nat) :
    (handFour h n x0 x1 x2 x3 s).pedestal a = s.pedestal a := by
  simp only [handFour, handSocket_pedestal]

/-! ## Adoption (R132) -/

/-- A socket moved to another state, and nothing more of the feeders. -/
def MovedTo (n : Nat) (state : SocketState) (s t : State) : Prop :=
  (∀ j, t.socket j = if j = n then { s.socket n with state } else s.socket j) ∧ t.far.feeders = s.far.feeders ∧
    Raises [] s t

theorem setSocket_movedTo (n : Nat) (state : SocketState) (s : State) :
    MovedTo n state s (s.setSocket n { s.socket n with state }) :=
  ⟨fun _ => State.socket_setSocket .., rfl, raises_of_hlc rfl⟩

section
variable (n : Nat) (s : State)

/-- An adoption with its stamp taken and its socket written, the feeder not yet. -/
def adopted : State :=
  (takeStamp s).1.setSocket n
    { (takeStamp s).1.socket n with
      state := .energised, reservation := some (s.reservation n), stamp := some (takeStamp s).2, confirm := none
      bypass := 0 }

/-- R132 case 3: what an adoption writes. -/
theorem adopt_adopts :
    (∃ stamp, (adopt n s).socket n =
      { s.socket n with
        state := .energised, reservation := some (s.reservation n), stamp := some stamp, confirm := none, bypass := 0 }) ∧
    (∀ g, (adopt n s).feeder g =
      if g = s.feederOf n then { s.feeder g with reserved := (s.feeder g).reserved + s.reservation n } else s.feeder g) ∧
    Raises [.socketAdopted n (s.feederOf n) (s.reservation n)] s (adopt n s) := by
  have stamped := takeStamp_stampsOnly s
  obtain ⟨stamp, kept⟩ := takeStamp_socket s n
  refine ⟨⟨(takeStamp s).2, ?_⟩, fun g => ?_, raises_raise _ stamped.hlc stamped.clk⟩
  · have written : (adopt n s).socket n = (adopted n s).socket n := rfl
    rw [written, adopted, State.socket_setSocket, if_pos rfl, kept]
  · refine (State.feeder_setFeeder (adopted n s) (s.feederOf n) g _).trans ?_
    split
    · next h =>
      rw [h, ← stamped.feeder]
      rfl
    · exact stamped.feeder g

/-- R105: a socket placed in its feeder's pending set. -/
theorem placePending_places :
    (∀ m, m ∈ ((placePending n s).feeder (s.feederOf n)).pending ↔ m = n ∨ m ∈ (s.feeder (s.feederOf n)).pending) ∧
    (placePending n s).feeder (s.feederOf n) =
      { s.feeder (s.feederOf n) with pending := ((placePending n s).feeder (s.feederOf n)).pending } ∧
    (∀ g, g ≠ s.feederOf n → (placePending n s).feeder g = s.feeder g) ∧ Raises [] s (placePending n s) := by
  have feeder (g : Nat) : (placePending n s).feeder g = if g = s.feederOf n then
      { s.feeder (s.feederOf n) with pending := insertAsc (s.feeder (s.feederOf n)).pending n } else s.feeder g :=
    State.feeder_setFeeder ..
  refine ⟨fun m => ?_, ?_, fun g hg => by rw [feeder, if_neg hg], raises_of_hlc rfl⟩
  · rw [feeder, if_pos rfl]
    exact mem_insertAsc ..
  · rw [feeder, if_pos rfl]

end

section
variable {n : Nat} {x : SocketReport} {s : State}

/-- R104 of a socket in a state that does not hold off a request. -/
theorem eligible_iff (free : (s.socket n).state = .idle ∨ (s.socket n).state = .unassigned) :
    s.eligible n = true ↔ s.entitled n = true ∧ (s.link (n / 4 + 1)).link = .online := by
  have open_ : (s.socket n).state ≠ .locked ∧ (s.socket n).state ≠ .shed ∧ (s.socket n).state ≠ .tripped := by
    rcases free with h | h <;> rw [h] <;> decide
  simp only [State.eligible, open_, pedestalOf, ne_eq, not_false_eq_true, decide_true, Bool.and_true, Bool.and_eq_true]
  exact and_congr_right fun _ => decide_eq_true_iff

theorem judged_of_no_plug (berth : (s.socketCfg n).berth ≠ none) (plug : s.plugged n = false) : s.judged n = .idle := by
  rw [State.judged, if_neg berth]
  exact if_pos plug

theorem judged_of_plug (berth : (s.socketCfg n).berth ≠ none) (plug : s.plugged n = true) :
    s.judged n = if s.eligible n then .pending else .waiting := by
  rw [State.judged, if_neg berth]
  exact if_neg (show ¬s.plugged n = false by rw [plug]; decide)

/-- R132: an IDLE or UNASSIGNED socket is judged by the first case that applies. -/
theorem adoptSocket_of_free (free : (s.socket n).state = .idle ∨ (s.socket n).state = .unassigned) :
    adoptSocket n x s =
      if (s.socketCfg n).berth = none then s.setSocket n { s.socket n with state := .unassigned }
      else if x.plug && x.contactor && x.trip then s.setSocket n { s.socket n with state := .tripped }
      else if x.plug && x.contactor && s.eligible n && s.fits (s.feederOf n) n then adopt n s
      else if s.judged n = .pending then placePending n s
      else s.setSocket n { s.socket n with state := s.judged n } := by
  have judgeable : (s.socket n).state.judgeable = true := by rcases free with h | h <;> rw [h] <;> rfl
  rw [adoptSocket]
  exact if_neg (by rw [judgeable]; decide)

theorem adoptSocket_of_locked (locked : (s.socket n).state = .locked) : adoptSocket n x s = s := by
  rw [adoptSocket]
  exact if_pos (by rw [locked]; rfl)

section
variable (free : (s.socket n).state = .idle ∨ (s.socket n).state = .unassigned) (berth : (s.socketCfg n).berth ≠ none)
include free

theorem adoptSocket_without_berth (none : (s.socketCfg n).berth = none) : MovedTo n .unassigned s (adoptSocket n x s) := by
  rw [adoptSocket_of_free free, if_pos none]
  exact setSocket_movedTo ..

include berth

theorem adoptSocket_tripped (supplying : x.plug = true ∧ x.contactor = true) (trip : x.trip = true) :
    MovedTo n .tripped s (adoptSocket n x s) := by
  rw [adoptSocket_of_free free, if_neg berth, if_pos (by simp [supplying, trip])]
  exact setSocket_movedTo ..

theorem adoptSocket_adopts (supplying : x.plug = true ∧ x.contactor = true) (trip : x.trip = false)
    (eligible : s.eligible n = true) (fits : s.fits (s.feederOf n) n = true) : adoptSocket n x s = adopt n s := by
  rw [adoptSocket_of_free free, if_neg berth, if_neg (by simp [trip]), if_pos (by simp [supplying, eligible, fits])]

/-- A socket that is neither tripped nor adopted goes where R105 puts it. -/
theorem adoptSocket_judges (sound : ¬((x.plug = true ∧ x.contactor = true) ∧ x.trip = true))
    (out : ¬((x.plug = true ∧ x.contactor = true) ∧ s.eligible n = true ∧ s.fits (s.feederOf n) n = true)) :
    adoptSocket n x s =
      if s.judged n = .pending then placePending n s else s.setSocket n { s.socket n with state := s.judged n } := by
  rw [adoptSocket_of_free free, if_neg berth, if_neg (by simpa using sound), if_neg (by simpa [and_assoc] using out)]

end

end

/-! ## Changes of an unsupplied socket (R119) -/

section
variable {n : Nat} {c : Changes} {s : State}

theorem takeChanges_plugGone (gone : c.plugGone = true) : takeChanges n c s = takePlugGone n s := if_pos gone

/-- R119: of a socket that is not supplied only a plug's coming moves an IDLE one. -/
theorem takeChanges_of_unsupplied (unsupplied : (s.socket n).supplied = false) (stays : c.plugGone = false) :
    takeChanges n c s = if c.plugArrived = true ∧ (s.socket n).state = .idle then reevaluate n s else s := by
  have out := mt (supplied_iff (s.socket n)).2 (by rw [unsupplied]; decide)
  rw [not_or] at out
  simp [takeChanges, stays, unsupplied, out]

theorem takePlugGone_pending (pending : (s.socket n).state = .pending) :
    SameBut [.feeders] s (takePlugGone n s) ∧ (PendingSound s → ((takePlugGone n s).socket n).state = .idle) := by
  have leaves : takePlugGone n s = leavePending n .idle s := by simp only [takePlugGone, pending]
  rw [leaves]
  exact ⟨leavePending_sameBut (by decide) ..,
    fun sound => leaveAllPending_socket_state sound (List.mem_singleton.2 rfl) pending (by decide)⟩

/-- R119, plug gone, of a socket in a state that no plug gave it. -/
theorem takePlugGone_of_unplugged (h : (s.socket n).state ∈ [SocketState.unassigned, .idle, .locked]) :
    takePlugGone n s = s := by
  rcases List.mem_cons.1 h with h | h
  · simp only [takePlugGone, h]
  · rcases List.mem_pair.1 h with h | h <;> simp only [takePlugGone, h]

end

/-! ## Changes of a supplied socket (R116, R118, R119) -/

section
variable {n : Nat} {c : Changes} {s : State}

theorem not_judgeable_of_supplied (h : (s.socket n).supplied = true) : (s.socket n).state.judgeable = false := by
  rcases (supplied_iff _).1 h with h | h <;> rw [h] <;> rfl

section
variable (sound : PendingSound s) (supplied : (s.socket n).supplied = true)
include sound supplied

/-- R118, R119: a plug gone from a supplied socket. -/
theorem takeChanges_unplugs (gone : c.plugGone = true) :
    ((takeChanges n c s).socket n).state = .idle ∧ ((takeChanges n c s).socket n).reservation = none := by
  have releases : takePlugGone n s = release n (landIn .idle) none s := by
    rcases (supplied_iff _).1 supplied with h | h <;> simp only [takePlugGone, h]
  obtain ⟨stamp, landed⟩ := release_lands sound (not_judgeable_of_supplied supplied)
    (by decide : (landIn .idle).state ≠ .pending) none
  rw [takeChanges_plugGone gone, releases, landed]
  exact ⟨rfl, rfl⟩

/-- R118, R119: a trip of a supplied socket. -/
theorem takeChanges_trips (stays : c.plugGone = false) (trip : c.tripAppeared = true) :
    ((takeChanges n c s).socket n).state = .tripped ∧ ((takeChanges n c s).socket n).reservation = none := by
  have releases : takeChanges n c s = releaseTripped n s := by simp [takeChanges, stays, trip, supplied]
  obtain ⟨stamp, landed⟩ := release_lands sound (not_judgeable_of_supplied supplied)
    (by decide : (landIn .tripped).state ≠ .pending) (some (.socketTripped n (s.feederOf n)))
  rw [releases, releaseTripped, landed]
  exact ⟨rfl, rfl⟩

end

/-- What a write of one socket leaves of the others and of the feeders. -/
def WritesSocket (n : Nat) (x : Socket) (s t : State) : Prop :=
  t.socket n = x ∧ (∀ j, j ≠ n → t.socket j = s.socket j) ∧ t.far.feeders = s.far.feeders

theorem setSocket_writesSocket (n : Nat) (x : Socket) (s : State) : WritesSocket n x s (s.setSocket n x) :=
  ⟨(State.socket_setSocket ..).trans (if_pos rfl), fun _ hj => (State.socket_setSocket ..).trans (if_neg hj), rfl⟩

/-- R116: a contactor found closed. -/
theorem takeChanges_energises (stays : c.plugGone = false) (untripped : c.tripAppeared = false) (closed : c.closed = true)
    (trip : c.trip = false) (granted : (s.socket n).state = .granted) :
    WritesSocket n { s.socket n with state := .energised, confirm := none } s (takeChanges n c s) ∧
      Raises [.socketEnergised n (s.feederOf n)] s (takeChanges n c s) := by
  have energises : takeChanges n c s = energise n s := by simp [takeChanges, stays, untripped, closed, trip, granted]
  rw [energises]
  exact ⟨setSocket_writesSocket .., raises_raise _ rfl rfl⟩

/-- R119: a contactor found open. -/
theorem takeChanges_reopens (stays : c.plugGone = false) (untripped : c.tripAppeared = false) (open_ : c.closed = false)
    (opened : c.opened = true) (energised : (s.socket n).state = .energised) :
    WritesSocket n { s.socket n with state := .granted, confirm := some 0 } s (takeChanges n c s) ∧
      Raises [] s (takeChanges n c s) := by
  have reopens : takeChanges n c s = s.setSocket n { s.socket n with state := .granted, confirm := some 0 } := by
    simp [takeChanges, stays, untripped, open_, opened, energised]
  rw [reopens]
  exact ⟨setSocket_writesSocket .., raises_of_hlc rfl⟩

end

/-! ## A scan's completion (R91, R117, R128) -/

theorem measuredCurrent_eq (s : State) (f : Nat) :
    s.measuredCurrent f =
      ((s.pdl.reports.filter fun e =>
          decide ((s.pedestal (e.1 / 4 + 1)).configured = true ∧ (s.pedestal (e.1 / 4 + 1)).feeder = f)).map
        fun e => (e.2.map fun x => x.current).getD 0).sum := by
  rw [State.measuredCurrent, List.sum_eq_foldl_nat]
  congr 2
  refine List.filter_congr fun e _ => Bool.eq_iff_iff.2 ?_
  simp only [Bool.and_eq_true, decide_eq_true_iff]
  rfl

/-- R91: the feeders' measured currents kept. -/
def measured (s : State) : State :=
  feederNumbers.foldl (fun u f => u.setFeeder f { u.feeder f with measured := s.measuredCurrent f }) s

theorem measured_rest (s : State) : (measured s).pdl = s.pdl ∧ (measured s).far.sockets = s.far.sockets := by
  unfold measured
  refine foldl_keeps (kept := fun t u => u.pdl = t.pdl ∧ u.far.sockets = t.far.sockets) (fun _ => ⟨rfl, rfl⟩)
    (fun ⟨h, k⟩ ⟨h', k'⟩ => ⟨h'.trans h, k'.trans k⟩) _ (fun t f => ?_) _ s
  exact ⟨rfl, rfl⟩

/-- R117: the sockets counted at a scan. -/
theorem countedSockets_measured (s : State) :
    (measured s).countedSockets =
      (s.far.sockets.filter fun e =>
        decide (e.2.state = .granted ∧ (s.link (e.1 / 4 + 1)).link = .online ∧ (s.link (e.1 / 4 + 1)).miss = 0)).map
        (·.1) := by
  obtain ⟨pdl, sockets⟩ := measured_rest s
  have link (j : Nat) : (measured s).link j = s.link j := by rw [State.link, pdl]; rfl
  rw [State.countedSockets, State.socketsIn, sockets, List.filter_map, List.filter_filter]
  congr 1
  refine List.filter_congr fun e _ => Bool.eq_iff_iff.2 ?_
  simp only [Function.comp_apply, link, Bool.and_eq_true, decide_eq_true_iff, List.mem_singleton]
  exact ⟨fun ⟨⟨online, heard⟩, granted⟩ => ⟨granted, online, heard⟩,
    fun ⟨granted, online, heard⟩ => ⟨⟨online, heard⟩, granted⟩⟩

/-! ## Counted scans and overloads -/

section
variable {n f : Nat} {s : State}

theorem countScan_first (granted : (s.socket n).state = .granted) (counted : (s.socket n).confirm = some 0) :
    countScan n s = s.setSocket n { s.socket n with confirm := some 1 } := by
  simp [countScan, granted, counted]

theorem countScan_second (granted : (s.socket n).state = .granted) (counted : (s.socket n).confirm = some 1) :
    countScan n s =
      release n ⟨.locked, none, none, true⟩ (some (.socketFault n (s.feederOf n) .contactor)) s := by
  simp [countScan, granted, counted]

theorem judgeFeeder_within (h : (s.feeder f).measured ≤ (s.feederCfg f).limit) :
    judgeFeeder f s = s.setFeeder f { s.feeder f with overCount := 0 } := if_pos h

theorem judgeFeeder_counts (above : (s.feederCfg f).limit < (s.feeder f).measured)
    (few : (s.feeder f).overCount + 1 < (s.feederCfg f).tripCount) :
    judgeFeeder f s = s.setFeeder f { s.feeder f with overCount := (s.feeder f).overCount + 1 } :=
  (if_neg (Nat.not_le.2 above)).trans (if_pos few)

/-- R127: a socket of a feeder's shed order is supplied and on the feeder. -/
theorem mem_shedOrder (form : tableOk startSocket s.far.sockets = true) (h : n ∈ s.shedOrder f) :
    (s.socket n).supplied = true ∧ s.feederOf n = f := by
  obtain ⟨e, he, rfl⟩ := List.mem_map.1 h
  obtain ⟨listed, test⟩ := List.mem_filter.1 ((sortBy_perm ..).mem_iff.1 he)
  have own : s.socket e.1 = e.2 := tableGet_of_mem form listed
  rw [own]
  simpa using test

/-- R127: a feeder's shed of a supplied socket, with the hold-off of a feeder that retries of itself. -/
theorem shed_lands (sound : PendingSound s) (supplied : (s.socket n).supplied = true) :
    ∃ stamp, (shed n .feeder .overload s).socket n =
      { s.socket n with
        state := .shed, reservation := none, stamp, confirm := none, shedSource := some .feeder, fault := false
        holdOffEnd :=
          if (s.feederCfg (s.feederOf n)).retry = .auto then
            some (s.uptime + (s.feederCfg (s.feederOf n)).holdOff * 60 * 256)
          else none } := by
  unfold shed
  dsimp only
  obtain ⟨stamp, landed⟩ := release_lands sound (not_judgeable_of_supplied supplied)
    (land := ⟨.shed, some .feeder, if ShedSource.feeder = .feeder ∧ (s.feederCfg (s.feederOf n)).retry = .auto then
      some (s.uptime + (s.feederCfg (s.feederOf n)).holdOff * 60 * 256) else none, false⟩) nofun
    (some (.socketShed n (s.feederOf n) ((s.socket n).reservation.getD 0) .overload))
  refine ⟨stamp, landed.trans ?_⟩
  simp only [landedSocket, true_and]

/-- R127, R128: at its trip count a feeder sheds the head of its shed order. -/
theorem judgeFeeder_trips (above : (s.feederCfg f).limit < (s.feeder f).measured)
    (many : (s.feederCfg f).tripCount ≤ (s.feeder f).overCount + 1) :
    ((judgeFeeder f s).feeder f).overCount = 0 ∧
      ∀ n rest, s.shedOrder f = n :: rest →
        (judgeFeeder f s).far.sockets = (shed n .feeder .overload s).far.sockets := by
  have judged : judgeFeeder f s =
      (((match (s.shedOrder f).head? with | some n => shed n .feeder .overload s | none => s).setFeeder f
          { (match (s.shedOrder f).head? with | some n => shed n .feeder .overload s | none => s).feeder f with
            overCount := 0 }).raise
        (.feederOverload f (s.feeder f).measured (s.feederCfg f).limit (s.shedOrder f).head?)) :=
    (if_neg (Nat.not_le.2 above)).trans (if_neg (Nat.not_lt.2 many))
  constructor
  · rw [judged]
    exact congrArg Feeder.overCount ((State.feeder_setFeeder ..).trans (if_pos rfl))
  · intro n rest order
    rw [judged, order]
    rfl

end

/-! ## The obligation -/

/-- R91, R117, R128: what a scan's completion does in turn. -/
theorem scanComplete_eq (s : State) :
    scanComplete s =
      feederNumbers.foldl (fun u f => judgeFeeder f u)
        ((measured s).countedSockets.foldl (fun u n => countScan n u) (measured s)) := rfl

/-- R132: where a socket found neither tripped nor supplying within the headroom goes. -/
theorem adoptSocket_placed {n : Nat} {x : SocketReport} {s : State} (plugged : s.plugged n = x.plug)
    (free : (s.socket n).state = .idle ∨ (s.socket n).state = .unassigned) (berth : (s.socketCfg n).berth ≠ none)
    (sound : ¬((x.plug = true ∧ x.contactor = true) ∧ x.trip = true))
    (out : ¬((x.plug = true ∧ x.contactor = true) ∧ s.eligible n = true ∧ s.fits (s.feederOf n) n = true)) :
    (x.plug = false → MovedTo n .idle s (adoptSocket n x s)) ∧
      (x.plug = true → ¬s.eligible n = true → MovedTo n .waiting s (adoptSocket n x s)) ∧
      (x.plug = true → s.eligible n = true → adoptSocket n x s = placePending n s) := by
  rw [adoptSocket_judges free berth sound out]
  refine ⟨fun plug => ?_, fun plug ineligible => ?_, fun plug eligible => ?_⟩
  · rw [judged_of_no_plug berth (plugged.trans plug), if_neg (by decide)]
    exact setSocket_movedTo ..
  · rw [judged_of_plug berth (plugged.trans plug), if_neg ineligible, if_neg (by decide)]
    exact setSocket_movedTo ..
  · rw [judged_of_plug berth (plugged.trans plug), if_pos eligible, if_pos rfl]

/-- Settles O40: each report and each scan by the case of the model that applies; a release lands its socket whatever its
charge and its search do to others. -/
theorem reportsAndScansMoveSuppliedSockets : Obligations.ReportsAndScansMoveSuppliedSockets := by
  unfold Obligations.ReportsAndScansMoveSuppliedSockets
  refine ⟨fun h r x0 x1 x2 x3 s readings => ?handover, fun n x s => ⟨fun old reported => ?differences, rfl, rfl⟩,
    fun n x s plugged => ⟨adoptSocket_of_locked, fun free => ⟨adoptSocket_without_berth free, fun berth => ?adoption⟩⟩,
    fun n c s unsupplied => ⟨fun gone => ?unplugged, takeChanges_of_unsupplied unsupplied⟩, fun s => ?scan,
    fun n c s sound supplied => ?changes, fun s sound =>
      ⟨fun n granted => ⟨fun counted => ?firstScan, fun counted => ?secondScan⟩, fun f => ?overload⟩⟩
  case handover =>
    rw [handReport_eq h s readings]
    cases h with
    | adoption =>
      have pedestal := handFour_pedestal .adoption ((r.address - 1) * 4) x0 x1 x2 x3 s r.address
      simp only [endHandover, pedestal]
      rfl
    | afterLoss => rfl
    | differences => rfl
  case differences => simp only [handSocket, reported]; rfl
  case adoption =>
    simp only [← eligible_iff free]
    refine ⟨adoptSocket_tripped free berth, fun supplying trip eligible fits => ?_, fun sound out => ?_⟩
    · rw [adoptSocket_adopts free berth supplying trip eligible (fits_iff.2 fits)]
      obtain ⟨record, feeder, raises⟩ := adopt_adopts n s
      exact ⟨record, (feeder _).trans (if_pos rfl), fun g hg => (feeder g).trans (if_neg hg), raises⟩
    · obtain ⟨idle, waiting, pending⟩ := adoptSocket_placed plugged free berth sound
        fun ⟨supplying, eligible, fits⟩ => out ⟨supplying, eligible, fits_iff.1 fits⟩
      refine ⟨idle, waiting, fun plug eligible => ?_⟩
      rw [pending plug eligible]
      obtain ⟨queue, feeder, others, raises⟩ := placePending_places n s
      exact ⟨fun j => placePending_socket n j s, feeder, queue, others, raises⟩
  case unplugged =>
    rw [takeChanges_plugGone gone]
    refine ⟨fun pending => ?_, fun plugged => ?_, fun empty => ?_⟩
    · obtain ⟨same, leaves⟩ := takePlugGone_pending pending
      exact ⟨same, fun sound => leaves sound.pendingSound⟩
    · have out : (s.socket n).state ≠ .pending := fun h => by simp [h] at plugged
      rw [takePlugGone_of_at_rest unsupplied out, if_pos plugged]
    · exact takePlugGone_of_unplugged empty
  case scan =>
    simp only [← measuredCurrent_eq]
    rw [scanComplete_eq, countedSockets_measured]
    rfl
  case changes =>
    refine ⟨takeChanges_unplugs sound.pendingSound supplied, takeChanges_trips sound.pendingSound supplied,
      fun stays untripped closed trip granted => ?_, fun stays untripped open_ opened energised => ?_⟩
    · obtain ⟨⟨own, others, feeders⟩, raises⟩ := takeChanges_energises stays untripped closed trip granted
      exact ⟨own, others, feeders, raises⟩
    · obtain ⟨⟨own, others, feeders⟩, raises⟩ := takeChanges_reopens stays untripped open_ opened energised
      exact ⟨own, others, feeders, raises⟩
  case firstScan =>
    rw [countScan_first granted counted]
    exact ⟨(State.socket_setSocket ..).trans (if_pos rfl), .writeFar (by decide) s _⟩
  case secondScan =>
    obtain ⟨stamp, landed⟩ := release_lands sound.pendingSound (n := n) (land := ⟨.locked, none, none, true⟩)
      (by rw [granted]; rfl) (by decide) (some (.socketFault n (s.feederOf n) .contactor))
    rw [countScan_second granted counted, landed]
    exact ⟨rfl, rfl, rfl⟩
  case overload =>
    refine ⟨fun within => ?_, fun above few => ?_, fun above many => ?_⟩
    · rw [judgeFeeder_within within]
      exact ⟨(State.feeder_setFeeder ..).trans (if_pos rfl), rfl⟩
    · rw [judgeFeeder_counts above few]
      exact ⟨(State.feeder_setFeeder ..).trans (if_pos rfl), rfl⟩
    · obtain ⟨reset, sheds⟩ := judgeFeeder_trips above many
      refine ⟨reset, fun n rest order => ?_⟩
      obtain ⟨supplied, feeder⟩ := mem_shedOrder sound.sockets (n := n) (f := f) (by rw [order]; exact List.mem_cons_self)
      obtain ⟨stamp, landed⟩ := shed_lands sound.pendingSound supplied
      have same : (judgeFeeder f s).socket n = (shed n .feeder .overload s).socket n := by
        rw [State.socket, sheds n rest order]
        rfl
      rw [same, landed, ← feeder]
      exact ⟨rfl, rfl, rfl, rfl⟩

end Sys2Proof.Machine
end

section
/-! SUPPORT. A press (R96, R97), and the counts of a good reply (R88 steps 1 and 2, R94), O34. -/

namespace Sys2Proof.Machine

/-! ## Meters (R94) -/

/-- R94: the 16-bit difference of two counts. -/
theorem delta_eq {count baseline : Nat} (hb : baseline < 65536) (hc : count < 65536) :
    delta count baseline = if baseline ≤ count then count - baseline else count + 65536 - baseline := by
  unfold delta
  split <;> omega

theorem take_unsettled_of_plausible {m : Meter} {limit count : Nat} (h : delta count m.baseline ≤ limit) :
    (m.take limit count).unsettled = min (m.unsettled + delta count m.baseline) 4294967295 := if_pos h

theorem take_unsettled_of_jump {m : Meter} {limit count : Nat} (h : limit < delta count m.baseline) :
    (m.take limit count).unsettled = m.unsettled := if_neg (Nat.not_le.2 h)

/-! ## A press (R96, R97) -/

/-- R96: a tap that has opened, its run from now. -/
def Opened (n b : Nat) (k : Option Nat) (s t : State) : Prop :=
  SameBut [.line] s t ∧ t.pdl = { s.pdl with runs := t.pdl.runs } ∧ Raises [.tapOpen n b k] s t ∧
    ∀ m, t.run m = if m = n then some ⟨s.uptime, s.uptime, (s.tapCfg n).runLimit⟩ else s.run m

theorem openTap_opened (n b : Nat) (k : Option Nat) (s : State) : Opened n b k s (openTap n b k s) :=
  ⟨(SameBut.writePdl (by decide) s _).trans (raise_sameBut ..), rfl, raises_raise _ rfl rfl, fun _ => State.run_setRun ..⟩

/-- R96: a press that a check refuses. -/
theorem raise_refused (reason : TapRefusal) (s : State) :
    SameBut [] s (s.raise (.tapRefused reason)) ∧ Raises [.tapRefused reason] s (s.raise (.tapRefused reason)) :=
  ⟨raise_sameBut .., raises_raise _ rfl rfl⟩

section
variable {n b : Nat} {s : State}

theorem pressTap_of_open {x : TapRun} (h : s.run n = some x) : pressTap n s = closeTap n .button s :=
  if_pos (by rw [h]; rfl)

section
variable (closed : s.run n = none)
include closed

theorem pressTap_of_closed : pressTap n s = pressClosed n s := if_neg (by rw [closed]; decide)

theorem pressTap_without_berth (berth : (s.tapCfg n).berth = none) : pressTap n s = s.raise (.tapRefused .noBerth) := by
  rw [pressTap_of_closed closed, pressClosed, berth]

variable (berth : (s.tapCfg n).berth = some b)
include berth

theorem pressTap_at_service (cls : (s.berth b).cls = .service) : pressTap n s = openTap n b none s := by
  rw [pressTap_of_closed closed, pressClosed, berth]
  exact if_pos cls

section
variable (cls : (s.berth b).cls ≠ .service)
include cls

theorem pressTap_without_arrival (arrived : s.arrivedOn b = none) : pressTap n s = s.raise (.tapRefused .notArrived) := by
  rw [pressTap_of_closed closed, pressClosed, berth]
  dsimp only
  rw [if_neg cls, arrived]

theorem pressTap_of_arrival {k : Nat} (arrived : s.arrivedOn b = some k) :
    pressTap n s =
      if (s.account (s.booking k).account).state = .held then s.raise (.tapRefused .held) else openTap n b (some k) s := by
  rw [pressTap_of_closed closed, pressClosed, berth]
  dsimp only
  rw [if_neg cls, arrived]

end

end

end

/-! ## Notices raised beside a write of the line -/

/-- The line is written and notices are raised, and nothing else changes. -/
def Noted (bodies : List NoticeBody) (s t : State) : Prop := t = { bodies.foldl State.raise s with pdl := t.pdl }

/-- R196: notices that the queue has room for join it in turn. -/
theorem raiseAll_of_room {l : List NoticeBody} {s : State} (room : s.hlc.notices.length + l.length ≤ noticeCapacity) :
    l.foldl State.raise s =
      { s with hlc := { s.hlc with notices := s.hlc.notices ++ l.map fun b => ⟨s.now, b⟩ } } := by
  induction l generalizing s with
  | nil => simp
  | cons b rest ih =>
    rw [List.length_cons] at room
    have raised := raise_of_room (s := s) (by omega) b
    rw [List.foldl_cons, ih (by rw [raised]; simp only [List.length_append, List.length_singleton]; omega), raised]
    simp only [List.append_assoc, List.map_cons, List.singleton_append]
    rfl

/-- Notices do not read the line. -/
theorem raiseAll_pdl (l : List NoticeBody) (s : State) (x : Pdl) :
    l.foldl State.raise { s with pdl := x } = { l.foldl State.raise s with pdl := x } := by
  induction l generalizing s with
  | nil => rfl
  | cons b rest ih => exact ih (s.raise b)

theorem raiseAll_sameBut (l : List NoticeBody) (s : State) : SameBut [] s (l.foldl State.raise s) :=
  .foldl _ (fun s b => raise_sameBut b s) l s

theorem raiseAll_speaks (l : List NoticeBody) (s : State) : Speaks s (l.foldl State.raise s) :=
  .foldl _ (fun s b => (Speaks.refl s).raise b) l s

namespace Noted

variable {l m : List NoticeBody} {s t u : State}

/-- A write of the line alone. -/
theorem of_write (x : Pdl) : Noted [] s { s with pdl := x } := rfl

theorem raise (h : Noted [] s t) (b : NoticeBody) : Noted [b] s (t.raise b) := by
  unfold Noted at h ⊢
  rw [h]
  rfl

theorem trans (h : Noted l s t) (k : Noted m t u) : Noted (l ++ m) s u := by
  unfold Noted at h k ⊢
  rw [h, raiseAll_pdl] at k
  rw [List.foldl_append]
  exact k

theorem sameBut (h : Noted l s t) : SameBut [.line] s t := by
  rw [h]
  exact ((raiseAll_sameBut l s).mono (by simp)).trans (.writePdl (by decide) _ _)

theorem speaks (h : Noted l s t) : Speaks s t := by
  rw [h]
  exact (raiseAll_speaks l s).andThen rfl

theorem raises (h : Noted l s t) : Raises l s t := by
  intro room
  rw [h, raiseAll_of_room room]
  exact outgoing_of_notices (h := s.hlc) (k := { s.hlc with notices := s.hlc.notices ++ _ }) rfl rfl

end Noted

/-! ## The link (R88 step 1, R89) -/

/-- The link after a good reply. -/
def goodLink (s : State) : PedestalLink := ⟨.online, 0, some s.uptime, true⟩

/-- R89: the notice of a return. -/
def returnNotices (a : Nat) (s : State) : List NoticeBody :=
  if (s.link a).link = .lost then [.pedestalReturn a (s.returnSeconds a)] else []

section
variable (a : Nat) (s : State)

theorem linkGood_noted : Noted (returnNotices a s) s (linkGood a s) := by
  have written : Noted [] s (s.setLink a (goodLink s)) := .of_write _
  unfold returnNotices linkGood
  dsimp only
  split
  · exact written.raise _
  · exact written

theorem linkGood_pdl : (linkGood a s).pdl = (s.setLink a (goodLink s)).pdl := by
  unfold linkGood
  dsimp only
  split <;> rfl

end

/-! ## Counts (R88 step 2, R94) -/

/-- R94: the notice of a count that is not plausible. -/
def jumpNotices (elapsed : Nat) (tap : Bool) (limit number : Nat) (m : Meter) (count : Nat) : List NoticeBody :=
  if delta count m.baseline ≤ limit then [] else [.meterJump tap number m.baseline count elapsed]

section
variable (elapsed n count : Nat) (s : State)

theorem countSocket_noted :
    Noted (jumpNotices elapsed false (20 * elapsed) n (s.socketMeter n) count) s (countSocket elapsed n count s) := by
  have written : Noted [] s (s.setSocketMeter n ((s.socketMeter n).take (20 * elapsed) count)) := .of_write _
  unfold jumpNotices countSocket
  dsimp only
  split
  · exact written
  · exact written.raise _

theorem countSocket_pdl :
    (countSocket elapsed n count s).pdl = (s.setSocketMeter n ((s.socketMeter n).take (20 * elapsed) count)).pdl := by
  unfold countSocket
  dsimp only
  split <;> rfl

theorem countTap_noted :
    Noted (jumpNotices elapsed true (2 * elapsed) n (s.tapMeter n) count) s (countTap elapsed n count s) := by
  have written : Noted [] s (s.setTapMeter n ((s.tapMeter n).take (2 * elapsed) count)) := .of_write _
  unfold jumpNotices countTap
  dsimp only
  split
  · exact written
  · exact written.raise _

theorem countTap_pdl :
    (countTap elapsed n count s).pdl = (s.setTapMeter n ((s.tapMeter n).take (2 * elapsed) count)).pdl := by
  unfold countTap
  dsimp only
  split <;> rfl

theorem countSocket_socketMeter (j : Nat) : (countSocket elapsed n count s).socketMeter j =
    if j = n then (s.socketMeter n).take (20 * elapsed) count else s.socketMeter j := by
  rw [State.socketMeter, countSocket_pdl]
  exact State.socketMeter_setSocketMeter ..

theorem countSocket_tapMeter (j : Nat) : (countSocket elapsed n count s).tapMeter j = s.tapMeter j := by
  rw [State.tapMeter, countSocket_pdl]
  rfl

theorem countTap_tapMeter (j : Nat) : (countTap elapsed n count s).tapMeter j =
    if j = n then (s.tapMeter n).take (2 * elapsed) count else s.tapMeter j := by
  rw [State.tapMeter, countTap_pdl]
  exact State.tapMeter_setTapMeter ..

theorem countTap_socketMeter (j : Nat) : (countTap elapsed n count s).socketMeter j = s.socketMeter j := by
  rw [State.socketMeter, countTap_pdl]
  rfl

end

/-! ## The counts of a report -/

/-- The four counts of a report's sockets, from the first of them. -/
def countFour (elapsed n : Nat) (x0 x1 x2 x3 : SocketReading) (s : State) : State :=
  countSocket elapsed (n + 3) x3.count
    (countSocket elapsed (n + 2) x2.count (countSocket elapsed (n + 1) x1.count (countSocket elapsed n x0.count s)))

/-- The two counts of a report's taps. -/
def countTwo (elapsed k : Nat) (y0 y1 : TapReading) (s : State) : State :=
  countTap elapsed (k + 1) y1.count (countTap elapsed k y0.count s)

section
variable (elapsed n k : Nat) (x0 x1 x2 x3 : SocketReading) (y0 y1 : TapReading) (s : State)

theorem countReport_eq {r : PollReply} (sockets : r.sockets = [x0, x1, x2, x3]) (taps : r.taps = [y0, y1]) :
    countReport r s =
      countTwo (s.elapsed r.address) ((r.address - 1) * 2) y0 y1
        (countFour (s.elapsed r.address) ((r.address - 1) * 4) x0 x1 x2 x3 (linkGood r.address s)) := by
  have socketCounts : (socketsOf r.address).zip r.sockets =
      [((r.address - 1) * 4, x0), ((r.address - 1) * 4 + 1, x1), ((r.address - 1) * 4 + 2, x2),
        ((r.address - 1) * 4 + 3, x3)] := by rw [sockets]; rfl
  have tapCounts : (tapsOf r.address).zip r.taps = [((r.address - 1) * 2, y0), ((r.address - 1) * 2 + 1, y1)] := by
    rw [taps]; rfl
  simp only [countReport, socketCounts, tapCounts, List.foldl_cons, List.foldl_nil, countTwo, countFour]

theorem countFour_noted :
    Noted
      (jumpNotices elapsed false (20 * elapsed) n (s.socketMeter n) x0.count ++
        jumpNotices elapsed false (20 * elapsed) (n + 1) (s.socketMeter (n + 1)) x1.count ++
        jumpNotices elapsed false (20 * elapsed) (n + 2) (s.socketMeter (n + 2)) x2.count ++
        jumpNotices elapsed false (20 * elapsed) (n + 3) (s.socketMeter (n + 3)) x3.count)
      s (countFour elapsed n x0 x1 x2 x3 s) := by
  have first := countSocket_noted elapsed n x0.count s
  have second := countSocket_noted elapsed (n + 1) x1.count (countSocket elapsed n x0.count s)
  have third := countSocket_noted elapsed (n + 2) x2.count
    (countSocket elapsed (n + 1) x1.count (countSocket elapsed n x0.count s))
  have fourth := countSocket_noted elapsed (n + 3) x3.count
    (countSocket elapsed (n + 2) x2.count (countSocket elapsed (n + 1) x1.count (countSocket elapsed n x0.count s)))
  have taken := ((first.trans second).trans third).trans fourth
  simpa [countFour, countSocket_socketMeter] using taken

theorem countTwo_noted :
    Noted
      (jumpNotices elapsed true (2 * elapsed) k (s.tapMeter k) y0.count ++
        jumpNotices elapsed true (2 * elapsed) (k + 1) (s.tapMeter (k + 1)) y1.count)
      s (countTwo elapsed k y0 y1 s) := by
  have taken := (countTap_noted elapsed k y0.count s).trans
    (countTap_noted elapsed (k + 1) y1.count (countTap elapsed k y0.count s))
  simpa [countTwo, countTap_tapMeter] using taken

end

end Sys2Proof.Machine
end

section
/-! SUPPORT. A good reply after its counts (R88 steps 3 to 6, R94, R96), O34: what the hand-over and the presses leave of
the line, the reports, the acknowledgements and the no-flow times. -/

namespace Sys2Proof.Machine

/-! ## What the counts of a report write -/

/-- Of the line the meters alone may differ. -/
def MetersOnly (s t : State) : Prop :=
  t.pdl = { s.pdl with socketMeters := t.pdl.socketMeters, tapMeters := t.pdl.tapMeters }

namespace MetersOnly

variable {s t u : State}

theorem refl (s : State) : MetersOnly s s := rfl

theorem trans (h : MetersOnly s t) (k : MetersOnly t u) : MetersOnly s u := by
  unfold MetersOnly at *
  rw [k, h]

theorem foldl {α : Type} (f : State → α → State) (h : ∀ s a, MetersOnly s (f s a)) (l : List α) (s : State) :
    MetersOnly s (l.foldl f s) := foldl_keeps refl trans f h l s

end MetersOnly

section
variable (r : PollReply) (s : State)

theorem countReport_meters : MetersOnly (linkGood r.address s) (countReport r s) := by
  have socket (e n c : Nat) (u : State) : MetersOnly u (countSocket e n c u) := by
    unfold MetersOnly
    rw [countSocket_pdl]
    rfl
  have tap (e n c : Nat) (u : State) : MetersOnly u (countTap e n c u) := by
    unfold MetersOnly
    rw [countTap_pdl]
    rfl
  unfold countReport
  exact MetersOnly.trans (.foldl _ (fun u (x : Nat × SocketReading) => socket _ x.1 x.2.count u) _ _)
    (.foldl _ (fun u (x : Nat × TapReading) => tap _ x.1 x.2.count u) _ _)

theorem countReport_pdl :
    (countReport r s).pdl = { s.pdl with
      links := (countReport r s).pdl.links, socketMeters := (countReport r s).pdl.socketMeters
      tapMeters := (countReport r s).pdl.tapMeters } := by
  have counted := countReport_meters r s
  unfold MetersOnly at counted
  rw [linkGood_pdl] at counted
  rw [counted]
  rfl

theorem countReport_link (j : Nat) :
    (countReport r s).link j = if j = r.address then goodLink s else s.link j := by
  have counted := countReport_meters r s
  unfold MetersOnly at counted
  rw [State.link, counted, linkGood_pdl]
  exact State.link_setLink s r.address j (goodLink s)

theorem countReport_ack (j : Nat) : (countReport r s).ack j = s.ack j := by
  rw [State.ack, countReport_pdl]
  rfl

theorem countReport_socketCfg (j : Nat) : (countReport r s).socketCfg j = s.socketCfg j := by
  rw [State.socketCfg, countReport_pdl]
  rfl

variable {r}
variable {x0 x1 x2 x3 : SocketReading} {y0 y1 : TapReading} (sockets : r.sockets = [x0, x1, x2, x3])
  (taps : r.taps = [y0, y1])
include sockets taps

/-- R88 steps 1 and 2, R94: the notices of a good reply's counts. -/
theorem countReport_noted :
    let n := (r.address - 1) * 4
    let k := (r.address - 1) * 2
    let e := s.elapsed r.address
    Noted
      (returnNotices r.address s ++ jumpNotices e false (20 * e) n (s.socketMeter n) x0.count ++
        jumpNotices e false (20 * e) (n + 1) (s.socketMeter (n + 1)) x1.count ++
        jumpNotices e false (20 * e) (n + 2) (s.socketMeter (n + 2)) x2.count ++
        jumpNotices e false (20 * e) (n + 3) (s.socketMeter (n + 3)) x3.count ++
        jumpNotices e true (2 * e) k (s.tapMeter k) y0.count ++
        jumpNotices e true (2 * e) (k + 1) (s.tapMeter (k + 1)) y1.count)
      s (countReport r s) := by
  intro n k e
  have socketMeter (j : Nat) : (linkGood r.address s).socketMeter j = s.socketMeter j := by
    rw [State.socketMeter, linkGood_pdl]; rfl
  have tapMeter (j : Nat) :
      (countFour e n x0 x1 x2 x3 (linkGood r.address s)).tapMeter j = s.tapMeter j := by
    simp only [countFour, countSocket_tapMeter]
    rw [State.tapMeter, linkGood_pdl]; rfl
  have linked := linkGood_noted r.address s
  have four := countFour_noted e n x0 x1 x2 x3 (linkGood r.address s)
  have two := countTwo_noted e k y0 y1 (countFour e n x0 x1 x2 x3 (linkGood r.address s))
  simp only [socketMeter] at four
  simp only [tapMeter] at two
  rw [countReport_eq x0 x1 x2 x3 y0 y1 s sockets taps]
  have taken := (linked.trans four).trans two
  simp only [List.append_assoc] at taken ⊢
  exact taken

theorem countReport_socketMeter {i : Nat} {x : SocketReading} (hi : i < 4) (hx : r.sockets[i]? = some x) :
    (countReport r s).socketMeter ((r.address - 1) * 4 + i) =
      (s.socketMeter ((r.address - 1) * 4 + i)).take (20 * s.elapsed r.address) x.count := by
  have linked (j : Nat) : (linkGood r.address s).socketMeter j = s.socketMeter j := by
    rw [State.socketMeter, linkGood_pdl]; rfl
  rw [sockets] at hx
  simp only [countReport_eq x0 x1 x2 x3 y0 y1 s sockets taps, countTwo, countFour, countTap_socketMeter,
    countSocket_socketMeter, linked]
  interval_cases i
  all_goals
    obtain rfl := Option.some.inj hx
    simp

theorem countReport_tapMeter {i : Nat} {x : TapReading} (hi : i < 2) (hx : r.taps[i]? = some x) :
    (countReport r s).tapMeter ((r.address - 1) * 2 + i) =
      (s.tapMeter ((r.address - 1) * 2 + i)).take (2 * s.elapsed r.address) x.count := by
  have linked (j : Nat) : (linkGood r.address s).tapMeter j = s.tapMeter j := by
    rw [State.tapMeter, linkGood_pdl]; rfl
  rw [taps] at hx
  simp only [countReport_eq x0 x1 x2 x3 y0 y1 s sockets taps, countTwo, countFour, countTap_tapMeter,
    countSocket_tapMeter, linked]
  interval_cases i
  all_goals
    obtain rfl := Option.some.inj hx
    simp

end

/-! ## What of the line stays after the counts -/

/-- Notices are raised; of the line the reports, the runs, the acknowledgements and the unsettled quantities alone may
differ. -/
structure ReplyKept (s t : State) : Prop where
  speaks : Speaks s t
  pdl : t.pdl = { s.pdl with
    reports := t.pdl.reports, runs := t.pdl.runs, acks := t.pdl.acks, socketMeters := t.pdl.socketMeters
    tapMeters := t.pdl.tapMeters }
  socketBaseline : ∀ n, (t.socketMeter n).baseline = (s.socketMeter n).baseline
  tapBaseline : ∀ n, (t.tapMeter n).baseline = (s.tapMeter n).baseline

namespace ReplyKept

variable {s t u : State}

theorem of_line (h : LineKept s t) : ReplyKept s t :=
  ⟨h.speaks, h.pdl.trans (by rw [h.pdl]), h.socketBaseline, h.tapBaseline⟩

theorem refl (s : State) : ReplyKept s s := of_line (.refl s)

theorem trans (h : ReplyKept s t) (k : ReplyKept t u) : ReplyKept s u where
  speaks := h.speaks.trans k.speaks
  pdl := k.pdl.trans (by rw [h.pdl])
  socketBaseline n := (k.socketBaseline n).trans (h.socketBaseline n)
  tapBaseline n := (k.tapBaseline n).trans (h.tapBaseline n)

theorem foldl {α : Type} (f : State → α → State) (h : ∀ s a, ReplyKept s (f s a)) (l : List α) (s : State) :
    ReplyKept s (l.foldl f s) := foldl_keeps refl trans f h l s

theorem setReport (h : ReplyKept s t) (n : Nat) (x : Option SocketReport) : ReplyKept s (t.setReport n x) :=
  h.trans ⟨.of_hlc rfl, rfl, fun _ => rfl, fun _ => rfl⟩

theorem setAck (h : ReplyKept s t) (n : Nat) (x : Bool) : ReplyKept s (t.setAck n x) :=
  h.trans ⟨.of_hlc rfl, rfl, fun _ => rfl, fun _ => rfl⟩

theorem link (h : ReplyKept s t) (j : Nat) : t.link j = s.link j := by rw [State.link, h.pdl]; rfl

theorem poll (h : ReplyKept s t) : t.pdl.poll = s.pdl.poll := by rw [h.pdl]

end ReplyKept

/-! ## The hand-over -/

section
variable (h : Handover) (n : Nat) (x : SocketReport) (s : State)

theorem handSocket_kept : ReplyKept s (handSocket h n x s) :=
  ((ReplyKept.refl s).setReport n _).trans (.of_line (handSocket_line h n x s))

/-- R88 step 3: a hand-over replaces the last report of its socket. -/
theorem handSocket_report (j : Nat) :
    (handSocket h n x s).report j =
      if j = n then some { x with current := min x.current ((s.socketCfg n).rating * 20) } else s.report j :=
  ((handSocket_line h n x s).report j).trans (State.report_setReport ..)

theorem handSocket_socketCfg (j : Nat) : (handSocket h n x s).socketCfg j = s.socketCfg j :=
  (handSocket_line h n x s).socketCfg j

theorem handSocket_ack (j : Nat) : (handSocket h n x s).ack j = s.ack j := (handSocket_line h n x s).ack j

end

section
variable (h : Handover) (r : PollReply) (s : State)

theorem handReport_kept : ReplyKept s (handReport h r s) := by
  unfold handReport
  exact ReplyKept.trans (.foldl _ (fun u (x : Nat × SocketReading) => handSocket_kept h x.1 x.2.report u) _ _)
    (.of_line (endHandover_line ..))

theorem handReport_ack (j : Nat) : (handReport h r s).ack j = s.ack j := by
  rw [handReport, (endHandover_line ..).ack]
  exact foldl_keeps (kept := fun t u : State => u.ack j = t.ack j) (fun _ => rfl) (fun first later => Eq.trans later first)
    (fun t (x : Nat × SocketReading) => handSocket h x.1 x.2.report t) (fun u x => handSocket_ack h x.1 x.2.report u j) _ s

variable {r}

/-- R88 step 3: a hand-over replaces the last reports of its pedestal's sockets. -/
theorem handReport_report {x0 x1 x2 x3 : SocketReading} (sockets : r.sockets = [x0, x1, x2, x3]) {i : Nat}
    {x : SocketReading} (hi : i < 4) (hx : r.sockets[i]? = some x) :
    (handReport h r s).report ((r.address - 1) * 4 + i) =
      some { x.report with
        current := min x.report.current ((s.socketCfg ((r.address - 1) * 4 + i)).rating * 20) } := by
  rw [handReport_eq h s sockets, (endHandover_line ..).report]
  rw [sockets] at hx
  simp only [handFour, handSocket_report, handSocket_socketCfg]
  interval_cases i
  all_goals
    obtain rfl := Option.some.inj hx
    simp

end

/-! ## The presses (R88 step 4) -/

/-- A tap's press, where the report shows one, is taken and acknowledged. -/
def takePress (m : Nat) (x : TapReading) (u : State) : State := if x.press then (pressTap m u).setAck m true else u

section
variable (m : Nat) (x : TapReading) (u : State)

theorem takePress_kept : ReplyKept u (takePress m x u) := by
  unfold takePress
  split
  · exact (ReplyKept.of_line (pressTap_line m u)).setAck m true
  · exact .refl u

theorem takePress_report (j : Nat) : (takePress m x u).report j = u.report j := by
  unfold takePress
  split
  · exact (pressTap_line m u).report j
  · rfl

theorem takePress_ack (j : Nat) : (takePress m x u).ack j = if j = m ∧ x.press = true then true else u.ack j := by
  unfold takePress
  by_cases press : x.press = true
  · rw [if_pos press, State.ack_setAck, (pressTap_line m u).ack]
    simp only [press, and_true]
  · rw [if_neg press, if_neg fun h => press h.2]

end

/-! ## The acknowledgements (R88 step 5) -/

theorem clearAll_ack (l : List (Nat × Bool)) (u : State) (j : Nat) :
    (l.foldl (fun t x => t.setAck x.1 false) u).ack j = if ∃ x ∈ l, x.1 = j then false else u.ack j := by
  induction l generalizing u with
  | nil => simp
  | cons x rest ih =>
    rw [List.foldl_cons, ih, State.ack_setAck]
    by_cases later : ∃ y ∈ rest, y.1 = j
    · obtain ⟨y, hy, hj⟩ := later
      rw [if_pos ⟨y, hy, hj⟩, if_pos ⟨y, List.mem_cons_of_mem _ hy, hj⟩]
    · rw [if_neg later]
      have same : (∃ y ∈ x :: rest, y.1 = j) ↔ j = x.1 := by
        simp only [List.mem_cons, exists_eq_or_imp]
        exact (or_iff_left later).trans eq_comm
      simp only [same]

/-! ## The no-flow times (R88 step 6) -/

/-- An OPEN tap's no-flow time restarts. -/
def restartFlow (m : Nat) (u : State) : State :=
  match u.run m with
  | some v => u.setRun m (some { v with flowSince := u.uptime })
  | none => u

theorem restartFlow_run (m : Nat) (u : State) (j : Nat) :
    (restartFlow m u).run j = if j = m then (u.run m).map fun v => { v with flowSince := u.uptime } else u.run j := by
  unfold restartFlow
  cases h : u.run m with
  | some v => exact State.run_setRun ..
  | none =>
    dsimp only
    split
    · next hj => rw [hj, h]; rfl
    · rfl

theorem restartFlow_rest (m : Nat) (u : State) :
    restartFlow m u = { u with pdl := { u.pdl with runs := (restartFlow m u).pdl.runs } } := by
  unfold restartFlow
  split <;> rfl

end Sys2Proof.Machine
end

section
/-! SUPPORT. A good reply as a whole (R88), O34: the state it leaves is that of its presses but for the acknowledgements of
the poll, the no-flow times and the mark that the slot has its reply. -/

namespace Sys2Proof.Machine

section
variable (k : Nat) (y0 y1 : TapReading) (acks : List Bool) (s : State)

/-- The taps, of the two from `k`, whose presses a report takes. -/
def pressedTaps : List (Nat × TapReading) := [(k, y0), (k + 1, y1)].filter fun x => x.2.press

/-- The taps whose acknowledgement, sent by the poll, ends with its reply. -/
def clearedTaps : List (Nat × Bool) :=
  ([k, k + 1].zip acks).filter fun x => x.2 && !((pressedTaps k y0 y1).any fun y => decide (y.1 = x.1))

/-- A tap of the two whose press is taken. -/
def PressTaken (m : Nat) : Prop := m = k ∧ y0.press = true ∨ m = k + 1 ∧ y1.press = true

/-- A tap of the two for which the poll carried an acknowledgement. -/
def AckSent (m : Nat) : Prop := m = k ∧ acks[0]? = some true ∨ m = k + 1 ∧ acks[1]? = some true

theorem any_pressedTaps (m : Nat) :
    ((pressedTaps k y0 y1).any fun y => decide (y.1 = m)) = true ↔ PressTaken k y0 y1 m := by
  simp only [pressedTaps, PressTaken, List.any_filter, List.any_cons, List.any_nil, Bool.or_false, Bool.or_eq_true,
    Bool.and_eq_true, decide_eq_true_eq]
  tauto

theorem mem_zip_acks (m : Nat) : (m, true) ∈ [k, k + 1].zip acks ↔ AckSent k acks m := by
  rcases acks with _ | ⟨b, _ | ⟨c, rest⟩⟩ <;> simp [AckSent, eq_comm]

/-- R88 step 5: an acknowledgement that was sent ends, but for a tap with a further press. -/
theorem exists_clearedTaps (m : Nat) :
    (∃ x ∈ clearedTaps k y0 y1 acks, x.1 = m) ↔ AckSent k acks m ∧ ¬PressTaken k y0 y1 m := by
  rw [← mem_zip_acks, ← any_pressedTaps]
  constructor
  · rintro ⟨⟨m, sent⟩, listed, rfl⟩
    obtain ⟨zipped, test⟩ := List.mem_filter.1 listed
    simp only [Bool.and_eq_true, Bool.not_eq_true'] at test
    exact ⟨test.1 ▸ zipped, by rw [test.2]; decide⟩
  · rintro ⟨zipped, unpressed⟩
    exact ⟨(m, true), List.mem_filter.2 ⟨zipped, by rw [Bool.eq_false_iff.2 unpressed]; rfl⟩, rfl⟩

/-- R88 step 4: the presses of a report's taps, that of position 0 first. -/
def takePresses : State := takePress (k + 1) y1 (takePress k y0 s)

theorem takePresses_kept : ReplyKept s (takePresses k y0 y1 s) := (takePress_kept ..).trans (takePress_kept ..)

theorem takePresses_report (j : Nat) : (takePresses k y0 y1 s).report j = s.report j :=
  (takePress_report ..).trans (takePress_report ..)

theorem takePresses_ack_of_pressed {m : Nat} (h : PressTaken k y0 y1 m) : (takePresses k y0 y1 s).ack m = true := by
  rw [takePresses, takePress_ack, takePress_ack]
  rcases h with ⟨rfl, press⟩ | ⟨rfl, press⟩ <;> simp [press]

theorem takePresses_ack_of_not {m : Nat} (h : ¬PressTaken k y0 y1 m) : (takePresses k y0 y1 s).ack m = s.ack m := by
  rw [takePresses, takePress_ack, takePress_ack, if_neg fun second => h (.inr second), if_neg fun first => h (.inl first)]

/-- R88 step 5: the acknowledgements that the poll carried end. -/
def clearAcks : State := (clearedTaps k y0 y1 acks).foldl (fun t x => t.setAck x.1 false) s

theorem clearAcks_ack (m : Nat) :
    (clearAcks k y0 y1 acks s).ack m =
      if ∃ x ∈ clearedTaps k y0 y1 acks, x.1 = m then false else s.ack m := clearAll_ack ..

theorem clearAcks_rest :
    clearAcks k y0 y1 acks s = { s with pdl := { s.pdl with acks := (clearAcks k y0 y1 acks s).pdl.acks } } :=
  foldl_keeps (kept := fun t u : State => u = { t with pdl := { t.pdl with acks := u.pdl.acks } }) (fun _ => rfl)
    (fun first second => by rw [second, first]) (fun t (x : Nat × Bool) => t.setAck x.1 false) (fun _ _ => rfl) _ s

/-- R88 step 6: a tap's no-flow time, where its count gives it a flow. -/
def restartIf (m : Nat) (flows : Bool) (u : State) : State := if flows then restartFlow m u else u

theorem restartIf_rest (m : Nat) (flows : Bool) (u : State) :
    restartIf m flows u = { u with pdl := { u.pdl with runs := (restartIf m flows u).pdl.runs } } := by
  unfold restartIf
  split
  · exact restartFlow_rest m u
  · rfl

theorem restartIf_uptime (m : Nat) (flows : Bool) (u : State) : (restartIf m flows u).uptime = u.uptime := by
  rw [restartIf_rest]; rfl

theorem restartIf_run (m : Nat) (flows : Bool) (u : State) (j : Nat) :
    (restartIf m flows u).run j =
      if j = m ∧ flows = true then (u.run j).map fun v => { v with flowSince := u.uptime } else u.run j := by
  unfold restartIf
  by_cases hf : flows = true
  · rw [if_pos hf, restartFlow_run]
    by_cases hj : j = m
    · rw [if_pos hj, if_pos ⟨hj, hf⟩, hj]
    · rw [if_neg hj, if_neg fun h => hj h.1]
  · rw [if_neg hf, if_neg fun h => hf h.2]

/-- The no-flow times of the two taps. -/
def restartFlows (first second : Bool) : State := restartIf (k + 1) second (restartIf k first s)

theorem restartFlows_rest (first second : Bool) :
    restartFlows k s first second =
      { s with pdl := { s.pdl with runs := (restartFlows k s first second).pdl.runs } } := by
  unfold restartFlows
  rw [restartIf_rest (k + 1), restartIf_rest k]

section
variable {k} {s} {first second : Bool} {m : Nat}

theorem restartFlows_run_of_flow (h : m = k ∧ first = true ∨ m = k + 1 ∧ second = true) :
    (restartFlows k s first second).run m = (s.run m).map fun v => { v with flowSince := s.uptime } := by
  rw [restartFlows, restartIf_run, restartIf_uptime, restartIf_run]
  rcases h with own | own
  · rw [if_neg (by omega), if_pos own]
  · rw [if_pos own, if_neg (by omega)]

theorem restartFlows_run_of_not (h : ¬(m = k ∧ first = true ∨ m = k + 1 ∧ second = true)) :
    (restartFlows k s first second).run m = s.run m := by
  rw [restartFlows, restartIf_run, restartIf_run, if_neg fun own => h (.inr own), if_neg fun own => h (.inl own)]

end

end

/-! ## The whole of a good reply -/

section
variable (p : Poll) (r : PollReply) (s : State)

/-- R88 steps 1 to 4: the counts, the hand-over and the presses of a report. -/
def replyTaken (y0 y1 : TapReading) : State :=
  takePresses ((r.address - 1) * 2) y0 y1 (handReport (s.handover r.address) r (countReport r s))

/-- R88 step 6 asks of a tap's count. -/
def tapFlows (m : Nat) (y : TapReading) : Bool := flows (s.tapMeter m) (s.elapsed r.address) y.count

/-- R88 steps 4 to 6, in the terms of one tap. -/
theorem goodReport_steps :
    goodReport p r s =
      let taps := (tapsOf r.address).zip r.taps
      let pressed := taps.filter fun x => x.2.press
      let taken := pressed.foldl (fun t x => (pressTap x.1 t).setAck x.1 true)
        (handReport (s.handover r.address) r (countReport r s))
      let cleared := (((tapsOf r.address).zip p.acks).filter fun x =>
        x.2 && !(pressed.any fun y => decide (y.1 = x.1))).foldl (fun t x => t.setAck x.1 false) taken
      let t := (taps.filter fun x => tapFlows r s x.1 x.2).foldl (fun t x => restartFlow x.1 t) cleared
      { t with pdl := { t.pdl with replied := true } } := rfl

variable {r} {y0 y1 : TapReading} (taps : r.taps = [y0, y1])
include taps

theorem goodReport_eq :
    goodReport p r s =
      let k := (r.address - 1) * 2
      let t := restartFlows k (clearAcks k y0 y1 p.acks (replyTaken r s y0 y1)) (tapFlows r s k y0)
        (tapFlows r s (k + 1) y1)
      { t with pdl := { t.pdl with replied := true } } := by
  have tapReadings : (tapsOf r.address).zip r.taps = [((r.address - 1) * 2, y0), ((r.address - 1) * 2 + 1, y1)] := by
    rw [taps]; rfl
  have presses (u : State) :
      ([((r.address - 1) * 2, y0), ((r.address - 1) * 2 + 1, y1)].filter fun x => x.2.press).foldl
        (fun t x => (pressTap x.1 t).setAck x.1 true) u = takePresses ((r.address - 1) * 2) y0 y1 u := by
    rw [List.foldl_filter]
    rfl
  have restarts (u : State) :
      ([((r.address - 1) * 2, y0), ((r.address - 1) * 2 + 1, y1)].filter fun x => tapFlows r s x.1 x.2).foldl
        (fun t x => restartFlow x.1 t) u =
          restartFlows ((r.address - 1) * 2) u (tapFlows r s ((r.address - 1) * 2) y0)
            (tapFlows r s ((r.address - 1) * 2 + 1) y1) := by
    rw [List.foldl_filter]
    rfl
  rw [goodReport_steps]
  dsimp only
  rw [tapReadings, presses, restarts]
  rfl

end

end Sys2Proof.Machine
end

section
/-! SUPPORT. A poll's reply (R87, R88, R94, R96, R97), O34. -/

namespace Sys2Proof.Machine

theorem replyTaken_kept (r : PollReply) (s : State) (y0 y1 : TapReading) :
    ReplyKept (countReport r s) (replyTaken r s y0 y1) := (handReport_kept ..).trans (takePresses_kept ..)

theorem pressTaken_of_press {r : PollReply} {y0 y1 x : TapReading} {k i : Nat} (taps : r.taps = [y0, y1]) (hi : i < 2)
    (hx : r.taps[i]? = some x) (press : x.press = true) : PressTaken k y0 y1 (k + i) := by
  rw [taps] at hx
  interval_cases i
  all_goals obtain rfl := Option.some.inj hx
  · exact .inl ⟨rfl, press⟩
  · exact .inr ⟨rfl, press⟩

section
variable (p : Poll) {r : PollReply} (s : State) {y0 y1 : TapReading} (taps : r.taps = [y0, y1])
include taps

/-- After its presses a good reply writes runs and acknowledgements, and marks the slot. -/
theorem goodReport_rest :
    goodReport p r s = { replyTaken r s y0 y1 with
      pdl := { (replyTaken r s y0 y1).pdl with
        runs := (goodReport p r s).pdl.runs, acks := (goodReport p r s).pdl.acks, replied := true } } := by
  rw [goodReport_eq p s taps]
  dsimp only
  rw [restartFlows_rest, clearAcks_rest]

theorem goodReport_run {m : Nat} :
    let k := (r.address - 1) * 2
    let flows := m = k ∧ tapFlows r s k y0 = true ∨ m = k + 1 ∧ tapFlows r s (k + 1) y1 = true
    (flows → (goodReport p r s).run m = ((replyTaken r s y0 y1).run m).map fun v => { v with flowSince := s.uptime }) ∧
      (¬flows → (goodReport p r s).run m = (replyTaken r s y0 y1).run m) := by
  intro k flows
  have same : (goodReport p r s).clk = s.clk :=
    (goodReport_sameBut (parts := holdParts) (fun _ h => h) p r s).clk_eq (by decide)
  have clk : (replyTaken r s y0 y1).clk = s.clk := by
    rw [goodReport_rest p s taps] at same
    exact same
  have cleared := clearAcks_rest k y0 y1 p.acks (replyTaken r s y0 y1)
  have run : (clearAcks k y0 y1 p.acks (replyTaken r s y0 y1)).run m = (replyTaken r s y0 y1).run m := by
    rw [cleared]; rfl
  have uptime : (clearAcks k y0 y1 p.acks (replyTaken r s y0 y1)).uptime = s.uptime := by
    rw [State.uptime, cleared, State.uptime, ← clk]
  have ended := goodReport_eq p s taps
  have written : (goodReport p r s).run m =
      (restartFlows k (clearAcks k y0 y1 p.acks (replyTaken r s y0 y1)) (tapFlows r s k y0) (tapFlows r s (k + 1) y1)).run
        m := by
    rw [ended]; rfl
  rw [written, ← run, ← uptime]
  exact ⟨restartFlows_run_of_flow, restartFlows_run_of_not⟩

theorem goodReport_ack {m : Nat} :
    (PressTaken ((r.address - 1) * 2) y0 y1 m → (goodReport p r s).ack m = true) ∧
      (¬PressTaken ((r.address - 1) * 2) y0 y1 m → (goodReport p r s).ack m =
        if m = (r.address - 1) * 2 ∧ p.acks[0]? = some true ∨ m = (r.address - 1) * 2 + 1 ∧ p.acks[1]? = some true then
          false
        else s.ack m) := by
  have ended := goodReport_eq p s taps
  have written : (goodReport p r s).ack m =
      (clearAcks ((r.address - 1) * 2) y0 y1 p.acks (replyTaken r s y0 y1)).ack m := by
    rw [ended]
    dsimp only
    rw [restartFlows_rest]
    rfl
  rw [written, clearAcks_ack]
  have cleared := exists_clearedTaps ((r.address - 1) * 2) y0 y1 p.acks m
  refine ⟨fun pressed => ?_, fun unpressed => ?_⟩
  · rw [if_neg fun h => (cleared.1 h).2 pressed]
    exact takePresses_ack_of_pressed _ _ _ _ pressed
  · have taken : (replyTaken r s y0 y1).ack m = s.ack m :=
      (takePresses_ack_of_not _ _ _ _ unpressed).trans ((handReport_ack ..).trans (countReport_ack ..))
    rw [taken]
    by_cases sent : AckSent ((r.address - 1) * 2) p.acks m
    · exact (if_pos (cleared.2 ⟨sent, unpressed⟩)).trans (if_pos sent).symm
    · exact (if_neg fun h => sent (cleared.1 h).1).trans (if_neg sent).symm

/-- What of the line stays after the counts of a good reply. -/
theorem goodReport_line :
    (goodReport p r s).pdl.poll = s.pdl.poll ∧ (goodReport p r s).pdl.replied = true ∧
      (∀ j, (goodReport p r s).link j = (countReport r s).link j) ∧
      (∀ j, ((goodReport p r s).socketMeter j).baseline = ((countReport r s).socketMeter j).baseline) ∧
      ∀ j, ((goodReport p r s).tapMeter j).baseline = ((countReport r s).tapMeter j).baseline := by
  have kept := replyTaken_kept r s y0 y1
  rw [goodReport_rest p s taps]
  refine ⟨kept.poll.trans ?_, rfl, kept.link, kept.socketBaseline, kept.tapBaseline⟩
  rw [countReport_pdl]

theorem goodReport_report {x0 x1 x2 x3 : SocketReading} (sockets : r.sockets = [x0, x1, x2, x3]) {i : Nat}
    {x : SocketReading} (hi : i < 4) (hx : r.sockets[i]? = some x) :
    (goodReport p r s).report ((r.address - 1) * 4 + i) =
      some { x.report with
        current := min x.report.current ((s.socketCfg ((r.address - 1) * 4 + i)).rating * 20) } := by
  have taken : (goodReport p r s).report ((r.address - 1) * 4 + i) =
      (replyTaken r s y0 y1).report ((r.address - 1) * 4 + i) := by
    rw [goodReport_rest p s taps]; rfl
  rw [taken, replyTaken, takePresses_report, handReport_report _ _ sockets hi hx, countReport_socketCfg]

theorem goodReport_speaks {x0 x1 x2 x3 : SocketReading} (sockets : r.sockets = [x0, x1, x2, x3]) :
    Speaks s (goodReport p r s) := by
  rw [goodReport_rest p s taps]
  exact ((countReport_noted s sockets taps).speaks.trans (replyTaken_kept r s y0 y1).speaks).andThen rfl

end

/-! ## The bytes of a reply (R87) -/

/-- A good reply carries four sockets and two taps. -/
theorem goodReply_readings {bytes : List Byte} {r : PollReply} (good : goodReply bytes = some r) :
    ∃ x0 x1 x2 x3 y0 y1, r.sockets = [x0, x1, x2, x3] ∧ r.taps = [y0, y1] := by
  unfold goodReply at good
  split at good
  · cases good
    exact ⟨_, _, _, _, _, _, rfl, rfl⟩
  · cases good

section
variable {bytes : List Byte} {p : Poll} {s : State}

theorem pollReply_taken {r : PollReply} (poll : s.pdl.poll = some p) (good : goodReply bytes = some r)
    (address : r.address = p.address) (configured : (s.pedestal p.address).configured = true)
    (first : s.pdl.replied = false) : pollReply bytes true s = goodReport p r s := by
  unfold pollReply
  rw [poll, good]
  exact if_pos ⟨rfl, address, configured, first⟩

theorem pollReply_ignored {inWindow : Bool} (poll : s.pdl.poll = some p)
    (h : inWindow = false ∨ (∀ r, goodReply bytes = some r → r.address ≠ p.address) ∨
      (s.pedestal p.address).configured = false ∨ s.pdl.replied = true) : pollReply bytes inWindow s = s := by
  unfold pollReply
  rw [poll]
  cases good : goodReply bytes with
  | none => rfl
  | some r =>
    refine if_neg fun ⟨window, address, configured, first⟩ => ?_
    rcases h with late | other | unconfigured | second
    · exact absurd (late.symm.trans window) (by decide)
    · exact other r good address
    · exact absurd (unconfigured.symm.trans configured) (by decide)
    · exact absurd (second.symm.trans first) (by decide)

theorem pollReply_unasked {inWindow : Bool} (poll : s.pdl.poll = none) : pollReply bytes inWindow s = s := by
  unfold pollReply
  rw [poll]

/-- Bytes that are taken for no reply change nothing. -/
theorem pollReply_idle {inWindow : Bool} (running : s.running = true) (h : pollReply bytes inWindow s = s) :
    ∃ t, exec (.pollReply bytes inWindow) s = .next t ∧ t.reply = s.reply ∧ SameBut [] s t ∧ Raises [] s t := by
  obtain ⟨t, hx, reply, left⟩ := event_leaves (i := .pollReply bytes inWindow) (f := pollReply bytes inWindow) (s := s) rfl
    running (by rw [h]; exact .refl s)
  rw [h] at left
  exact ⟨t, hx, reply, left.sameBut (.refl [] s), left.raises (raises_of_hlc rfl)⟩

end

/-- The hand-over of a good reply as R88 and R123 put it. -/
theorem handover_eq (s : State) (a : Nat) :
    s.handover a =
      if (s.report ((a - 1) * 4)).isNone ∧ (s.report ((a - 1) * 4 + 1)).isNone ∧ (s.report ((a - 1) * 4 + 2)).isNone ∧
          (s.report ((a - 1) * 4 + 3)).isNone then .adoption
      else if (s.link a).link = .lost then .afterLoss
      else .differences := by
  have four : (socketsOf a).all (fun n => (s.report n).isNone) = true ↔
      (s.report ((a - 1) * 4)).isNone ∧ (s.report ((a - 1) * 4 + 1)).isNone ∧ (s.report ((a - 1) * 4 + 2)).isNone ∧
        (s.report ((a - 1) * 4 + 3)).isNone := by
    have numbers : socketsOf a = [(a - 1) * 4, (a - 1) * 4 + 1, (a - 1) * 4 + 2, (a - 1) * 4 + 3] := rfl
    simp [numbers]
  simp only [State.handover, four]

theorem tapFlows_iff {r : PollReply} {s : State} {m : Nat} {y : TapReading} :
    tapFlows r s m y = true ↔
      0 < delta y.count (s.tapMeter m).baseline ∧ delta y.count (s.tapMeter m).baseline ≤ 2 * s.elapsed r.address := by
  simp only [tapFlows, flows, Bool.and_eq_true, decide_eq_true_eq]

theorem elapsed_eq (s : State) (a : Nat) :
    s.elapsed a =
      max 1 (match (s.link a).lastGood with | some x => (s.uptime - x) / 256 | none => s.uptime / 256) := by
  unfold State.elapsed
  cases (s.link a).lastGood <;> rfl

theorem returnNotices_eq (a : Nat) (s : State) :
    returnNotices a s =
      if (s.link a).link = .lost then
        [.pedestalReturn a
          (match (s.link a).lastGood with
            | some x => (s.uptime - x) / 256 | none => Config.returnSecondsUnreported s.uptime)]
      else [] := by
  unfold returnNotices State.returnSeconds
  cases (s.link a).lastGood <;> rfl

/-- Settles O34: the counts of a good reply, its hand-over and its presses in turn; other bytes are not taken. -/
theorem pollReplyIsTaken : Obligations.PollReplyIsTaken := by
  unfold Obligations.PollReplyIsTaken
  refine ⟨fun m limit count hb hc => ?meter, fun n s => ⟨fun closed => ?closed, fun x open_ => ?opened⟩,
    fun bytes p s running poll => ⟨fun r good address configured first => ?good, fun inWindow h => ?ignored⟩,
    fun bytes inWindow s running poll => pollReply_idle running (pollReply_unasked poll)⟩
  case meter =>
    have difference := delta_eq hb hc
    refine ⟨difference, rfl, fun plausible => ?_, fun jump => ?_⟩
    · rw [← difference] at plausible ⊢
      exact take_unsettled_of_plausible plausible
    · rw [← difference] at jump
      exact take_unsettled_of_jump jump
  case closed =>
    refine ⟨fun berth => ?_, fun b berth => ⟨fun cls => ?_, fun cls arrived => ?_, fun k cls arrived => ?_⟩⟩
    · rw [pressTap_without_berth closed berth]
      exact raise_refused ..
    · rw [pressTap_at_service closed berth cls]
      exact openTap_opened ..
    · rw [pressTap_without_arrival closed berth cls arrived]
      exact raise_refused ..
    · rw [pressTap_of_arrival closed berth cls arrived]
      refine ⟨fun held => ?_, fun free => ?_⟩
      · rw [if_pos held]
        exact raise_refused ..
      · rw [if_neg free]
        exact openTap_opened ..
  case opened =>
    rw [pressTap_of_open open_]
    exact ⟨closeTap_of_open open_ .button, closeTap_run ..⟩
  case ignored => exact pollReply_idle running (pollReply_ignored poll h)
  case good =>
    rw [← address]
    intro l elapsed counted handover
    obtain ⟨x0, x1, x2, x3, y0, y1, sockets, taps⟩ := goodReply_readings good
    have elapsedIs : elapsed = s.elapsed r.address := (elapsed_eq s r.address).symm
    have handoverIs : handover = s.handover r.address := (handover_eq s r.address).symm
    clear_value elapsed handover
    subst elapsedIs handoverIs
    have noted := countReport_noted s sockets taps
    have taken := pollReply_taken poll good address configured first
    obtain ⟨t, hx, reply, left⟩ := event_leaves (i := .pollReply bytes true) (f := pollReply bytes true) (s := s) rfl
      running (by rw [taken]; exact goodReport_speaks p s taps sockets)
    rw [taken] at left
    obtain ⟨asked, replied, link, socketBaseline, tapBaseline⟩ := goodReport_line p s taps
    have pdl := left.pdl
    refine ⟨noted.sameBut, countReport_pdl r s, countReport_link r s,
      fun k x hk hr => countReport_socketMeter s sockets taps hk hr,
      fun k x hk hr => countReport_tapMeter s sockets taps hk hr,
      ?raises, t, hx, reply, left.sameBut (goodReport_sameBut (fun _ h => h) p r s), by rw [pdl, asked, poll],
      by rw [pdl, replied], ?taps, fun j => ?link, fun k x hk hr => ⟨?_, ?_⟩, fun k x hk hr => ⟨?_, ?_⟩⟩
    case raises =>
      intro x0 x1 x2 x3 y0 y1 sockets taps
      have raises := (countReport_noted s sockets taps).raises
      rw [returnNotices_eq] at raises
      exact raises
    case taps =>
      intro y0 y1 taps n pressed after flows
      have rest := goodReport_rest p s taps
      have acu := left.acu
      have far := left.far
      have gtc := left.gtc
      have outgoing := left.outgoing
      rw [rest] at acu far gtc outgoing
      refine ⟨acu, far, gtc, outgoing, ?_, fun m => ?_, fun m => ?_⟩
      · rw [pdl, rest]
        rfl
      · have run : t.run m = (goodReport p r s).run m := by rw [State.run, pdl]; rfl
        have flowing := goodReport_run p s taps (m := m)
        simp only [tapFlows_iff] at flowing
        rw [run]
        exact flowing
      · have ack : t.ack m = (goodReport p r s).ack m := by rw [State.ack, pdl]; rfl
        rw [ack]
        exact goodReport_ack p s taps
    case link =>
      rw [State.link, pdl]
      exact (link j).trans (countReport_link r s j)
    · rw [State.socketMeter, pdl]
      exact (socketBaseline _).trans (congrArg Meter.baseline (countReport_socketMeter s sockets taps hk hr))
    · rw [State.report, pdl]
      exact goodReport_report p s taps sockets hk hr
    · rw [State.tapMeter, pdl]
      exact (tapBaseline _).trans (congrArg Meter.baseline (countReport_tapMeter s sockets taps hk hr))
    · intro press
      rw [State.ack, pdl]
      exact (goodReport_ack p s taps).1 (pressTaken_of_press taps hk hr press)

end Sys2Proof.Machine
end

section
/-! SUPPORT. What the sockets hold of a feeder's reserved sum (R106): the sum socket by socket, and how it moves with one
socket's record. -/

namespace Sys2Proof.Machine

/-- What a socket holds of a feeder's reserved sum. -/
def State.drawn (s : State) (f n : Nat) : Nat := if s.feederOf n = f then (s.socket n).reservation.getD 0 else 0

/-- The indices of the sockets a state lists. -/
def State.listedSockets (s : State) : Finset Nat := (s.far.sockets.map (·.1)).toFinset

theorem sum_map_filter_eq {α : Type} (l : List α) (p : α → Bool) (g : α → Nat) :
    ((l.filter p).map g).sum = (l.map fun x => if p x then g x else 0).sum := by
  induction l with
  | nil => rfl
  | cons x rest ih =>
    by_cases h : p x
    · simp [h, ih]
    · simp [h, ih]

section
variable {s t : State} {f n : Nat}

theorem drawn_of_unlisted (h : n ∉ s.listedSockets) : s.drawn f n = 0 := by
  have start : s.socket n = startSocket := by
    refine tableGet_of_unlisted _ _ _ fun e he hn => h ?_
    exact List.mem_toFinset.2 (List.mem_map.2 ⟨e, he, hn⟩)
  rw [State.drawn, start]
  split <;> rfl

theorem reservedOn_eq_sum (form : tableOk startSocket s.far.sockets = true) {l : Finset Nat} (sub : s.listedSockets ⊆ l) :
    s.reservedOn f = ∑ i ∈ l, s.drawn f i := by
  have nodup : (s.far.sockets.map (·.1)).Nodup := List.pairwise_map.2 ((tableOk_ascending form).imp Nat.ne_of_lt)
  have entries : s.reservedOn f = ((s.far.sockets.map (·.1)).map (s.drawn f)).sum := by
    rw [State.reservedOn, sum_map_filter_eq, List.map_map]
    refine congrArg List.sum (List.map_congr_left fun e he => ?_)
    have own : s.socket e.1 = e.2 := tableGet_of_mem form he
    simp [State.drawn, own]
  rw [entries, ← List.sum_toFinset _ nodup]
  exact Finset.sum_subset sub fun i _ hi => drawn_of_unlisted hi

/-- R106: where one socket's record differs, the sum differs by what that socket holds. -/
theorem reservedOn_add_drawn (hs : tableOk startSocket s.far.sockets = true) (ht : tableOk startSocket t.far.sockets = true)
    (others : ∀ j, j ≠ n → t.drawn f j = s.drawn f j) :
    t.reservedOn f + s.drawn f n = s.reservedOn f + t.drawn f n := by
  let l := insert n (s.listedSockets ∪ t.listedSockets)
  have mem : n ∈ l := Finset.mem_insert_self ..
  have first : s.reservedOn f = ∑ i ∈ l, s.drawn f i :=
    reservedOn_eq_sum hs (Finset.subset_union_left.trans (Finset.subset_insert ..))
  have second : t.reservedOn f = ∑ i ∈ l, t.drawn f i :=
    reservedOn_eq_sum ht (Finset.subset_union_right.trans (Finset.subset_insert ..))
  have rest : ∑ i ∈ l.erase n, t.drawn f i = ∑ i ∈ l.erase n, s.drawn f i :=
    Finset.sum_congr rfl fun j hj => others j (Finset.ne_of_mem_erase hj)
  rw [first, second, ← Finset.add_sum_erase l _ mem, ← Finset.add_sum_erase l (s.drawn f) mem, rest]
  omega

/-- R106: no socket holds more than its feeder's sum. -/
theorem drawn_le_reservedOn (form : tableOk startSocket s.far.sockets = true) : s.drawn f n ≤ s.reservedOn f := by
  rw [reservedOn_eq_sum form (Finset.subset_insert n _)]
  exact Finset.single_le_sum (f := s.drawn f) (fun _ _ => Nat.zero_le _) (Finset.mem_insert_self ..)

theorem reservedOn_eq_zero (form : tableOk startSocket s.far.sockets = true) (none : ∀ n, s.drawn f n = 0) :
    s.reservedOn f = 0 := by
  rw [reservedOn_eq_sum form (Finset.Subset.refl _)]
  exact Finset.sum_eq_zero fun i _ => none i

end

end Sys2Proof.Machine
end

section
/-! SUPPORT. What every step keeps of the feeders (O60): the form of the feeders' tables and sums, apart from the limit; how a
write of one socket and its feeder keeps it; and the relation that the operations of the FAR and the charges meet. -/

namespace Sys2Proof.Machine

/-! ## The form apart from the limit -/

/-- What every step keeps of the feeders, but for the limit, which a lowered one may pass until sockets are shed (R129). -/
structure FeedersForm (s : State) : Prop where
  sockets : tableOk startSocket s.far.sockets = true
  static : tableOk coldSocketCfg s.pdl.sockets = true
  held : ∀ n, (s.socket n).reservation.isSome = (s.socket n).supplied
  reserved : ∀ f, (s.feeder f).reserved = s.reservedOn f
  queues : PendingSound s
  ascending : ∀ f, (s.feeder f).pending.Pairwise (· < ·)
  plugs : ∀ n, (s.socket n).state = .pending → s.plugged n = true

/-- R106: a feeder's reserved sum is within its limit. -/
def State.Within (s : State) (f : Nat) : Prop := (s.feeder f).reserved ≤ (s.feederCfg f).limit

theorem FeedersSound.form {s : State} (h : FeedersSound s) : FeedersForm s :=
  ⟨h.sockets, h.static, h.held, h.reserved, h.pendingSound, h.ascending, h.plugs⟩

theorem FeedersForm.sound {s : State} (h : FeedersForm s) (within : ∀ f, s.Within f) : FeedersSound s :=
  ⟨h.sockets, h.static, h.held, h.reserved, within, h.queues.pending, h.ascending, h.queues.blocking, h.plugs⟩

section
variable {s : State} {n : Nat} (form : FeedersForm s)
include form

theorem FeedersForm.reservation_of_unsupplied (h : (s.socket n).supplied = false) : (s.socket n).reservation = none := by
  refine Option.not_isSome_iff_eq_none.1 ?_
  rw [form.held, h]
  decide

theorem FeedersForm.drawn_le (f : Nat) : s.drawn f n ≤ (s.feeder f).reserved := by
  rw [form.reserved]
  exact drawn_le_reservedOn form.sockets

end

/-! ## A write of one socket and its feeder -/

/-- But for one socket, every socket keeps its state and its reservation, and the line is as it was. -/
structure OnlySocket (n : Nat) (s t : State) : Prop where
  table : tableOk startSocket s.far.sockets = true → tableOk startSocket t.far.sockets = true
  pdl : t.pdl = s.pdl
  cfg : t.far.cfg = s.far.cfg
  states : ∀ j, j ≠ n → (t.socket j).state = (s.socket j).state
  reservations : ∀ j, j ≠ n → (t.socket j).reservation = (s.socket j).reservation

namespace OnlySocket

variable {n : Nat} {s t u : State}

theorem of_far (pdl : t.pdl = s.pdl) (sockets : t.far.sockets = s.far.sockets) (cfg : t.far.cfg = s.far.cfg) :
    OnlySocket n s t := by
  have same (j : Nat) : t.socket j = s.socket j := by rw [State.socket, sockets]; rfl
  exact ⟨fun h => by rw [sockets]; exact h, pdl, cfg, fun j _ => by rw [same], fun j _ => by rw [same]⟩

theorem refl (s : State) : OnlySocket n s s := of_far rfl rfl rfl

theorem trans (h : OnlySocket n s t) (k : OnlySocket n t u) : OnlySocket n s u :=
  ⟨k.table ∘ h.table, k.pdl.trans h.pdl, k.cfg.trans h.cfg, fun j hj => (k.states j hj).trans (h.states j hj),
    fun j hj => (k.reservations j hj).trans (h.reservations j hj)⟩

theorem foldl {α : Type} (f : State → α → State) (h : ∀ s a, OnlySocket n s (f s a)) (l : List α) (s : State) :
    OnlySocket n s (l.foldl f s) := foldl_keeps refl trans f h l s

theorem setFeeder (h : OnlySocket n s t) (f : Nat) (x : Feeder) : OnlySocket n s (t.setFeeder f x) :=
  h.trans (of_far rfl rfl rfl)

theorem raise (h : OnlySocket n s t) (b : NoticeBody) : OnlySocket n s (t.raise b) := h.trans (of_far rfl rfl rfl)

/-- The socket itself is written. -/
theorem setSocket (h : OnlySocket n s t) (x : Socket) : OnlySocket n s (t.setSocket n x) := by
  have other (j : Nat) (hj : j ≠ n) : (t.setSocket n x).socket j = t.socket j :=
    (State.socket_setSocket ..).trans (if_neg hj)
  exact h.trans ⟨tableOk_tableSet _ _ _ _, rfl, rfl, fun j hj => by rw [other j hj], fun j hj => by rw [other j hj]⟩

/-- Another socket is written in its other fields. -/
theorem setOther (h : OnlySocket n s t) {m : Nat} {x : Socket} (state : x.state = (t.socket m).state)
    (reservation : x.reservation = (t.socket m).reservation) : OnlySocket n s (t.setSocket m x) := by
  refine h.trans ⟨tableOk_tableSet _ _ _ _, rfl, rfl, fun j _ => ?_, fun j _ => ?_⟩
  all_goals
    rw [State.socket_setSocket]
    split
    · next hj => rw [hj]; assumption
    · rfl

/-- R103: a renumbering writes stamps only. -/
theorem takeStamp (s : State) : OnlySocket n s (takeStamp s).1 := by
  unfold Machine.takeStamp
  dsimp only
  split
  · have renumbered : OnlySocket n s (((stampOrder s).zipIdx 1).foldl stampEntry s) :=
      .foldl stampEntry (fun t e => (refl t).setOther rfl rfl) _ s
    exact renumbered.trans (of_far rfl rfl rfl)
  · exact of_far rfl rfl rfl

theorem feederOf (h : OnlySocket n s t) (j : Nat) : t.feederOf j = s.feederOf j :=
  feederOf_of_pedestals_eq (by rw [h.pdl]) j

theorem feederCfg (h : OnlySocket n s t) (f : Nat) : t.feederCfg f = s.feederCfg f := by rw [State.feederCfg, h.cfg]; rfl

theorem supplied (h : OnlySocket n s t) {j : Nat} (hj : j ≠ n) : (t.socket j).supplied = (s.socket j).supplied := by
  simp only [Socket.supplied, h.states j hj]

theorem drawn (h : OnlySocket n s t) (f : Nat) {j : Nat} (hj : j ≠ n) : t.drawn f j = s.drawn f j := by
  rw [State.drawn, h.feederOf, h.reservations j hj]
  rfl

end OnlySocket

/-- The form is kept where one socket's record moves, the sums with it, and the pending sets stay sound. -/
theorem FeedersForm.write {n : Nat} {s t : State} (form : FeedersForm s) (only : OnlySocket n s t)
    (held : (t.socket n).reservation.isSome = (t.socket n).supplied)
    (reserved : ∀ f, (t.feeder f).reserved + s.drawn f n = (s.feeder f).reserved + t.drawn f n)
    (queues : PendingSound t) (ascending : ∀ f, (t.feeder f).pending.Pairwise (· < ·))
    (plug : (t.socket n).state = .pending → s.plugged n = true) : FeedersForm t where
  sockets := only.table form.sockets
  static := by rw [only.pdl]; exact form.static
  held j := by
    by_cases hj : j = n
    · rw [hj, held]
    · rw [only.reservations j hj, only.supplied hj, form.held]
  reserved f := by
    have moved := reservedOn_add_drawn (f := f) form.sockets (only.table form.sockets) fun j hj => only.drawn f hj
    have := reserved f
    rw [form.reserved f] at this
    omega
  queues := queues
  ascending := ascending
  plugs j pending := by
    have same : t.plugged j = s.plugged j := by rw [State.plugged, State.report, only.pdl]; rfl
    rw [same]
    by_cases hj : j = n
    · exact hj ▸ plug (hj ▸ pending)
    · exact form.plugs j (only.states j hj ▸ pending)

/-! ## What the operations of the FAR and the charges keep -/

/-- The form stays; no feeder that is within its limit passes it; a feeder above its limit has no further socket supplied
while it is above; and a SHED, TRIPPED or LOCKED socket keeps its record. -/
structure SumsKept (s t : State) : Prop where
  form : FeedersForm t
  cfg : t.far.cfg = s.far.cfg
  pedestals : t.pdl.pedestals = s.pdl.pedestals
  within : ∀ f, s.Within f → t.Within f
  full : ∀ f, t.Within f ∨ ∀ n, s.feederOf n = f → (t.socket n).supplied = true → (s.socket n).supplied = true
  rests : ∀ n, (s.socket n).state.judgeable = false → (s.socket n).supplied = false → t.socket n = s.socket n

/-- An operation keeps the sums of a state in the form. -/
structure KeepsSums (s t : State) : Prop where
  kept : FeedersForm s → SumsKept s t

/-- Nothing differs that bears on the feeders. -/
structure Aside (s t : State) : Prop where
  far : t.far = s.far
  pedestals : t.pdl.pedestals = s.pdl.pedestals
  sockets : t.pdl.sockets = s.pdl.sockets
  reports : t.pdl.reports = s.pdl.reports

namespace Aside

variable {s t u : State}

theorem refl (s : State) : Aside s s := ⟨rfl, rfl, rfl, rfl⟩

theorem trans (h : Aside s t) (k : Aside t u) : Aside s u :=
  ⟨k.far.trans h.far, k.pedestals.trans h.pedestals, k.sockets.trans h.sockets, k.reports.trans h.reports⟩

theorem foldl {α : Type} (f : State → α → State) (h : ∀ s a, Aside s (f s a)) (l : List α) (s : State) :
    Aside s (l.foldl f s) := foldl_keeps refl trans f h l s

theorem ite {c : Prop} [Decidable c] (h : Aside s t) (k : Aside s u) : Aside s (if c then t else u) := by
  split
  · exact h
  · exact k

theorem raise (h : Aside s t) (b : NoticeBody) : Aside s (t.raise b) := h.trans ⟨rfl, rfl, rfl, rfl⟩

/-- An operation that works neither on the feeders nor on the line. -/
theorem of_sameBut {parts : List Part} (h : SameBut parts s t) (feeders : Part.feeders ∉ parts := by decide)
    (line : Part.line ∉ parts := by decide) : Aside s t := by
  have pdl := h.line.resolve_left line
  exact ⟨h.feeders.resolve_left feeders, by rw [pdl], by rw [pdl], by rw [pdl]⟩

theorem of_gatesOnly (h : GatesOnly s t) : Aside s t := by
  rw [h.blocks]
  exact ⟨rfl, rfl, rfl, rfl⟩

theorem socket (h : Aside s t) (n : Nat) : t.socket n = s.socket n := by rw [State.socket, h.far]; rfl
theorem feeder (h : Aside s t) (f : Nat) : t.feeder f = s.feeder f := by rw [State.feeder, h.far]; rfl
theorem feederCfg (h : Aside s t) (f : Nat) : t.feederCfg f = s.feederCfg f := by rw [State.feederCfg, h.far]; rfl
theorem feederOf (h : Aside s t) (n : Nat) : t.feederOf n = s.feederOf n := feederOf_of_pedestals_eq h.pedestals n
theorem plugged (h : Aside s t) (n : Nat) : t.plugged n = s.plugged n := by
  rw [State.plugged, State.report, h.reports]
  rfl

theorem within (h : Aside s t) (f : Nat) : t.Within f ↔ s.Within f := by rw [State.Within, h.feeder, h.feederCfg]; rfl

theorem form (h : Aside s t) (form : FeedersForm s) : FeedersForm t where
  sockets := by rw [h.far]; exact form.sockets
  static := by rw [h.sockets]; exact form.static
  held n := by rw [h.socket, form.held]
  reserved f := by
    rw [h.feeder, form.reserved]
    simp only [State.reservedOn, h.far, h.feederOf]
  queues := (SameQueues.of_blocks h.far h.pedestals).sound form.queues
  ascending f := by rw [h.feeder]; exact form.ascending f
  plugs n pending := by
    rw [h.plugged]
    exact form.plugs n (h.socket n ▸ pending)

end Aside

namespace KeepsSums

variable {s t u : State}

theorem of_aside (h : Aside s t) : KeepsSums s t where
  kept form :=
    { form := h.form form
      cfg := by rw [h.far]
      pedestals := h.pedestals
      within := fun f => (h.within f).2
      full := fun _ => .inr fun n _ supplied => h.socket n ▸ supplied
      rests := fun n _ _ => h.socket n }

theorem refl (s : State) : KeepsSums s s := of_aside (.refl s)

theorem trans (h : KeepsSums s t) (k : KeepsSums t u) : KeepsSums s u where
  kept form := by
    have first := h.kept form
    have second := k.kept first.form
    have feederOf := feederOf_of_pedestals_eq first.pedestals
    refine ⟨second.form, second.cfg.trans first.cfg, second.pedestals.trans first.pedestals,
      fun f hf => second.within f (first.within f hf), fun f => ?_, fun n moved unsupplied => ?_⟩
    · rcases second.full f, first.full f with ⟨hf | later, hf' | earlier⟩
      · exact .inl hf
      · exact .inl hf
      · exact .inl (second.within f hf')
      · exact .inr fun n on supplied => earlier n on (later n ((feederOf n).trans on) supplied)
    · have same := first.rests n moved unsupplied
      exact (second.rests n (same ▸ moved) (same ▸ unsupplied)).trans same

theorem foldl {α : Type} (f : State → α → State) (h : ∀ s a, KeepsSums s (f s a)) (l : List α) (s : State) :
    KeepsSums s (l.foldl f s) := foldl_keeps refl trans f h l s

theorem ite {c : Prop} [Decidable c] (h : KeepsSums s t) (k : KeepsSums s u) : KeepsSums s (if c then t else u) := by
  split
  · exact h
  · exact k

/-- What follows does not bear on the feeders. -/
theorem andThen (h : KeepsSums s t) (k : Aside t u) : KeepsSums s u := h.trans (of_aside k)

/-- What comes before does not bear on the feeders. -/
theorem after (h : KeepsSums t u) (k : Aside s t) : KeepsSums s u := (of_aside k).trans h

theorem raise (h : KeepsSums s t) (b : NoticeBody) : KeepsSums s (t.raise b) := h.andThen ((Aside.refl t).raise b)

/-- A premise that the form gives may be used. -/
theorem of_form (h : FeedersForm s → KeepsSums s t) : KeepsSums s t := ⟨fun form => (h form).kept form⟩

end KeepsSums

/-- An operation keeps the feeders' sums within their limits. -/
structure KeepsFeeders (s t : State) : Prop where
  sound : FeedersSound s → FeedersSound t

theorem KeepsSums.feeders {s t : State} (h : KeepsSums s t) : KeepsFeeders s t where
  sound sound := (h.kept sound.form).form.sound fun f => (h.kept sound.form).within f (sound.limit f)

namespace KeepsFeeders

variable {s t u : State}

theorem of_aside (h : Aside s t) : KeepsFeeders s t := (KeepsSums.of_aside h).feeders

theorem refl (s : State) : KeepsFeeders s s := ⟨id⟩

theorem trans (h : KeepsFeeders s t) (k : KeepsFeeders t u) : KeepsFeeders s u := ⟨k.sound ∘ h.sound⟩

theorem foldl {α : Type} (f : State → α → State) (h : ∀ s a, KeepsFeeders s (f s a)) (l : List α) (s : State) :
    KeepsFeeders s (l.foldl f s) := foldl_keeps refl trans f h l s

theorem ite {c : Prop} [Decidable c] (h : KeepsFeeders s t) (k : KeepsFeeders s u) :
    KeepsFeeders s (if c then t else u) := by
  split
  · exact h
  · exact k

/-- What follows does not bear on the feeders. -/
theorem andThen (h : KeepsFeeders s t) (k : Aside t u) : KeepsFeeders s u := h.trans (of_aside k)

/-- What comes before does not bear on the feeders. -/
theorem after (h : KeepsFeeders t u) (k : Aside s t) : KeepsFeeders s u := (of_aside k).trans h

theorem raise (h : KeepsFeeders s t) (b : NoticeBody) : KeepsFeeders s (t.raise b) := h.andThen ((Aside.refl t).raise b)

/-- A premise that the invariant gives may be used. -/
theorem of_sound (h : FeedersSound s → KeepsFeeders s t) : KeepsFeeders s t := ⟨fun sound => (h sound).sound sound⟩

end KeepsFeeders

end Sys2Proof.Machine
end

section
/-! SUPPORT. The operations of the FAR keep the feeders' sums (O60): a grant (R112), the search (R110), the pending sets and
the re-evaluation (R105), and the charges that may cause them (R49 to R51, R63). -/

namespace Sys2Proof.Machine

theorem drawn_of_no_reservation {s : State} {n : Nat} (h : (s.socket n).reservation = none) (f : Nat) : s.drawn f n = 0 := by
  rw [State.drawn, h]
  split <;> rfl

theorem unsupplied_of_judgeable {k : Socket} (h : k.state.judgeable = true) : k.supplied = false := by
  cases hs : k.supplied with
  | false => rfl
  | true => rcases (supplied_iff k).1 hs with hk | hk <;> rw [hk] at h <;> cases h

theorem not_pending_of_supplied {k : Socket} (h : k.supplied = true) : k.state ≠ .pending := by
  rcases (supplied_iff k).1 h with hk | hk <;> rw [hk] <;> decide

/-! ## A grant (R112) -/

section
variable (f n : Nat) (skipped : List Nat) (s : State)

theorem grantedSockets_onlySocket : OnlySocket n s (grantedSockets f n skipped s) := by
  have granted : OnlySocket n s (grantedOnly n s) := (OnlySocket.takeStamp s).setSocket _
  cases h : (s.feeder f).blocking with
  | some m => exact grantedSockets_of_blocking h n skipped ▸ granted
  | none =>
    rw [grantedSockets_of_none h]
    exact granted.trans (.foldl countBypass (fun t _ => (OnlySocket.refl t).setOther rfl rfl) skipped _)

theorem grant_onlySocket : OnlySocket n s (grant f n skipped s) := by
  rw [grant_written]
  exact ((grantedSockets_onlySocket f n skipped s).setFeeder ..).raise _

variable {f n skipped s}

theorem grant_socket_of_unlisted {j : Nat} (out : j ∉ skipped) :
    (grant f n skipped s).socket j = (grantedOnly n s).socket j := by
  rw [grant_socket]
  cases h : (s.feeder f).blocking with
  | some m => rw [grantedSockets_of_blocking h]
  | none => rw [grantedSockets_of_none h, countAll_socket_of_unlisted out]

theorem grant_keepsSums (hp : s.pass f = some (n, skipped)) : KeepsSums s (grant f n skipped s) where
  kept form := by
    have only := grant_onlySocket f n skipped s
    obtain ⟨chosen, passed⟩ := pass_mem form.queues hp
    obtain ⟨pending, on⟩ := form.queues.pending f n chosen
    have unsupplied : (s.socket n).supplied = false := unsupplied_of_judgeable (by rw [pending]; rfl)
    have own : (grant f n skipped s).socket n = (grantedOnly n s).socket n :=
      grant_socket_of_unlisted fun h => (passed n h).2 rfl
    rw [grantedOnly_socket_self] at own
    have fits := (grant_within hp).1
    have before (g : Nat) : s.drawn g n = 0 := drawn_of_no_reservation (form.reservation_of_unsupplied unsupplied) g
    have after (g : Nat) : (grant f n skipped s).drawn g n = if g = f then s.reservation n else 0 := by
      rw [State.drawn, only.feederOf, on, own]
      exact if_congr eq_comm rfl rfl
    refine
      { form := form.write only (by rw [own]; rfl) (fun g => ?_) (grant_pendingSound form.queues chosen passed) (fun g => ?_)
          (fun h => by rw [own] at h; cases h)
        cfg := only.cfg
        pedestals := by rw [only.pdl]
        within := fun g hg => ?_
        full := fun g => ?_
        rests := fun j still unsupplied => ?_ }
    · rw [before, after, grant_feeder]
      split <;> next h => simp [h, grantedFeeder]
    · rw [grant_feeder]
      split
      · exact (form.ascending f).filter _
      · exact form.ascending g
    · by_cases h : g = f
      · exact h ▸ fits
      · rw [State.Within, grant_feeder, if_neg h, only.feederCfg]
        exact hg
    · by_cases h : g = f
      · exact .inl (h ▸ fits)
      · refine .inr fun j hj supplied => only.supplied (n := n) (fun e => h ?_) ▸ supplied
        rw [← hj, e, on]
    · have unqueued : j ∉ (s.feeder f).pending := fun h => by
        rw [(form.queues.pending f j h).1] at still
        cases still
      rw [grant_socket_of_unlisted fun h => unqueued (passed j h).1, grantedOnly_socket_other fun h : j = n => unqueued (h ▸ chosen)]
      exact takeStamp_socket_of_unsupplied form.sockets unsupplied

end

/-- R106, R110: a search. -/
theorem grantSearch_keepsSums (f : Nat) (s : State) : KeepsSums s (grantSearch f s) := by
  unfold grantSearch
  generalize (s.feeder f).pending.length + 1 = fuel
  induction fuel generalizing s with
  | zero => exact .refl s
  | succ fuel ih =>
    rw [searchPasses]
    split
    · exact .refl s
    · next hp => exact (grant_keepsSums hp).trans (ih _)

/-! ## A socket that is not supplied moves (R105) -/

/-- R105: a socket that R105 judges takes another state without supply. -/
theorem KeepsSums.of_unsupplied {n : Nat} {x : Socket} {s t : State} (judgeable : (s.socket n).state.judgeable = true)
    (socket : ∀ j, t.socket j = if j = n then x else s.socket j) (unsupplied : x.supplied = false)
    (reservation : x.reservation = (s.socket n).reservation) (plug : x.state = .pending → s.plugged n = true)
    (only : OnlySocket n s t) (reserved : ∀ f, (t.feeder f).reserved = (s.feeder f).reserved)
    (queues : PendingSound s → PendingSound t)
    (ascending : (∀ f, (s.feeder f).pending.Pairwise (· < ·)) → ∀ f, (t.feeder f).pending.Pairwise (· < ·)) :
    KeepsSums s t where
  kept form := by
    have own : t.socket n = x := (socket n).trans (if_pos rfl)
    have other {j : Nat} (hj : j ≠ n) : t.socket j = s.socket j := (socket j).trans (if_neg hj)
    have none : (s.socket n).reservation = none := form.reservation_of_unsupplied (unsupplied_of_judgeable judgeable)
    refine
      { form := form.write only (by rw [own, reservation, none, unsupplied]; rfl) (fun f => ?_) (queues form.queues)
          (ascending form.ascending) (fun h => plug (own ▸ h))
        cfg := only.cfg
        pedestals := by rw [only.pdl]
        within := fun f hf => by rw [State.Within, reserved, only.feederCfg]; exact hf
        full := fun f => .inr fun j _ supplied => ?_
        rests := fun j still _ => other fun h => ?_ }
    · rw [reserved, drawn_of_no_reservation none, drawn_of_no_reservation (by rw [own, reservation, none])]
    · refine (other fun h => ?_) ▸ supplied
      rw [h, own, unsupplied] at supplied
      cases supplied
    · rw [h, judgeable] at still
      cases still

section
variable {n : Nat} {s : State} {dest : SocketState}

theorem insertAsc_ascending {l : List Nat} (h : l.Pairwise (· < ·)) (n : Nat) : (insertAsc l n).Pairwise (· < ·) := by
  induction l with
  | nil => exact List.pairwise_singleton ..
  | cons m rest ih =>
    obtain ⟨above, ascending⟩ := List.pairwise_cons.1 h
    rw [insertAsc]
    split
    · next first =>
      refine List.pairwise_cons.2 ⟨fun k hk => ?_, h⟩
      rcases List.mem_cons.1 hk with rfl | hk
      · exact first
      · exact first.trans (above k hk)
    · split
      · exact h
      · refine List.pairwise_cons.2 ⟨fun k hk => ?_, ih ascending⟩
        rcases (mem_insertAsc rest k).1 hk with rfl | hk
        · omega
        · exact above k hk

theorem placePending_feeder (n f : Nat) (s : State) : (placePending n s).feeder f =
    if f = s.feederOf n then { s.feeder f with pending := insertAsc (s.feeder f).pending n } else s.feeder f := by
  refine (State.feeder_setFeeder ..).trans ?_
  split
  · next h =>
    rw [h]
    rfl
  · rfl

theorem placePending_keepsSums (judgeable : (s.socket n).state.judgeable = true) (plug : s.plugged n = true) :
    KeepsSums s (placePending n s) := by
  refine .of_unsupplied judgeable (fun j => placePending_socket n j s) rfl rfl (fun _ => plug)
    (((OnlySocket.refl s).setSocket _).setFeeder ..) (fun f => ?_) placePending_pendingSound (fun ascending f => ?_)
  · rw [placePending_feeder]
    split <;> rfl
  · rw [placePending_feeder]
    split
    · exact insertAsc_ascending (ascending f) n
    · exact ascending f

theorem dropPending_feeder (n : Nat) (dest : SocketState) (f : Nat) (s : State) : (dropPending n dest s).feeder f =
    if f = s.feederOf n then
      { s.feeder f with
        pending := (s.feeder f).pending.filter fun m => decide (m ≠ n)
        blocking := if (s.feeder f).blocking = some n then none else (s.feeder f).blocking }
    else s.feeder f := by
  refine (State.feeder_setFeeder ..).trans ?_
  split
  · next h => rw [h]
  · rfl

theorem dropPending_onlySocket (n : Nat) (dest : SocketState) (s : State) : OnlySocket n s (dropPending n dest s) :=
  ((OnlySocket.refl s).setSocket _).setFeeder ..

theorem dropPending_reserved (n : Nat) (dest : SocketState) (f : Nat) (s : State) :
    ((dropPending n dest s).feeder f).reserved = (s.feeder f).reserved := by
  rw [dropPending_feeder]
  split <;> rfl

theorem dropPending_ascending (n : Nat) (dest : SocketState) {s : State}
    (ascending : ∀ f, (s.feeder f).pending.Pairwise (· < ·)) (f : Nat) :
    ((dropPending n dest s).feeder f).pending.Pairwise (· < ·) := by
  rw [dropPending_feeder]
  split
  · exact (ascending f).filter _
  · exact ascending f

theorem dropPending_keepsSums (judgeable : (s.socket n).state.judgeable = true) (out : dest ≠ .pending)
    (unsupplied : ({ s.socket n with state := dest, bypass := 0 } : Socket).supplied = false) :
    KeepsSums s (dropPending n dest s) :=
  .of_unsupplied judgeable (fun j => dropPending_socket n j dest s) unsupplied rfl (fun h => absurd h out)
    (dropPending_onlySocket ..) (dropPending_reserved n dest · s) dropPending_pendingSound (dropPending_ascending n dest)

theorem withdraw_keepsSums (judgeable : (s.socket n).state.judgeable = true) (out : dest ≠ .pending)
    (unsupplied : dest.judgeable = true) : KeepsSums s (withdraw n dest s) :=
  have dropped := dropPending_keepsSums judgeable out (unsupplied_of_judgeable unsupplied)
  .ite (dropped.raise _) dropped

theorem setSocket_keepsSums {x : Socket} (judgeable : (s.socket n).state.judgeable = true)
    (rests : (s.socket n).state ≠ .pending) (unsupplied : x.supplied = false)
    (reservation : x.reservation = (s.socket n).reservation) (out : x.state ≠ .pending) :
    KeepsSums s (s.setSocket n x) :=
  .of_unsupplied judgeable (fun _ => State.socket_setSocket ..) unsupplied reservation (fun h => absurd h out)
    ((OnlySocket.refl s).setSocket x) (fun _ => rfl) (fun sound => setSocket_pendingSound sound rests) id

end

/-! ## Leaving in one step (R105, R113) -/

theorem withdrawAll_keepsSums {dest : Nat → SocketState} {l : List Nat} {s : State}
    (judgeable : ∀ n ∈ l, (s.socket n).state.judgeable = true) (dests : ∀ n ∈ l, dest n ≠ .pending)
    (unsupplied : ∀ n, (dest n).judgeable = true) : KeepsSums s (l.foldl (fun t n => withdraw n (dest n) t) s) := by
  induction l generalizing s with
  | nil => exact .refl s
  | cons n rest ih =>
    refine (withdraw_keepsSums (judgeable n List.mem_cons_self) (dests n List.mem_cons_self) (unsupplied n)).trans
      (ih (fun m hm => ?_) fun m hm => dests m (List.mem_cons_of_mem _ hm))
    rw [withdraw_socket_state]
    split
    · exact unsupplied n
    · exact judgeable m (List.mem_cons_of_mem _ hm)

theorem leaveAllPending_keepsSums {dest : Nat → SocketState} (unsupplied : ∀ n, (dest n).judgeable = true) (l : List Nat)
    (s : State) : KeepsSums s (leaveAllPending dest l s) := by
  have left : KeepsSums s ((leaving dest l s).foldl (fun t n => withdraw n (dest n) t) s) := by
    refine withdrawAll_keepsSums (fun n hn => ?_) (fun n hn => ((mem_leaving ..).1 hn).2.2) unsupplied
    rw [((mem_leaving ..).1 hn).2.1]
    rfl
  exact left.trans (.foldl _ (fun t _ => grantSearch_keepsSums _ t) _ _)

/-! ## Re-evaluation (R105) and the hold message (R51) -/

theorem judged_judgeable (s : State) (n : Nat) : (s.judged n).judgeable = true := by
  unfold State.judged
  repeat' split
  all_goals rfl

theorem plugged_of_judged {s : State} {n : Nat} (h : s.judged n = .pending) : s.plugged n = true := by
  rw [State.judged] at h
  split at h
  · cases h
  split at h
  · cases h
  · next plug => exact Bool.eq_true_of_not_eq_false plug

theorem reevaluate_keepsSums (n : Nat) (s : State) : KeepsSums s (reevaluate n s) := by
  unfold reevaluate
  dsimp only
  split
  · exact .refl s
  next judgeable =>
  replace judgeable : (s.socket n).state.judgeable = true := by simpa using judgeable
  split
  · next enters =>
    exact .ite (.refl s)
      ((placePending_keepsSums judgeable (plugged_of_judged enters)).trans (grantSearch_keepsSums ..))
  · next leaves =>
    split
    · exact leaveAllPending_keepsSums (fun _ => judged_judgeable s n) ..
    · next rests =>
      exact setSocket_keepsSums judgeable rests
        (unsupplied_of_judgeable (k := { s.socket n with state := s.judged n }) (judged_judgeable s n)) rfl leaves

theorem farHold_keepsSums (a : Nat) (s : State) : KeepsSums s (farHold a s) :=
  (leaveAllPending_keepsSums (judged_judgeable s) ..).trans (.foldl _ (fun t n => reevaluate_keepsSums n t) _ _)

theorem farEntitle_keepsSums (b : Nat) (s : State) : KeepsSums s (farEntitle b s) :=
  .foldl _ (fun t n => .ite (reevaluate_keepsSums n t) (.refl t)) _ _

theorem pedestalLostFar_keepsSums (l : List Nat) (s : State) : KeepsSums s (pedestalLostFar l s) :=
  leaveAllPending_keepsSums (judged_judgeable s) ..

/-! ## Postings and settlements (R49 to R51, R63) -/

section
variable {charge : Nat → Int → State → State} (h : ∀ a x s, KeepsSums s (charge a x s))
include h

theorem settleSocketBy_keepsSums (n : Nat) (s : State) : KeepsSums s (settleSocketBy charge n s) := by
  rw [settleSocketBy_eq]
  exact (h ..).after ⟨rfl, rfl, rfl, rfl⟩

theorem settleTapBy_keepsSums (n : Nat) (s : State) : KeepsSums s (settleTapBy charge n s) := by
  rw [settleTapBy_eq]
  exact (h ..).after ⟨rfl, rfl, rfl, rfl⟩

end

theorem closeTapBy_keepsSums {settle : Nat → State → State} (h : ∀ n s, KeepsSums s (settle n s)) (n : Nat) (c : TapCause)
    (s : State) : KeepsSums s (closeTapBy settle n c s) := by
  unfold closeTapBy
  split
  · exact .refl s
  · refine KeepsSums.raise ?_ _
    exact (h ..).after ⟨rfl, rfl, rfl, rfl⟩

theorem evaluateHold_aside (a : Nat) (s : State) : Aside s (evaluateHold a s).1 :=
  .of_sameBut (evaluateHold_sameBut (parts := [.accounts]) (by decide) a s)

theorem postOnly_aside (a : Nat) (x : Int) (s : State) : Aside s (postOnly a x s).1 :=
  .of_sameBut (postOnly_sameBut (parts := [.accounts]) (by decide) a x s)

theorem tellHold_keepsSums (a : Nat) (s : State) : KeepsSums s (tellHold a s) := by
  have closed (u : State) : KeepsSums u (pdlHold a u) :=
    .foldl _ (fun t n => closeTapBy_keepsSums (settleTapBy_keepsSums fun _ _ _ => .of_aside (postOnly_aside ..)) n _ t) _ u
  exact .ite (((farHold_keepsSums a s).trans (closed _)).andThen (.of_sameBut (gtcHold_gates a _))) (farHold_keepsSums a s)

theorem post_keepsSums (a : Nat) (x : Int) (s : State) : KeepsSums s (post a x s) :=
  .ite ((tellHold_keepsSums ..).after (postOnly_aside a x s)) (.of_aside (postOnly_aside a x s))

theorem evaluateAndTell_keepsSums (a : Nat) (s : State) : KeepsSums s (evaluateAndTell a s) :=
  .ite ((tellHold_keepsSums ..).after (evaluateHold_aside a s)) (.of_aside (evaluateHold_aside a s))

theorem settleSocket_keepsSums (n : Nat) (s : State) : KeepsSums s (settleSocket n s) :=
  settleSocketBy_keepsSums post_keepsSums n s

theorem settleTap_keepsSums (n : Nat) (s : State) : KeepsSums s (settleTap n s) := settleTapBy_keepsSums post_keepsSums n s

theorem closeTap_keepsSums (n : Nat) (c : TapCause) (s : State) : KeepsSums s (closeTap n c s) :=
  closeTapBy_keepsSums settleTap_keepsSums n c s

end Sys2Proof.Machine
end

section
/-! SUPPORT. The releases keep the feeders' sums (O60): a release and a shed (R118, R127), and the sheds to a lowered limit
(R129). -/

namespace Sys2Proof.Machine

/-! ## A release (R118) -/

section
variable {n : Nat} {land : Landing} {s : State}

theorem landed_onlySocket (n : Nat) (land : Landing) (f : Nat) (s : State) : OnlySocket n s (landed n land f s) :=
  ((OnlySocket.refl s).setFeeder ..).setSocket _

theorem landed_socket (n : Nat) (land : Landing) (f j : Nat) (s : State) :
    (landed n land f s).socket j = if j = n then landedSocket land (s.socket n) else s.socket j := State.socket_setSocket ..

theorem landed_feeder (n : Nat) (land : Landing) (f g : Nat) (s : State) : (landed n land f s).feeder g =
    if g = f then { s.feeder g with reserved := (s.feeder g).reserved - (s.socket n).reservation.getD 0 }
    else s.feeder g := by
  refine (State.feeder_setFeeder s f g _).trans ?_
  split
  · next h => rw [h]
  · rfl

/-- R118: a supplied socket takes a landing, and what it held is freed. -/
theorem landed_keepsSums (supplied : (s.socket n).supplied = true) (lands : (landedSocket land (s.socket n)).supplied = false)
    (out : land.state ≠ .pending) : KeepsSums s (landed n land (s.feederOf n) s) where
  kept form := by
    have only := landed_onlySocket n land (s.feederOf n) s
    have own : (landed n land (s.feederOf n) s).socket n = landedSocket land (s.socket n) :=
      (landed_socket ..).trans (if_pos rfl)
    have other {j : Nat} (hj : j ≠ n) : (landed n land (s.feederOf n) s).socket j = s.socket j :=
      (landed_socket ..).trans (if_neg hj)
    have after (f : Nat) : (landed n land (s.feederOf n) s).drawn f n = 0 := drawn_of_no_reservation (by rw [own]; rfl) f
    have queues : PendingSound (landed n land (s.feederOf n) s) :=
      landed_pendingSound form.queues (not_pending_of_supplied supplied)
    refine
      { form := form.write only (by rw [own, lands]; rfl) (fun f => ?_) queues (fun f => ?_)
          (fun h => by rw [own] at h; exact absurd h out)
        cfg := only.cfg
        pedestals := by rw [only.pdl]
        within := fun f hf => ?_
        full := fun f => .inr fun j _ later => ?_
        rests := fun j _ unsupplied => other fun h => ?_ }
    · have least := form.drawn_le (n := n) f
      rw [after, landed_feeder]
      by_cases on : s.feederOf n = f
      · subst on
        rw [State.drawn, if_pos rfl] at least ⊢
        rw [if_pos rfl]
        dsimp only
        omega
      · rw [State.drawn, if_neg on, if_neg (Ne.symm on)]
    · rw [landed_feeder]
      split <;> exact form.ascending f
    · rw [State.Within, landed_feeder, only.feederCfg]
      split
      · exact (Nat.sub_le ..).trans hf
      · exact hf
    · refine (other fun h => ?_) ▸ later
      rw [h, own, lands] at later
      cases later
    · rw [h, supplied] at unsupplied
      cases unsupplied

/-- R118: a release settles the socket's meter, frees what it held, and searches. -/
theorem release_eq (n : Nat) (land : Landing) (notice : Option NoticeBody) (s : State) :
    release n land notice s = grantSearch (s.feederOf n)
      (match notice with
        | some body => (landed n land (s.feederOf n) (settleSocket n s)).raise body
        | none => landed n land (s.feederOf n) (settleSocket n s)) := by
  cases notice <;> rfl

theorem settleSocket_supplied (queues : PendingSound s) (supplied : (s.socket n).supplied = true) (m : Nat) :
    ((settleSocket m s).socket n).supplied = true := by
  obtain ⟨stamp, kept⟩ := (settleSocket_untouched m s).others queues n (not_judgeable_of_supplied supplied)
  rw [kept]
  exact supplied

theorem release_keepsSums (supplied : (s.socket n).supplied = true) (notice : Option NoticeBody)
    (lands : land.state ∉ [SocketState.granted, .energised, .pending]) : KeepsSums s (release n land notice s) := by
  refine .of_form fun form => ?_
  have settled := settleSocket_keepsSums n s
  have feeder : (settleSocket n s).feederOf n = s.feederOf n := feederOf_of_pedestals_eq (settled.kept form).pedestals n
  have freed : KeepsSums s (landed n land (s.feederOf n) (settleSocket n s)) := by
    refine settled.trans ?_
    rw [← feeder]
    refine landed_keepsSums (settleSocket_supplied form.queues supplied n) ?_ fun h => lands (by simp [h])
    refine Bool.eq_false_iff.2 fun h => lands ?_
    rcases (supplied_iff _).1 h with (h : land.state = _) | (h : land.state = _) <;> simp [h]
  rw [release_eq]
  refine KeepsSums.trans ?_ (grantSearch_keepsSums ..)
  cases notice with
  | none => exact freed
  | some body => exact freed.raise body

/-- R118: a socket released to a state that no search and no charge moves has its landing's record. -/
theorem release_socket_self (form : FeedersForm s) (supplied : (s.socket n).supplied = true) (notice : Option NoticeBody)
    (lands : land.state ∈ [SocketState.shed, .tripped, .locked]) :
    (release n land notice s).socket n = landedSocket land (s.socket n) := by
  have stays : land.state.judgeable = false ∧ (landedSocket land (s.socket n)).supplied = false ∧ land.state ≠ .pending := by
    simp only [List.mem_cons, List.not_mem_nil, or_false] at lands
    rcases lands with h | h | h <;> simp only [landedSocket, Socket.supplied, h] <;> decide
  obtain ⟨still, unsupplied, out⟩ := stays
  have settled := (settleSocket_keepsSums n s).kept form
  have feeder : (settleSocket n s).feederOf n = s.feederOf n := feederOf_of_pedestals_eq settled.pedestals n
  obtain ⟨stamp, kept⟩ := (settleSocket_untouched n s).others form.queues n (not_judgeable_of_supplied supplied)
  have later := settleSocket_supplied form.queues supplied n
  have freed : KeepsSums (settleSocket n s) (landed n land (s.feederOf n) (settleSocket n s)) := by
    rw [← feeder]
    exact landed_keepsSums later (by rw [kept]; exact unsupplied) out
  have own : (landed n land (s.feederOf n) (settleSocket n s)).socket n = landedSocket land (s.socket n) := by
    rw [landed_socket, if_pos rfl, kept]
    rfl
  have searched {u : State} (raised : KeepsSums (landed n land (s.feederOf n) (settleSocket n s)) u) :
      (grantSearch (s.feederOf n) u).socket n = landedSocket land (s.socket n) := by
    have rests := ((raised.trans (grantSearch_keepsSums (s.feederOf n) u)).kept (freed.kept settled.form).form).rests n
    rw [own] at rests
    exact rests still unsupplied
  rw [release_eq]
  cases notice with
  | none => exact searched (.refl _)
  | some body => exact searched ((KeepsSums.refl _).raise body)

/-- R118: a release leaves the other sockets that no charge moves as they were, but for a grant stamp. -/
theorem release_socket_other (queues : PendingSound s) (supplied : (s.socket n).supplied = true)
    (notice : Option NoticeBody) {m : Nat} (other : m ≠ n) (still : (s.socket m).state.judgeable = false) :
    ∃ stamp, (release n land notice s).socket m = { s.socket m with stamp } := by
  have settled := settleSocket_untouched n s
  obtain ⟨first, kept⟩ := settled.others queues m still
  have out := not_pending_of_supplied (settleSocket_supplied queues supplied n)
  have same : (landed n land (s.feederOf n) (settleSocket n s)).socket m = { s.socket m with stamp := first } := by
    rw [landed_socket, if_neg other, kept]
  have searched {u : State} (raised : Untouched SocketState.isPending (landed n land (s.feederOf n) (settleSocket n s)) u) :
      ∃ stamp, (grantSearch (s.feederOf n) u).socket m = { s.socket m with stamp } := by
    obtain ⟨stamp, last⟩ := (raised.trans (grantSearch_untouched (s.feederOf n) u)).others
      (landed_pendingSound (settled.sound queues) out) m (by rw [same]; exact isPending_of_not_judgeable still)
    exact ⟨stamp, by rw [last, same]⟩
  rw [release_eq]
  cases notice with
  | none => exact searched (.refl _)
  | some body => exact searched ((Untouched.refl _).raise body)

/-- R127: the hold-off of a shed begins for source FEEDER on a feeder in AUTO mode. -/
def shedHoldOff (n : Nat) (source : ShedSource) (s : State) : Option Nat :=
  let c := s.feederCfg (s.feederOf n)
  if source = .feeder ∧ c.retry = .auto then some (s.uptime + c.holdOff * 60 * 256) else none

theorem shed_eq (n : Nat) (source : ShedSource) (cause : ShedCause) (s : State) :
    shed n source cause s = release n ⟨.shed, some source, shedHoldOff n source s, false⟩
      (some (.socketShed n (s.feederOf n) ((s.socket n).reservation.getD 0) cause)) s := rfl

theorem shed_keepsSums (supplied : (s.socket n).supplied = true) (source : ShedSource) (cause : ShedCause) :
    KeepsSums s (shed n source cause s) := by
  rw [shed_eq]
  exact release_keepsSums supplied _ (show SocketState.shed ∉ _ by decide)

theorem shed_socket_self (form : FeedersForm s) (supplied : (s.socket n).supplied = true) (source : ShedSource)
    (cause : ShedCause) : (shed n source cause s).socket n =
      landedSocket ⟨.shed, some source, shedHoldOff n source s, false⟩ (s.socket n) := by
  rw [shed_eq]
  exact release_socket_self form supplied _ List.mem_cons_self

theorem shed_socket_other (form : FeedersForm s) (supplied : (s.socket n).supplied = true) (source : ShedSource)
    (cause : ShedCause) {m : Nat} (other : m ≠ n) (still : (s.socket m).state.judgeable = false) :
    ∃ stamp, (shed n source cause s).socket m = { s.socket m with stamp } := by
  rw [shed_eq]
  exact release_socket_other form.queues supplied _ other still

end

/-! ## The sheds to a lowered limit (R129) -/

section
variable {s : State} {f : Nat}

/-- R127: the shed order lists the supplied sockets of the feeder. -/
theorem mem_shedOrder_iff (form : tableOk startSocket s.far.sockets = true) {n : Nat} :
    n ∈ s.shedOrder f ↔ (s.socket n).supplied = true ∧ s.feederOf n = f := by
  refine ⟨mem_shedOrder form, fun ⟨supplied, on⟩ => ?_⟩
  have listed : (n, s.socket n) ∈ s.far.sockets :=
    mem_of_tableGet_ne fun h : s.socket n = startSocket => by rw [h] at supplied; cases supplied
  refine List.mem_map.2 ⟨(n, s.socket n), (sortBy_perm ..).mem_iff.2 (List.mem_filter.2 ⟨listed, ?_⟩), rfl⟩
  simp [supplied, on]

theorem shedOrder_nodup (form : tableOk startSocket s.far.sockets = true) : (s.shedOrder f).Nodup := by
  refine (((sortBy_perm _ _).map _).nodup_iff).2 ?_
  exact List.pairwise_map.2 (((tableOk_ascending form).filter _).imp Nat.ne_of_lt)

/-- R106: a feeder that supplies no socket has nothing reserved. -/
theorem within_of_shedOrder_nil (form : FeedersForm s) (none : s.shedOrder f = []) : s.Within f := by
  have nothing : s.reservedOn f = 0 := by
    refine reservedOn_eq_zero form.sockets fun n => ?_
    rw [State.drawn]
    split
    · next on =>
      refine Option.getD_eq_iff.2 (.inr ⟨form.reservation_of_unsupplied (Bool.eq_false_iff.2 fun supplied => ?_), rfl⟩)
      have := (mem_shedOrder_iff form.sockets).2 ⟨supplied, on⟩
      rw [none] at this
      cases this
    · rfl
  rw [State.Within, form.reserved, nothing]
  exact Nat.zero_le _

theorem shedToLimit_keepsSums (f fuel : Nat) (s : State) : KeepsSums s (shedToLimit f fuel s) := by
  induction fuel generalizing s with
  | zero => exact .refl s
  | succ fuel ih =>
    rw [shedToLimit]
    refine .of_form fun form => .ite (.refl s) ?_
    split
    · exact .refl s
    · next n head =>
      exact (shed_keepsSums ((mem_shedOrder_iff form.sockets).1 (List.mem_of_mem_head? head)).1 ..).trans (ih _)

theorem shedToLimit_of_within (h : s.Within f) (fuel : Nat) : shedToLimit f fuel s = s := by
  cases fuel with
  | zero => rfl
  | succ fuel => exact if_pos h

/-- R129: while a feeder stays above its limit, a shed leaves fewer sockets to shed. -/
theorem shed_shortens (form : FeedersForm s) {n : Nat} (head : n ∈ s.shedOrder f) (source : ShedSource) (cause : ShedCause)
    (above : ¬(shed n source cause s).Within f) :
    ((shed n source cause s).shedOrder f).length < (s.shedOrder f).length := by
  obtain ⟨supplied, -⟩ := (mem_shedOrder_iff form.sockets).1 head
  have kept := (shed_keepsSums supplied source cause).kept form
  have gone : n ∉ (shed n source cause s).shedOrder f := fun h => by
    have := ((mem_shedOrder_iff kept.form.sockets).1 h).1
    rw [shed_socket_self form supplied] at this
    cases this
  have sub : n :: (shed n source cause s).shedOrder f ⊆ s.shedOrder f := fun m hm => by
    rcases List.mem_cons.1 hm with rfl | hm
    · exact head
    · obtain ⟨later, on⟩ := (mem_shedOrder_iff kept.form.sockets).1 hm
      have on := (feederOf_of_pedestals_eq kept.pedestals m).symm.trans on
      exact (mem_shedOrder_iff form.sockets).2 ⟨(kept.full f).resolve_left above m on later, on⟩
  exact ((List.nodup_cons.2 ⟨gone, shedOrder_nodup kept.form.sockets⟩).subperm sub).length_le

/-- R129: with as many sheds as the feeder supplies sockets, it comes within its limit. -/
theorem shedToLimit_within {fuel : Nat} (form : FeedersForm s) (enough : (s.shedOrder f).length ≤ fuel) :
    (shedToLimit f fuel s).Within f := by
  induction fuel generalizing s with
  | zero => exact within_of_shedOrder_nil form (List.eq_nil_of_length_eq_zero (Nat.le_zero.1 enough))
  | succ fuel ih =>
    by_cases h : s.Within f
    · rwa [shedToLimit_of_within h]
    rw [shedToLimit, if_neg (show ¬(s.feeder f).reserved ≤ _ from h)]
    split
    · next none => exact within_of_shedOrder_nil form (List.head?_eq_none_iff.1 none)
    · next n head =>
      have listed := List.mem_of_mem_head? head
      have kept := (shed_keepsSums ((mem_shedOrder_iff form.sockets).1 listed).1 .feeder .limit).kept form
      by_cases within : (shed n .feeder .limit s).Within f
      · rwa [shedToLimit_of_within within]
      · exact ih kept.form (by have := shed_shortens form listed .feeder .limit within; omega)

end

end Sys2Proof.Machine
end

section
/-! SUPPORT. The FAR keeps the feeders within their limits (O60): what it takes from the pedestal line (R116 to R119, R123,
R132), the scans (R91, R117, R128), a departure's releases (R120), and its requests (R108 to R131). -/

namespace Sys2Proof.Machine

/-! ## Writes of one socket or one feeder -/

/-- What keeps the form and writes neither a reserved sum nor a limit. -/
theorem KeepsFeeders.of_form {s t : State} (form : FeedersForm s → FeedersForm t)
    (reserved : ∀ f, (t.feeder f).reserved = (s.feeder f).reserved) (cfg : t.far.cfg = s.far.cfg) : KeepsFeeders s t where
  sound sound := (form sound.form).sound fun f => by
    rw [State.Within, reserved, State.feederCfg, cfg]
    exact sound.limit f

section
variable {n f : Nat} {s : State}

/-- A socket that is not PENDING moves, with what it holds. -/
theorem setSocket_keepsFeeders {x : Socket} (rests : (s.socket n).state ≠ .pending) (out : x.state ≠ .pending)
    (supplied : x.supplied = (s.socket n).supplied) (reservation : x.reservation = (s.socket n).reservation) :
    KeepsFeeders s (s.setSocket n x) := by
  have own : (s.setSocket n x).socket n = x := (State.socket_setSocket ..).trans (if_pos rfl)
  refine .of_form (fun form => ?_) (fun _ => rfl) rfl
  refine form.write ((OnlySocket.refl s).setSocket x) ?_ (fun g => ?_) (setSocket_pendingSound form.queues rests)
    form.ascending fun h => absurd (own ▸ h) out
  · rw [own, reservation, supplied, form.held]
  · have same : (s.setSocket n x).drawn g n = s.drawn g n := by
      rw [State.drawn, own, reservation]
      rfl
    rw [same]
    rfl

/-- A feeder's counts and pointers bear on nothing. -/
theorem setFeeder_keepsSums {x : Feeder} (reserved : x.reserved = (s.feeder f).reserved)
    (pending : x.pending = (s.feeder f).pending) (blocking : x.blocking = (s.feeder f).blocking) :
    KeepsSums s (s.setFeeder f x) where
  kept form := by
    have field {α : Type} (get : Feeder → α) (h : get x = get (s.feeder f)) (g : Nat) :
        get ((s.setFeeder f x).feeder g) = get (s.feeder g) := by
      rw [State.feeder_setFeeder]
      split
      · next hg => rw [h, hg]
      · rfl
    have reserved := field Feeder.reserved reserved
    have queues : SameQueues s (s.setFeeder f x) :=
      ⟨fun _ => rfl, field Feeder.pending pending, field Feeder.blocking blocking, rfl⟩
    refine ⟨form.write (n := 0) ((OnlySocket.refl s).setFeeder f x) (form.held 0) (fun g => ?_) (queues.sound form.queues)
      (fun g => ?_) (form.plugs 0), rfl, rfl, fun g hg => ?_, fun g => .inr fun _ _ h => h, fun _ _ _ => rfl⟩
    · rw [reserved]
      rfl
    · rw [queues.pending]
      exact form.ascending g
    · rw [State.Within, reserved]
      exact hg

end

/-! ## Releases with their guards -/

section
variable {n : Nat} {s : State}

theorem release_keepsFeeders (supplied : (s.socket n).supplied = true) (notice : Option NoticeBody) {land : Landing}
    (lands : land.state ∉ [SocketState.granted, .energised, .pending]) : KeepsFeeders s (release n land notice s) :=
  (release_keepsSums supplied notice lands).feeders

theorem supplied_of_granted (h : (s.socket n).state = .granted) : (s.socket n).supplied = true := (supplied_iff _).2 (.inl h)

theorem supplied_of_energised (h : (s.socket n).state = .energised) : (s.socket n).supplied = true :=
  (supplied_iff _).2 (.inr h)

theorem releaseTripped_keepsFeeders (supplied : (s.socket n).supplied = true) : KeepsFeeders s (releaseTripped n s) :=
  release_keepsFeeders supplied _ (show SocketState.tripped ∉ _ by decide)

end

theorem farDepart_keepsFeeders (b : Nat) (s : State) : KeepsFeeders s (farDepart b s) := by
  have left := (leaveAllPending_keepsSums (dest := fun _ => .waiting) (fun _ => rfl) (s.berthSockets b) s).feeders
  refine left.trans (.foldl _ (fun t n => ?_) _ _)
  split
  · next supplied =>
    refine release_keepsFeeders supplied none ?_
    rcases unentitled_cases t n with h | h <;> simp [landIn, h]
  · exact .refl t

/-! ## Reports (R116, R119, R123) -/

section
variable {n : Nat} {s : State}

/-- R88 step 3: a report is kept; a PENDING socket's shows a plug. -/
theorem setReport_keepsFeeders {x : Option SocketReport}
    (plug : (s.socket n).state = .pending → (x.map (·.plug)).getD false = true) : KeepsFeeders s (s.setReport n x) where
  sound sound :=
    { sockets := sound.sockets, static := sound.static, held := sound.held, reserved := sound.reserved,
      limit := sound.limit, pending := sound.pending, ascending := sound.ascending, blocking := sound.blocking
      plugs := fun j pending => by
        rw [State.plugged, State.report_setReport]
        split
        · next h => exact plug (h ▸ pending)
        · exact sound.plugs j pending }

/-- R119: the plug of a PENDING socket is gone. -/
theorem leavePending_of_pending (pending : (s.socket n).state = .pending) :
    leavePending n .idle s =
      ([n].filter fun m => decide ((s.feeder (s.feederOf m)).blocking = some m)).foldl
        (fun t m => grantSearch (s.feederOf m) t) (withdraw n .idle s) := by
  have one : [n].filter (fun m => decide ((s.socket m).state = .pending) && decide (SocketState.idle ≠ .pending)) = [n] := by
    simp [pending]
  simp only [leavePending, leaveAllPending, one, List.foldl_cons, List.foldl_nil]

theorem takePlugGone_eq_leavePending (pending : (s.socket n).state = .pending) :
    takePlugGone n s = leavePending n .idle s := by
  unfold takePlugGone
  dsimp only
  rw [pending]

theorem takePlugGone_keepsFeeders (rests : (s.socket n).state ≠ .pending) : KeepsFeeders s (takePlugGone n s) := by
  have unplugged (unsupplied : (s.socket n).supplied = false) :
      KeepsFeeders s (s.setSocket n { s.socket n with state := .idle, shedSource := none, holdOffEnd := none }) :=
    setSocket_keepsFeeders rests nofun unsupplied.symm rfl
  have without {k : SocketState} (h : (s.socket n).state = k) (hk : k ≠ .granted ∧ k ≠ .energised) :
      (s.socket n).supplied = false := by
    rw [Socket.supplied, h]
    simp [hk]
  unfold takePlugGone
  dsimp only
  split
  · next h => exact release_keepsFeeders (supplied_of_granted h) none (show SocketState.idle ∉ _ by decide)
  · next h => exact release_keepsFeeders (supplied_of_energised h) none (show SocketState.idle ∉ _ by decide)
  · next h => exact absurd h rests
  · next h => exact unplugged (without h (by decide))
  · next h => exact unplugged (without h (by decide))
  · next h => exact unplugged (without h (by decide))
  all_goals exact .refl s

/-- R119: a socket whose plug is gone moves with the report that shows it. -/
theorem unplug_keepsFeeders (n : Nat) (x : Option SocketReport) (s : State) :
    KeepsFeeders s (takePlugGone n (s.setReport n x)) := by
  by_cases pending : (s.socket n).state = .pending
  · have left : KeepsFeeders s (withdraw n .idle s) :=
      (withdraw_keepsSums (dest := .idle) (by rw [pending]; rfl) (by decide) rfl).feeders
    have out : ((withdraw n .idle s).socket n).state ≠ .pending := by
      rw [withdraw_socket_state, if_pos rfl]
      nofun
    rw [takePlugGone_eq_leavePending (s := s.setReport n x) pending, leavePending_of_pending (s := s.setReport n x) pending]
    exact (left.trans (setReport_keepsFeeders (x := x) fun h => absurd h out)).trans
      (.foldl _ (fun t m => (grantSearch_keepsSums _ t).feeders) _ _)
  · exact (setReport_keepsFeeders fun h => absurd h pending).trans (takePlugGone_keepsFeeders pending)

theorem energise_keepsFeeders (granted : (s.socket n).state = .granted) : KeepsFeeders s (energise n s) :=
  have written : KeepsFeeders s (s.setSocket n { s.socket n with state := .energised, confirm := none }) :=
    setSocket_keepsFeeders (by rw [granted]; decide) nofun (supplied_of_granted granted).symm rfl
  written.raise _

theorem takeChanges_keepsFeeders {c : Changes} (stays : c.plugGone = false) : KeepsFeeders s (takeChanges n c s) := by
  unfold takeChanges
  dsimp only
  rw [stays, if_neg Bool.false_ne_true]
  split
  · next h => exact releaseTripped_keepsFeeders (Bool.and_eq_true_iff.1 h).2
  split
  · next h =>
    have granted := of_decide_eq_true (Bool.and_eq_true_iff.1 h).2
    exact .ite (releaseTripped_keepsFeeders (supplied_of_granted granted)) (energise_keepsFeeders granted)
  split
  · next h =>
    have energised := of_decide_eq_true (Bool.and_eq_true_iff.1 h).2
    exact setSocket_keepsFeeders (by rw [energised]; nofun) nofun (supplied_of_energised energised).symm rfl
  · exact .ite (reevaluate_keepsSums n s).feeders (.refl s)

end

/-! ## Adoption (R132) -/

section
variable {n : Nat} {s : State}

theorem adopt_onlySocket (n : Nat) (s : State) : OnlySocket n s (adopt n s) :=
  (((OnlySocket.takeStamp s).setSocket _).setFeeder ..).raise _

/-- R132 case 3: a socket that holds nothing and fits is adopted. -/
theorem adopt_keepsFeeders (judgeable : (s.socket n).state.judgeable = true) (rests : (s.socket n).state ≠ .pending)
    (fits : s.fits (s.feederOf n) n = true) : KeepsFeeders s (adopt n s) where
  sound sound := by
    have form := sound.form
    have only := adopt_onlySocket n s
    obtain ⟨⟨stamp, own⟩, feeder, -⟩ := adopt_adopts n s
    have before (f : Nat) : s.drawn f n = 0 :=
      drawn_of_no_reservation (form.reservation_of_unsupplied (unsupplied_of_judgeable judgeable)) f
    have after (f : Nat) : (adopt n s).drawn f n = if f = s.feederOf n then s.reservation n else 0 := by
      rw [State.drawn, only.feederOf, own]
      exact if_congr eq_comm rfl rfl
    have pending (f : Nat) : ((adopt n s).feeder f).pending = (s.feeder f).pending := by
      rw [feeder]
      split <;> rfl
    have blocking (f : Nat) : ((adopt n s).feeder f).blocking = (s.feeder f).blocking := by
      rw [feeder]
      split <;> rfl
    have queues : PendingSound (adopt n s) := by
      refine ⟨fun f m hm => ?_, fun f m hm => ?_⟩
      · rw [pending] at hm
        obtain ⟨waits, on⟩ := form.queues.pending f m hm
        have other : m ≠ n := fun h => rests (h ▸ waits)
        exact ⟨(only.states m other).trans waits, (only.feederOf m).trans on⟩
      · rw [blocking] at hm
        rw [pending]
        exact form.queues.blocking f m hm
    have written : FeedersForm (adopt n s) := by
      refine form.write only (by rw [own]; rfl) (fun f => ?_) queues (fun f => ?_) fun h => by rw [own] at h; cases h
      · rw [before, after, feeder]
        split <;> simp
      · rw [pending]
        exact form.ascending f
    refine written.sound fun f => ?_
    rw [State.Within, feeder, only.feederCfg]
    split
    · next h =>
      rw [h]
      exact fits_iff.1 fits
    · exact sound.limit f

theorem adoptSocket_onlySocket (n : Nat) (r : SocketReport) (s : State) : OnlySocket n s (adoptSocket n r s) := by
  have written (x : Socket) : OnlySocket n s (s.setSocket n x) := (OnlySocket.refl s).setSocket x
  unfold adoptSocket
  dsimp only
  split
  · exact .refl s
  split
  · exact written _
  split
  · exact written _
  split
  · exact adopt_onlySocket n s
  split
  · exact (written _).setFeeder ..
  · exact written _

theorem adoptSocket_keepsFeeders (r : SocketReport) (rests : (s.socket n).state ≠ .pending) :
    KeepsFeeders s (adoptSocket n r s) := by
  unfold adoptSocket
  dsimp only
  split
  · exact .refl s
  next judgeable =>
  replace judgeable : (s.socket n).state.judgeable = true := by simpa using judgeable
  have written {k : SocketState} (out : k ≠ .pending) (unsupplied : ({ s.socket n with state := k } : Socket).supplied = false) :
      KeepsFeeders s (s.setSocket n { s.socket n with state := k }) :=
    (setSocket_keepsSums judgeable rests unsupplied rfl out).feeders
  split
  · exact written nofun rfl
  split
  · exact written nofun rfl
  split
  · next h => exact adopt_keepsFeeders judgeable rests (Bool.and_eq_true_iff.1 h).2
  split
  · next enters => exact (placePending_keepsSums judgeable (plugged_of_judged enters)).feeders
  · next leaves => exact written leaves (unsupplied_of_judgeable (judged_judgeable s n))

end

/-! ## The hand-over of a report (R88 step 3) -/

section
variable {n : Nat} {s : State}

/-- R119, R123: the changes of a report are taken with the report itself. -/
theorem takeReport_keepsFeeders {c : Changes} {x : SocketReport}
    (plug : (s.socket n).state = .pending → c.plugGone = false → x.plug = true) :
    KeepsFeeders s (takeChanges n c (s.setReport n (some x))) := by
  cases gone : c.plugGone with
  | true =>
    rw [takeChanges_plugGone gone]
    exact unplug_keepsFeeders n (some x) s
  | false => exact (setReport_keepsFeeders (x := some x) fun h => plug h gone).trans (takeChanges_keepsFeeders gone)

theorem handSocket_keepsFeeders {h : Handover} (r : SocketReport) (told : h ≠ .adoption) :
    KeepsFeeders s (handSocket h n r s) := by
  cases h with
  | adoption => exact absurd rfl told
  | afterLoss => exact takeReport_keepsFeeders fun _ gone => by simpa [changesAll] using gone
  | differences =>
    refine .of_sound fun sound => takeReport_keepsFeeders fun pending gone => ?_
    have plugged := sound.plugs n pending
    rw [State.plugged] at plugged
    cases old : s.report n with
    | none =>
      rw [old] at plugged
      cases plugged
    | some y =>
      rw [old] at plugged gone
      have plugged : y.plug = true := plugged
      simpa [changesFrom, plugged] using gone

theorem adoptHanded_keepsFeeders (r : SocketReport) (rests : (s.socket n).state ≠ .pending) :
    KeepsFeeders s (handSocket .adoption n r s) :=
  (setReport_keepsFeeders fun h => absurd h rests).trans (adoptSocket_keepsFeeders _ rests)

/-- R132: sockets none of which is PENDING are adopted one after the other. -/
theorem adoptAll_keepsFeeders {l : List (Nat × SocketReading)} (once : (l.map (·.1)).Nodup)
    (rests : ∀ x ∈ l, (s.socket x.1).state ≠ .pending) :
    KeepsFeeders s (l.foldl (fun t x => handSocket .adoption x.1 x.2.report t) s) := by
  induction l generalizing s with
  | nil => exact .refl s
  | cons x rest ih =>
    obtain ⟨first, once⟩ := List.nodup_cons.1 once
    refine (adoptHanded_keepsFeeders x.2.report (rests x List.mem_cons_self)).trans (ih once fun y hy => ?_)
    have other : y.1 ≠ x.1 := fun h => first (List.mem_map.2 ⟨y, hy, h⟩)
    exact ((adoptSocket_onlySocket x.1 _ _).states y.1 other).symm ▸ rests y (List.mem_cons_of_mem _ hy)

end

theorem endHandover_keepsFeeders (h : Handover) (a : Nat) (s : State) : KeepsFeeders s (endHandover h a s) := by
  cases h with
  | adoption => exact .ite (grantSearch_keepsSums ..).feeders (.refl s)
  | afterLoss => exact .foldl _ (fun t n => .ite (reevaluate_keepsSums n t).feeders (.refl t)) _ _
  | differences => exact .refl s

theorem socketsOf_nodup (a : Nat) : (socketsOf a).Nodup :=
  List.Nodup.map (fun _ _ h => Nat.add_left_cancel h) List.nodup_range

theorem map_fst_zip_sublist {α β : Type} (l : List α) (m : List β) : ((l.zip m).map (·.1)).Sublist l := by
  induction l generalizing m with
  | nil => exact List.Sublist.slnil
  | cons a rest ih =>
    cases m with
    | nil => exact List.nil_sublist _
    | cons b more => exact (ih more).cons_cons a

theorem handReport_keepsFeeders {h : Handover} {r : PollReply} {s : State}
    (unreported : h = .adoption → ∀ n ∈ socketsOf r.address, s.report n = none) : KeepsFeeders s (handReport h r s) := by
  refine KeepsFeeders.trans (.of_sound fun sound => ?_) (endHandover_keepsFeeders ..)
  by_cases told : h = .adoption
  · subst told
    have listed := map_fst_zip_sublist (socketsOf r.address) r.sockets
    refine adoptAll_keepsFeeders (listed.nodup (socketsOf_nodup _)) fun x hx pending => ?_
    have plugged := sound.plugs x.1 pending
    rw [State.plugged, unreported rfl x.1 (listed.subset (List.mem_map_of_mem hx))] at plugged
    cases plugged
  · exact .foldl (fun t (x : Nat × SocketReading) => handSocket h x.1 x.2.report t)
      (fun _ _ => handSocket_keepsFeeders _ told) _ s

/-! ## Scans (R91, R117, R128) -/

theorem countScan_keepsFeeders (n : Nat) (s : State) : KeepsFeeders s (countScan n s) := by
  unfold countScan
  dsimp only
  split
  · exact .refl s
  next granted =>
  replace granted : (s.socket n).state = .granted := not_not.1 granted
  refine .ite (release_keepsFeeders (supplied_of_granted granted) _ (show SocketState.locked ∉ _ by decide)) ?_
  have rests : (s.socket n).state ≠ .pending := by rw [granted]; decide
  exact setSocket_keepsFeeders rests rests rfl rfl

theorem shedHead_keepsSums (f : Nat) (source : ShedSource) (cause : ShedCause) (s : State) :
    KeepsSums s (match (s.shedOrder f).head? with | some n => shed n source cause s | none => s) := by
  refine .of_form fun form => ?_
  split
  · next n head => exact shed_keepsSums ((mem_shedOrder_iff form.sockets).1 (List.mem_of_mem_head? head)).1 ..
  · exact .refl s

theorem judgeFeeder_keepsFeeders (f : Nat) (s : State) : KeepsFeeders s (judgeFeeder f s) :=
  have counted {u : State} (n : Nat) : KeepsSums u (u.setFeeder f { u.feeder f with overCount := n }) :=
    setFeeder_keepsSums rfl rfl rfl
  .ite (counted _).feeders (.ite (counted _).feeders
    (((shedHead_keepsSums f .feeder .overload s).trans (counted 0)).raise _).feeders)

theorem scanComplete_keepsFeeders (s : State) : KeepsFeeders s (scanComplete s) := by
  have measured : KeepsFeeders s (measured s) :=
    .foldl _ (fun t f => (setFeeder_keepsSums (x := { t.feeder f with measured := s.measuredCurrent f }) rfl rfl rfl).feeders)
      _ s
  unfold scanComplete
  exact (measured.trans (.foldl _ (fun t n => countScan_keepsFeeders n t) _ _)).trans
    (.foldl _ (fun t f => judgeFeeder_keepsFeeders f t) _ _)

/-! ## Locks and returns (R125, R126, R131) -/

section
variable {n : Nat} {s : State}

/-- A socket as the FAR judges it at its return: IDLE, its hold-off, shed source and fault discarded. -/
def asIdle (n : Nat) (s : State) : State :=
  s.setSocket n { s.socket n with state := .idle, shedSource := none, holdOffEnd := none, fault := false }

/-- A socket that holds nothing, locked by the host (R125), the search not yet run. -/
def lockedAtRest (n : Nat) (s : State) : State :=
  s.setSocket n { s.socket n with state := .locked, shedSource := none, holdOffEnd := none }

theorem reevaluateAsIdle_eq (n : Nat) (s : State) : reevaluateAsIdle n s = reevaluate n (asIdle n s) := rfl

theorem reevaluateAsIdle_keepsFeeders (rests : (s.socket n).state ≠ .pending) (unsupplied : (s.socket n).supplied = false) :
    KeepsFeeders s (reevaluateAsIdle n s) :=
  have idle : KeepsFeeders s (asIdle n s) := setSocket_keepsFeeders rests nofun unsupplied.symm rfl
  idle.trans (reevaluate_keepsSums ..).feeders

theorem holdOffEnds_keepsFeeders (n : Nat) (s : State) : KeepsFeeders s (holdOffEnds n s) := by
  unfold holdOffEnds
  dsimp only
  split
  · next h =>
    have rests : (s.socket n).state ≠ .pending := by rw [h.1]; decide
    split
    · exact reevaluateAsIdle_keepsFeeders rests (by rw [Socket.supplied, h.1]; rfl)
    · exact setSocket_keepsFeeders rests rests rfl rfl
  · exact .refl s

theorem lockedAtRest_keepsFeeders (unsupplied : (s.socket n).supplied = false) (rests : (s.socket n).state ≠ .pending) :
    KeepsFeeders s (lockedAtRest n s) := setSocket_keepsFeeders rests nofun unsupplied.symm rfl

/-- A socket that holds nothing and waits for nothing. -/
theorem at_rest_of_state {k : SocketState} (h : (s.socket n).state = k)
    (hk : k ∉ [SocketState.granted, .energised, .pending]) :
    (s.socket n).supplied = false ∧ (s.socket n).state ≠ .pending := by
  simp only [List.mem_cons, List.not_mem_nil, or_false, not_or] at hk
  simp [Socket.supplied, h, hk]

theorem lockSocket_keepsFeeders (n : Nat) (s : State) : KeepsFeeders s (lockSocket n s) := by
  have locked {k : SocketState} (h : (s.socket n).state = k) (hk : k ∉ [SocketState.granted, .energised, .pending]) :
      KeepsFeeders s (grantSearch (s.feederOf n) (lockedAtRest n s)) :=
    have ⟨unsupplied, rests⟩ := at_rest_of_state h hk
    (lockedAtRest_keepsFeeders unsupplied rests).trans (grantSearch_keepsSums ..).feeders
  unfold lockSocket
  dsimp only
  split
  · exact .refl s
  · next h => exact release_keepsFeeders (supplied_of_granted h) none (show SocketState.locked ∉ _ by decide)
  · next h => exact release_keepsFeeders (supplied_of_energised h) none (show SocketState.locked ∉ _ by decide)
  · next h =>
    exact ((dropPending_keepsSums (dest := .locked) (by rw [h]; rfl) (by decide) rfl).trans (grantSearch_keepsSums ..)).feeders
  all_goals
    next h => exact locked h (by decide)

end

end Sys2Proof.Machine
end

section
/-! SUPPORT. The pedestal line and the rows of the line and the feeders keep the feeders within their limits (O60): taps and
replies (R87 to R98), slots (R85, R89), and the rows of pedestals, sockets, taps and feeders (R84, R99, R100, R108). -/

namespace Sys2Proof.Machine

/-! ## Taps, replies and slots -/

theorem pressTap_keepsSums (n : Nat) (s : State) : KeepsSums s (pressTap n s) := by
  have refused (reason : TapRefusal) : KeepsSums s (s.raise (.tapRefused reason)) := (KeepsSums.refl s).raise _
  have opened (b : Nat) (k : Option Nat) : KeepsSums s (openTap n b k s) :=
    have run : Aside s (s.setRun n (some ⟨s.uptime, s.uptime, (s.tapCfg n).runLimit⟩)) := ⟨rfl, rfl, rfl, rfl⟩
    .of_aside (run.raise _)
  refine .ite (closeTap_keepsSums ..) ?_
  unfold pressClosed
  split
  · exact refused _
  · refine .ite (opened ..) ?_
    split
    · exact refused _
    · exact .ite (refused _) (opened ..)

/-- R88 steps 1 and 2: the link and the meters bear on nothing. -/
theorem countReport_aside (r : PollReply) (s : State) : Aside s (countReport r s) := by
  have link : Aside s (linkGood r.address s) :=
    have written : Aside s (s.setLink r.address (goodLink s)) := ⟨rfl, rfl, rfl, rfl⟩
    .ite (written.raise _) written
  have socket (elapsed n count : Nat) (t : State) : Aside t (countSocket elapsed n count t) :=
    have written : Aside t (t.setSocketMeter n ((t.socketMeter n).take (20 * elapsed) count)) := ⟨rfl, rfl, rfl, rfl⟩
    .ite written (written.raise _)
  have tap (elapsed n count : Nat) (t : State) : Aside t (countTap elapsed n count t) :=
    have written : Aside t (t.setTapMeter n ((t.tapMeter n).take (2 * elapsed) count)) := ⟨rfl, rfl, rfl, rfl⟩
    .ite written (written.raise _)
  exact (link.trans (.foldl _ (fun t x => socket _ _ _ t) _ _)).trans (.foldl _ (fun t x => tap _ _ _ t) _ _)

theorem goodReport_keepsFeeders (p : Poll) (r : PollReply) (s : State) : KeepsFeeders s (goodReport p r s) := by
  have counted := countReport_aside r s
  have unreported (h : s.handover r.address = .adoption) (n : Nat) (hn : n ∈ socketsOf r.address) :
      (countReport r s).report n = none := by
    unfold State.handover at h
    split at h
    · next none =>
      rw [State.report, counted.reports]
      exact Option.isNone_iff_eq_none.1 (List.all_eq_true.1 none n hn)
    · split at h <;> cases h
  have handed : KeepsFeeders s (handReport (s.handover r.address) r (countReport r s)) :=
    (handReport_keepsFeeders unreported).after counted
  have pressed (l : List (Nat × TapReading)) (t : State) :
      KeepsFeeders t (l.foldl (fun t x => (pressTap x.1 t).setAck x.1 true) t) :=
    .foldl _ (fun t x => (pressTap_keepsSums x.1 t).feeders.andThen (u := (pressTap x.1 t).setAck x.1 true)
      ⟨rfl, rfl, rfl, rfl⟩) l t
  have acked (l : List (Nat × Bool)) (t : State) : Aside t (l.foldl (fun t x => t.setAck x.1 false) t) :=
    .foldl (fun t (x : Nat × Bool) => t.setAck x.1 false) (fun t x => ⟨rfl, rfl, rfl, rfl⟩) l t
  have flowing (l : List (Nat × TapReading)) (t : State) : Aside t (l.foldl (fun t x =>
      match t.run x.1 with | some u => t.setRun x.1 (some { u with flowSince := t.uptime }) | none => t) t) :=
    .foldl _ (fun t x => by split <;> exact ⟨rfl, rfl, rfl, rfl⟩) l t
  unfold goodReport
  exact (((handed.trans (pressed ..)).andThen (acked ..)).andThen (flowing ..)).andThen ⟨rfl, rfl, rfl, rfl⟩

theorem pollReply_keepsFeeders (b : List Byte) (w : Bool) (s : State) : KeepsFeeders s (pollReply b w s) := by
  unfold pollReply
  split
  · exact .ite (goodReport_keepsFeeders ..) (.refl s)
  · exact .refl s

theorem missPoll_keepsSums (a : Nat) (s : State) : KeepsSums s (missPoll a s) := by
  have linked (l : PedestalLink) : Aside s (s.setLink a l) := ⟨rfl, rfl, rfl, rfl⟩
  refine .ite (.of_aside (linked _)) (KeepsSums.trans ?_ (.foldl _ (fun t n => closeTap_keepsSums n .lost t) _ _))
  exact (pedestalLostFar_keepsSums ..).after ((linked { s.link a with link := .lost, miss := 3 }).raise _)

theorem beginScan_aside (s : State) : Aside s (beginScan s) := ⟨rfl, rfl, rfl, rfl⟩

theorem beginSlotAbove_aside (a : Nat) (s : State) : Aside s (beginSlotAbove a s).1 := by
  unfold beginSlotAbove
  split <;> exact ⟨rfl, rfl, rfl, rfl⟩

theorem slotEnd_keepsFeeders (s : State) : KeepsFeeders s (slotEnd s) := by
  unfold slotEnd
  split
  · exact .refl s
  · next p _ =>
    have polled : KeepsFeeders s
        (if s.pdl.replied = true ∨ (s.pedestal p.address).configured = false then s else missPoll p.address s) :=
      .ite (.refl s) (missPoll_keepsSums ..).feeders
    refine .ite (.ite (polled.andThen ⟨rfl, rfl, rfl, rfl⟩) ?_) (polled.andThen (beginSlotAbove_aside ..))
    exact (polled.trans (scanComplete_keepsFeeders _)).andThen (beginScan_aside _)

/-! ## A pedestal's row (R84) -/

theorem mem_socketsOf_pedestalOf (n : Nat) : n ∈ socketsOf (pedestalOf n) := by
  refine List.mem_map.2 ⟨n % 4, List.mem_range.2 (Nat.mod_lt n (by decide)), ?_⟩
  rw [pedestalOf, Nat.add_sub_cancel]
  omega

/-- R84: a pedestal changes its feeder only while none of its sockets is supplied or PENDING. -/
theorem setPedestal_keepsFeeders {a : Nat} {x : PedestalCfg} {s : State}
    (rest : x.feeder ≠ (s.pedestal a).feeder → AtRest (socketsOf a) s) : KeepsFeeders s (s.setPedestal a x) where
  sound sound := by
    have feeder (n : Nat) : (s.setPedestal a x).feederOf n = s.feederOf n ∨
        (s.socket n).supplied = false ∧ (s.socket n).state ≠ .pending := by
      rw [State.feederOf, State.pedestal_setPedestal]
      split
      · next h =>
        by_cases same : x.feeder = (s.pedestal a).feeder
        · exact .inl (by rw [State.feederOf, h, same])
        · exact .inr (rest same n (h ▸ mem_socketsOf_pedestalOf n))
      · exact .inl rfl
    have drawn (f n : Nat) : (s.setPedestal a x).drawn f n = s.drawn f n := by
      rcases feeder n with same | ⟨unsupplied, -⟩
      · rw [State.drawn, same]
        rfl
      · have none := sound.form.reservation_of_unsupplied unsupplied
        rw [drawn_of_no_reservation none, drawn_of_no_reservation (s := s.setPedestal a x) none]
    have reserved (f : Nat) : (s.setPedestal a x).reservedOn f = s.reservedOn f := by
      have := reservedOn_add_drawn (s := s) (t := s.setPedestal a x) (n := 0) sound.sockets sound.sockets
        fun j _ => drawn f j
      rw [drawn] at this
      omega
    refine
      { sockets := sound.sockets, static := sound.static, held := sound.held, limit := sound.limit
        reserved := fun f => (sound.reserved f).trans (reserved f).symm
        pending := fun f n hn => ?_
        ascending := sound.ascending, blocking := sound.blocking, plugs := sound.plugs }
    obtain ⟨pending, on⟩ := sound.pending f n hn
    exact ⟨pending, ((feeder n).resolve_right fun h => h.2 pending).trans on⟩

theorem unconfigure_keepsFeeders (a : Nat) (s : State) : KeepsFeeders s (unconfigure a s) :=
  KeepsFeeders.after (.foldl _ (fun t n => unplug_keepsFeeders n none t) _ _) ⟨rfl, rfl, rfl, rfl⟩

theorem pedestalRow_keepsFeeders (a : Nat) (r : PedestalRow) (s t : State) (h : pedestalRow a r s = .ok t) :
    KeepsFeeders s t := by
  unfold pedestalRow at h
  dsimp only at h
  obtain ⟨-, h⟩ := ok_of_ite h
  obtain ⟨free, h⟩ := ok_of_ite h
  have placed : KeepsFeeders s (s.setPedestal a ⟨r.configured, r.feeder⟩) :=
    setPedestal_keepsFeeders fun change =>
      atRest_of_not_busy (Bool.eq_false_iff.2 fun busy => free ⟨.inl change, busy⟩)
  have written : KeepsFeeders s (pedestalWritten a r s) :=
    .ite (placed.trans (unconfigure_keepsFeeders ..)) placed
  rw [← Except.ok.inj h]
  exact .ite (written.andThen (beginScan_aside _)) written

/-! ## The rows of a socket, a tap and a feeder (R99, R100, R108) -/

theorem setSocketCfg_keepsSums (n : Nat) (x : SocketCfg) (s : State) : KeepsSums s (s.setSocketCfg n x) where
  kept form :=
    { form :=
        { sockets := form.sockets, static := tableOk_tableSet _ _ _ _ form.static, held := form.held
          reserved := form.reserved, queues := ⟨form.queues.pending, form.queues.blocking⟩
          ascending := form.ascending, plugs := form.plugs }
      cfg := rfl
      pedestals := rfl
      within := fun _ => id
      full := fun _ => .inr fun _ _ => id
      rests := fun _ _ _ => rfl }

theorem socketChanged_keepsSums (n rating : Nat) (s : State) : KeepsSums s (socketChanged n rating s) :=
  .ite ((reevaluate_keepsSums n s).trans (grantSearch_keepsSums ..)) (reevaluate_keepsSums n s)

theorem socketRow_keepsFeeders (i : Nat) (r : SocketRow) (s t : State) (h : socketRow i r s = .ok t) :
    KeepsFeeders s t := by
  rw [socketRow_ok h]
  have settled (c : Prop) [Decidable c] : KeepsSums s (if c then settleSocket i s else s) :=
    .ite (settleSocket_keepsSums i s) (.refl s)
  have written := (settled (r.berth ≠ (s.socketCfg i).berth ∨ r.tariff ≠ (s.socketCfg i).tariff)).trans
    (setSocketCfg_keepsSums i ⟨r.berth, r.rating, r.cls, r.tariff⟩ _)
  have zeroed (c : Prop) [Decidable c] (t : State) : Aside t (if c then zeroSocketResidue i t else t) :=
    .ite ⟨rfl, rfl, rfl, rfl⟩ (.refl t)
  exact ((written.andThen (zeroed (r.tariff ≠ (s.socketCfg i).tariff) _)).trans (socketChanged_keepsSums ..)).feeders

theorem tapRow_keepsFeeders (i : Nat) (r : TapRow) (s t : State) (h : tapRow i r s = .ok t) : KeepsFeeders s t := by
  rw [tapRow_ok h]
  have closed : KeepsSums s (if r.berth ≠ (s.tapCfg i).berth then closeTap i .host s else s) :=
    .ite (closeTap_keepsSums ..) (.refl s)
  have settled := closed.trans (.ite (c := r.berth ≠ (s.tapCfg i).berth ∨ r.tariff ≠ (s.tapCfg i).tariff)
    (settleTap_keepsSums i _) (.refl _))
  have written := settled.andThen (u := State.setTapCfg _ i ⟨r.berth, r.tariff, r.runLimit⟩) ⟨rfl, rfl, rfl, rfl⟩
  have zeroed (c : Prop) [Decidable c] (t : State) : Aside t (if c then t.setTapResidue i 0 else t) :=
    .ite ⟨rfl, rfl, rfl, rfl⟩ (.refl t)
  exact (written.andThen (zeroed (r.tariff ≠ (s.tapCfg i).tariff) _)).feeders

theorem tapClose_keepsFeeders (n : Nat) (s : State) : KeepsFeeders s (tapClose n s).1 := by
  unfold tapClose
  split
  · exact (closeTap_keepsSums ..).feeders
  · exact .refl s

/-- R108, R129: what an accepted row of a feeder leaves: the row, the sheds to its limit, and the search. -/
def feederWritten (i : Nat) (c : FeederCfg) (s : State) : State :=
  grantSearch i (shedToLimit i ((s.setFeederCfg i c).shedOrder i).length (s.setFeederCfg i c))

theorem setFeederCfg_form {s : State} (i : Nat) (c : FeederCfg) (form : FeedersForm s) : FeedersForm (s.setFeederCfg i c) :=
  { sockets := form.sockets, static := form.static, held := form.held, reserved := form.reserved
    queues := ⟨form.queues.pending, form.queues.blocking⟩
    ascending := form.ascending, plugs := form.plugs }

theorem feederWritten_kept {s : State} (i : Nat) (c : FeederCfg) (form : FeedersForm s) :
    SumsKept (s.setFeederCfg i c) (feederWritten i c s) :=
  ((shedToLimit_keepsSums i _ _).trans (grantSearch_keepsSums i _)).kept (setFeederCfg_form i c form)

/-- R129: the feeder is within its new limit. -/
theorem feederWritten_within {s : State} (i : Nat) (c : FeederCfg) (form : FeedersForm s) :
    (feederWritten i c s).Within i := by
  have written := setFeederCfg_form i c form
  exact ((grantSearch_keepsSums i _).kept ((shedToLimit_keepsSums i _ _).kept written).form).within i
    (shedToLimit_within written le_rfl)

theorem feederWritten_keepsFeeders (i : Nat) (c : FeederCfg) (s : State) : KeepsFeeders s (feederWritten i c s) where
  sound sound := by
    have kept := feederWritten_kept i c sound.form
    refine kept.form.sound fun f => ?_
    by_cases h : f = i
    · subst h
      exact feederWritten_within f c sound.form
    · refine kept.within f ?_
      rw [State.Within, State.feederCfg_setFeederCfg, if_neg h]
      exact sound.limit f

theorem feederRow_ok {i : Nat} {r : FeederRow} {s t : State} (h : feederRow i r s = .ok t) :
    ∃ retry, valueOf retryModes r.retry = some retry ∧
      (t = s ∧ s.feederCfg i = ⟨r.limit, r.diversity, r.tripCount, r.bypassLimit, retry, r.holdOff⟩ ∨
        t = feederWritten i ⟨r.limit, r.diversity, r.tripCount, r.bypassLimit, retry, r.holdOff⟩ s) := by
  unfold feederRow at h
  split at h
  · cases h
  · next retry mode =>
    dsimp only at h
    obtain ⟨-, h⟩ := ok_of_ite h
    obtain ⟨-, h⟩ := ok_of_ite h
    refine ⟨retry, mode, ?_⟩
    split at h
    · next same => exact .inl ⟨(Except.ok.inj h).symm, same.symm⟩
    · exact .inr (Except.ok.inj h).symm

theorem feederRow_keepsFeeders (i : Nat) (r : FeederRow) (s t : State) (h : feederRow i r s = .ok t) :
    KeepsFeeders s t := by
  obtain ⟨retry, -, ⟨rfl, -⟩ | rfl⟩ := feederRow_ok h
  · exact .refl t
  · exact feederWritten_keepsFeeders ..

/-! ## Requests on feeders and sockets (R114, R124 to R126, R130) -/

theorem feederBottom_keepsFeeders (f cls n : Nat) (s : State) : KeepsFeeders s (feederBottom f cls n s).1 := by
  unfold feederBottom
  split
  · exact (setFeeder_keepsSums (x := { s.feeder f with pointers := tableSet 0 (s.feeder f).pointers cls n })
      rfl rfl rfl).feeders
  · exact .refl s

theorem feederPoll_keepsFeeders (f : Nat) (s : State) : KeepsFeeders s (feederPoll f s).1 := by
  unfold feederPoll
  split <;> exact .refl s

/-- R127: supplied sockets, each named once, are shed one after the other. -/
theorem shedAll_keepsSums {l : List Nat} {s : State} (once : l.Nodup) (supplied : ∀ n ∈ l, (s.socket n).supplied = true)
    (source : ShedSource) (cause : ShedCause) : KeepsSums s (l.foldl (fun t n => shed n source cause t) s) := by
  induction l generalizing s with
  | nil => exact .refl s
  | cons n rest ih =>
    obtain ⟨first, once⟩ := List.nodup_cons.1 once
    refine .of_form fun form => (shed_keepsSums (supplied n List.mem_cons_self) source cause).trans (ih once fun m hm => ?_)
    have stays := supplied m (List.mem_cons_of_mem _ hm)
    obtain ⟨stamp, kept⟩ := shed_socket_other form (supplied n List.mem_cons_self) source cause
      (fun h : m = n => first (h ▸ hm)) (not_judgeable_of_supplied stays)
    rw [kept]
    exact stays

theorem feederShed_keepsFeeders (f count : Nat) (s : State) : KeepsFeeders s (feederShed f count s).1 := by
  unfold feederShed
  split
  · refine .of_sound fun sound => (shedAll_keepsSums (l := (s.shedOrder f).take count) ?_ (fun n hn => ?_) ..).feeders
    · exact (List.take_sublist ..).nodup (shedOrder_nodup sound.sockets)
    · exact ((mem_shedOrder_iff sound.sockets).1 (List.mem_of_mem_take hn)).1
  · exact .refl s

/-- A request acts only where none of its checks fails. -/
theorem checked_keepsFeeders {checks : List (Bool × Status)} {act : State → State × Answer} {s : State}
    (h : (∀ c ∈ checks, c.1 = false) → KeepsFeeders s (act s).1) : KeepsFeeders s (checked checks act s).1 := by
  unfold checked
  split
  · exact .refl s
  · next none => exact h (firstFailing_none none)

theorem socketRelease_keepsFeeders (n : Nat) (s : State) : KeepsFeeders s (socketRelease n s).1 :=
  checked_keepsFeeders fun pass => by
    simp only [List.forall_mem_cons, Bool.not_eq_false'] at pass
    exact (shed_keepsSums pass.2.1 ..).feeders

theorem socketLock_keepsFeeders (n : Nat) (s : State) : KeepsFeeders s (socketLock n s).1 := by
  unfold socketLock
  split
  · exact lockSocket_keepsFeeders n s
  · exact .refl s

theorem socketUnlock_keepsFeeders (n : Nat) (s : State) : KeepsFeeders s (socketUnlock n s).1 :=
  checked_keepsFeeders fun pass => by
    simp only [List.forall_mem_cons, decide_eq_false_iff_not, not_not] at pass
    obtain ⟨-, locked, -⟩ := pass
    exact (reevaluateAsIdle_keepsFeeders (by rw [locked]; decide) (by rw [Socket.supplied, locked]; rfl)).trans
      (grantSearch_keepsSums ..).feeders

theorem socketRearm_keepsFeeders (n : Nat) (s : State) : KeepsFeeders s (socketRearm n s).1 :=
  checked_keepsFeeders fun pass => by
    simp only [List.forall_mem_cons, decide_eq_false_iff_not, not_not] at pass
    obtain ⟨-, shed, -⟩ := pass
    exact reevaluateAsIdle_keepsFeeders (by rw [shed]; decide) (by rw [Socket.supplied, shed]; rfl)

end Sys2Proof.Machine
end

section
/-! SUPPORT. The berths, the accounts, the rollovers and the clock keep the feeders within their limits (O60). -/

namespace Sys2Proof.Machine

/-! ## Requests -/

theorem checked_aside (checks : List (Bool × Status)) {act : State → State × Answer} {s : State}
    (h : Aside s (act s).1) : Aside s (checked checks act s).1 := by
  unfold checked
  split
  · exact .refl s
  · exact h

/-- R191: a put keeps what each row that is written keeps. -/
theorem multiPut_keepsFeeders {α : Type} {row : Nat → α → State → Except Status State}
    (h : ∀ i x s t, row i x s = .ok t → KeepsFeeders s t) (most start : Nat) (l : List (PutItem α)) (s : State) :
    KeepsFeeders s (multiPut most start row l s).1 := by
  have rows (i n : Nat) (s : State) : KeepsFeeders s (putRows row i n l s).1 := by
    induction l generalizing i n s with
    | nil => exact .refl s
    | cons item rest ih =>
      cases item with
      | badItem => exact .refl s
      | row x =>
        rw [putRows]
        split
        · exact .refl s
        · next t written => exact (h i x s t written).trans (ih ..)
  unfold multiPut
  split
  · exact rows ..
  · exact .refl s

theorem getRecords_keepsFeeders (start count first last most per : Nat) (items : Nat → List Item) (s : State) :
    KeepsFeeders s (getRecords start count first last most per items s).1 := by
  rw [getRecords_state]
  exact .refl s

/-! ## Settlements of a berth (R35, R66) -/

theorem settleBerth_keepsSums (b : Nat) (s : State) : KeepsSums s (settleBerth b s) :=
  KeepsSums.trans (.foldl _ (fun t n => settleSocket_keepsSums n t) _ _) (.foldl _ (fun t n => settleTap_keepsSums n t) _ _)

theorem closeBerthTaps_keepsSums (b : Nat) (c : TapCause) (s : State) : KeepsSums s (closeBerthTaps b c s) :=
  .foldl _ (fun t n => closeTap_keepsSums n c t) _ _

theorem settleAllSockets_keepsSums (s : State) : KeepsSums s (settleAllSockets s) :=
  .foldl _ (fun t n => settleSocket_keepsSums n t) _ _

theorem settleAllTaps_keepsSums (s : State) : KeepsSums s (settleAllTaps s) :=
  .foldl _ (fun t n => settleTap_keepsSums n t) _ _

/-! ## Bookings -/

theorem setBooking_aside (b : Nat) (k : Booking) (s : State) : Aside s (s.setBooking b k) := ⟨rfl, rfl, rfl, rfl⟩

theorem moveAll_aside (b : Nat) (s : State) : Aside s (moveAll b s) :=
  .of_sameBut (moveAll_sameBut (parts := [.berths]) (by decide) b s)

theorem closeBooking_aside (state : BookState) (moment : Stamp) (b : Nat) (s : State) :
    Aside s (closeBooking state moment b s) :=
  .of_sameBut (closeBooking_sameBut (parts := [.berths, .gates]) (by decide) (by decide) state moment b s)

theorem extendBooking_aside (d b : Nat) (s : State) : Aside s (extendBooking d b s) :=
  .of_sameBut (extendBooking_sameBut (parts := [.berths]) (by decide) d b s)

theorem arrive_keepsSums (b source : Nat) (s : State) : KeepsSums s (arrive b source s) := by
  refine KeepsSums.raise ?_ _
  exact (farEntitle_keepsSums ..).after ⟨rfl, rfl, rfl, rfl⟩

theorem takeArrival_keepsSums (s : State) : KeepsSums s (takeArrival s) := by
  unfold takeArrival
  split
  · exact .refl s
  · next a rest _ =>
    refine KeepsSums.after (t := s.setArrivals rest) ?_ ⟨rfl, rfl, rfl, rfl⟩
    unfold autoArrive
    split
    · exact (KeepsSums.refl _).raise _
    · exact arrive_keepsSums ..

theorem postFee_keepsSums (b : Nat) (s : State) : KeepsSums s (postFee b s) :=
  (post_keepsSums ..).after (setBooking_aside ..)

theorem leaveBerth_keepsFeeders (b : Nat) (s : State) : KeepsFeeders s (leaveBerth b s) := by
  unfold leaveBerth
  have settled : KeepsFeeders s (settleBerth b s) := (settleBerth_keepsSums b s).feeders
  have left := settled.trans (farDepart_keepsFeeders b (settleBerth b s))
  exact left.trans (closeBerthTaps_keepsSums b .depart (farDepart b (settleBerth b s))).feeders

theorem depart_keepsFeeders (b : Nat) (s : State) : KeepsFeeders s (depart b s).1 := by
  have charged : KeepsFeeders s (closingFee b s) := .ite (postFee_keepsSums b s).feeders (.refl s)
  have left : KeepsFeeders s (berthLeft b s) := charged.trans (leaveBerth_keepsFeeders ..)
  obtain ⟨-, far, pdl, -⟩ := depart_rest b s
  exact left.andThen ⟨far, by rw [pdl], by rw [pdl], by rw [pdl]⟩

theorem bookAlloc_aside (n : NewBooking) (preference : Nat) (s : State) : Aside s (bookAlloc n preference s).1 := by
  refine checked_aside _ ?_
  split
  · exact .refl s
  · split
    · exact .refl s
    · exact setBooking_aside ..

theorem bookFixed_aside (n : NewBooking) (berth : Nat) (force : Bool) (s : State) :
    Aside s (bookFixed n berth force s).1 := by
  refine checked_aside _ ?_
  split
  · exact .refl s
  · exact checked_aside _ (setBooking_aside ..)

theorem bookPlace_aside (b preference : Nat) (s : State) : Aside s (bookPlace b preference s).1 := by
  refine checked_aside _ ?_
  split
  · exact .refl s
  · exact setBooking_aside ..

theorem bookArrive_keepsSums (b : Nat) (s : State) : KeepsSums s (bookArrive b s).1 := by
  unfold bookArrive
  split
  · exact .refl s
  · exact arrive_keepsSums ..

theorem tellClass_keepsFeeders (b : Nat) (old new : BerthClass) (s : State) : KeepsFeeders s (tellClass b old new s) :=
  .ite (.refl s) <| .ite (farEntitle_keepsSums b s).feeders <|
    .ite ((farDepart_keepsFeeders b s).trans (closeBerthTaps_keepsSums ..).feeders) (.refl s)

theorem berthRow_keepsFeeders (i : Nat) (r : BerthRow) (s t : State) (h : berthRow i r s = .ok t) : KeepsFeeders s t := by
  unfold berthRow at h
  split at h
  · next cls state _ _ =>
    dsimp only at h
    obtain ⟨-, h⟩ := ok_of_ite h
    obtain ⟨-, h⟩ := ok_of_ite h
    obtain ⟨-, h⟩ := ok_of_ite h
    have written : Aside s (s.setBerth i (berthEntry r cls state)) := ⟨rfl, rfl, rfl, rfl⟩
    have told := (tellClass_keepsFeeders i (s.berth i).cls cls _).after written
    rw [← Except.ok.inj h]
    exact .ite (told.andThen (moveAll_aside ..)) told
  · cases h

theorem berthGet_keepsFeeders (q : BerthQuery) (s : State) : KeepsFeeders s (berthGet q s).1 := by
  unfold berthGet
  cases q with
  | entries =>
    dsimp only
    split <;> exact .refl s
  | calendar =>
    dsimp only
    split <;> exact .refl s

theorem tideRow_keepsFeeders (i : Nat) (r : TideRow) (s t : State) (h : tideRow i r s = .ok t) : KeepsFeeders s t := by
  obtain ⟨l, rfl⟩ := tideRow_ok h
  exact .of_aside ⟨rfl, rfl, rfl, rfl⟩

theorem tideGet_keepsFeeders (start count : Nat) (s : State) : KeepsFeeders s (tideGet start count s).1 := by
  unfold tideGet
  split <;> exact .refl s

/-! ## Accounts -/

theorem setAccount_aside (a : Nat) (k : Account) (s : State) : Aside s (s.setAccount a k) := ⟨rfl, rfl, rfl, rfl⟩

theorem acctPay_keepsFeeders (a : Nat) (x : Int) (s : State) : KeepsFeeders s (acctPay a x s).1 :=
  checked_keepsFeeders fun _ => (post_keepsSums ..).feeders

theorem acctLimit_keepsFeeders (a limit : Nat) (s : State) : KeepsFeeders s (acctLimit a limit s).1 :=
  checked_keepsFeeders fun _ => ((evaluateAndTell_keepsSums ..).after (setAccount_aside ..)).feeders

theorem acctClose_keepsFeeders (a : Nat) (s : State) : KeepsFeeders s (acctClose a s).1 :=
  checked_keepsFeeders fun _ =>
    have closed := setAccount_aside a coldAccount s
    (KeepsSums.ite ((tellHold_keepsSums ..).after closed) (.of_aside closed)).feeders

theorem tariffRow_keepsFeeders (i : Nat) (r : TariffRow) (s t : State) (h : tariffRow i r s = .ok t) :
    KeepsFeeders s t := by
  unfold tariffRow at h
  split at h
  · cases h
    exact .of_aside ⟨rfl, rfl, rfl, rfl⟩
  · cases h

/-! ## Rollovers and the events of the clock -/

theorem setClk_aside (x : Clk) (s : State) : Aside s (s.setClk x) := ⟨rfl, rfl, rfl, rfl⟩

theorem walkRecord_keepsSums (d : Nat) (moment : Stamp) (b : Nat) (w : State × WalkCounts) :
    KeepsSums w.1 (walkRecord d moment b w).1 := by
  have fee : KeepsSums w.1 (if (w.1.booking b).feeDue d then postFee b w.1 else w.1) :=
    .ite (postFee_keepsSums ..) (.refl _)
  have gone (u : State) (c : Bool) (body : NoticeBody) :
      Aside u (if c then (closeBooking .noShow moment b u).raise body else u) :=
    .ite ((closeBooking_aside ..).raise _) (.refl u)
  have more (u : State) (c : Bool) : Aside u (if c then extendBooking d b u else u) :=
    .ite (extendBooking_aside ..) (.refl u)
  exact (fee.andThen (gone ..)).andThen (more ..)

theorem rollOver_keepsSums (source : RolloverSource) (moment : Stamp) (d : Nat) (s : State) :
    KeepsSums s (rollOver source moment d s) := by
  have walked : KeepsSums (rolloverBegun d s) (walk d moment (rolloverBegun d s)).1 :=
    walk_keeps (kept := KeepsSums) .refl .trans (fun b w => walkRecord_keepsSums d moment b w) _
  have begun : Aside s (rolloverBegun d s) := ⟨rfl, rfl, rfl, rfl⟩
  rw [rollOver_eq]
  exact (walked.after begun).raise _

theorem rollRun_keepsSums (source : RolloverSource) (first count : Nat) (s : State) :
    KeepsSums s (rollRun source first count s) := .foldl _ (fun t _ => rollOver_keepsSums _ _ _ t) _ _

theorem catchUpRun_keepsSums (s : State) : KeepsSums s (catchUpRun s) := by
  have begun : Aside s (s.setClk { s.clk with catchUpDue := false }) := setClk_aside ..
  exact .ite (.of_aside begun) <|
    .ite ((rollRun_keepsSums ..).after begun) ((rollRun_keepsSums ..).after (begun.raise _))

theorem hourRollover_keepsSums (s : State) : KeepsSums s (hourRollover s) := .ite (rollOver_keepsSums ..) (.refl s)

theorem settlementInterval_keepsSums (s : State) : KeepsSums s (settlementInterval s) := by
  have settled := (settleAllSockets_keepsSums s).trans (settleAllTaps_keepsSums _)
  have timed (t : State) : Aside t (resetSettleTimer (t.setClk { t.clk with settleDue := false })) := ⟨rfl, rfl, rfl, rfl⟩
  unfold settlementInterval
  exact .ite (settled.andThen (timed _)) (.refl s)

theorem bandBoundary_keepsSums (begins : Band) (s : State) : KeepsSums s (bandBoundary begins s) := by
  unfold bandBoundary
  exact .ite ((settleAllSockets_keepsSums s).andThen (setClk_aside ..)) (.refl s)

theorem setTime_aside (day sec : Nat) (s : State) : Aside s (setTime day sec s) := ⟨rfl, rfl, rfl, rfl⟩

theorem clockSet_keepsSums (day sec : Nat) (s : State) : KeepsSums s (clockSet day sec s).1 := by
  unfold clockSet
  dsimp only
  split
  · exact .refl s
  split
  · exact .of_aside ⟨rfl, rfl, rfl, rfl⟩
  split
  · exact .refl s
  split
  · exact (rollRun_keepsSums ..).andThen (setTime_aside ..)
  split
  · exact .of_aside (setTime_aside ..)
  · exact .of_aside (setClk_aside ..)

/-- A row is written only where the check that admits it holds. -/
theorem ok_of_then {c : Prop} [Decidable c] {code : Status} {row : Except Status State} {t : State}
    (h : (if c then row else .error code) = .ok t) : row = .ok t := by
  split at h
  · exact h
  · cases h

theorem siteItem_keepsFeeders (i : Nat) (r : SiteItem) (s t : State) (h : siteItem i r s = .ok t) : KeepsFeeders s t := by
  have hours {day night : Nat} (h : setBandHours day night s = .ok t) : KeepsFeeders s t := by
    unfold setBandHours at h
    split at h <;> cases h
    exact .of_aside (setClk_aside ..)
  have hour (n : Nat) : KeepsFeeders s (setRollHour n s) :=
    have written : Aside s (s.setClk { s.clk with rollHour := n }) := setClk_aside ..
    (KeepsSums.ite ((rollOver_keepsSums ..).after written) (.of_aside written)).feeders
  have written {u : State} (h : Except.ok u = (.ok t : Except Status State)) (k : Aside s u) : KeepsFeeders s t :=
    Except.ok.inj h ▸ .of_aside k
  unfold siteItem at h
  dsimp only at h
  split at h
  · exact written (ok_of_then h) ⟨rfl, rfl, rfl, rfl⟩
  · exact written (ok_of_then h) ⟨rfl, rfl, rfl, rfl⟩
  · exact written (ok_of_then h) ⟨rfl, rfl, rfl, rfl⟩
  · exact Except.ok.inj (ok_of_then h) ▸ hour _
  · exact written (ok_of_then h) ⟨rfl, rfl, rfl, rfl⟩
  · exact hours (ok_of_then h)
  · exact hours (ok_of_then h)
  · exact hours (ok_of_then h)
  · exact written (ok_of_then h) ⟨rfl, rfl, rfl, rfl⟩
  · cases h

theorem siteGet_keepsFeeders (params : List Nat) (s : State) : KeepsFeeders s (siteGet params s).1 := by
  unfold siteGet
  split
  · exact .refl s
  · split <;> exact .refl s

end Sys2Proof.Machine
end

section
/-! SUPPORT. The operations of the fuel dock and of the gates leave the feeders alone, but for what they charge (O60). -/

namespace Sys2Proof.Machine

/-! ## The fuel dock -/

theorem enterHose_aside (h : Nat) (state : HoseState) (sale auth flow : Option Nat) (s : State) :
    Aside s (enterHose h state sale auth flow s) := ⟨rfl, rfl, rfl, rfl⟩

theorem updateSale_aside (number : Nat) (f : Sale → Sale) (s : State) : Aside s (updateSale number f s) :=
  ⟨rfl, rfl, rfl, rfl⟩

theorem enterFuelling_aside (h : Nat) (x : Sale) (s : State) : Aside s (enterFuelling h x s) :=
  .ite ((enterHose_aside ..).trans (updateSale_aside ..)) (enterHose_aside ..)

theorem handToAcu_keepsSums (x : Sale) (charged : Nat) (s : State) : KeepsSums s (handToAcu x charged s) := by
  unfold handToAcu
  split
  · exact (post_keepsSums ..).after (setAccount_aside ..)
  · exact post_keepsSums ..
  · exact .refl s

theorem closeSale_keepsSums (x : Sale) (reason : EndReason) (s : State) : KeepsSums s (closeSale x reason s) :=
  (handToAcu_keepsSums ..).andThen (updateSale_aside ..)

theorem endSale_keepsSums (h : Nat) (state : HoseState) (reason : EndReason) (s : State) :
    KeepsSums s (endSale h state reason s) := by
  unfold endSale
  split
  · exact .of_aside (enterHose_aside ..)
  · exact ((closeSale_keepsSums ..).andThen (enterHose_aside ..)).raise _

theorem authorise_aside (a : Auth) (s : State) : Aside s (authorise a s) := .of_sameBut (authorise_sameBut a s)

theorem hoseAuth_aside (r : AuthRequest) (s : State) : Aside s (hoseAuth r s).1 := by
  unfold hoseAuth
  split
  · exact .refl s
  · split
    · exact checked_aside _ (authorise_aside ..)
    · exact .refl s

theorem touchCred_aside (c : Nat) (s : State) : Aside s (touchCred c s) := .of_gatesOnly (touchCred_gatesOnly c s)

theorem lampRed_aside (s : State) : Aside s (lampRed s) := ⟨rfl, rfl, rfl, rfl⟩

theorem selfServeOffer_aside (s : State) : Aside s (selfServeOffer s) := by
  cases offer : s.gtc.fuel.offer with
  | none =>
    unfold selfServeOffer
    rw [offer]
    exact .refl s
  | some o =>
    cases accepted : s.offerRefused o with
    | none =>
      rw [selfServeOffer_accepted offer accepted]
      exact (Aside.of_sameBut (offerAccepted_sameBut o s)).raise _
    | some code =>
      rw [selfServeOffer_refused offer accepted]
      have ended : Aside s (lampRed (endOffer s)) := ⟨rfl, rfl, rfl, rfl⟩
      exact ended.raise _

theorem keepNozzle_aside (h : Nat) (lifted : Bool) (s : State) : Aside s (keepNozzle h lifted s) :=
  ⟨rfl, rfl, rfl, rfl⟩

theorem nozzleLift_aside (h : Nat) (s : State) : Aside s (nozzleLift h s) := by
  have read := keepNozzle_aside h true s
  unfold nozzleLift
  dsimp only
  split
  · exact (read.trans (enterHose_aside ..)).raise _
  · split
    · exact read.trans (enterFuelling_aside ..)
    · exact read
  all_goals exact read

theorem nozzleHang_keepsSums (h : Nat) (s : State) : KeepsSums s (nozzleHang h s) := by
  have read := keepNozzle_aside h false s
  have ended (reason : EndReason) : KeepsSums s (endSale h .idle reason (keepNozzle h false s)) :=
    (endSale_keepsSums ..).after read
  unfold nozzleHang
  dsimp only
  split
  · exact .of_aside (read.trans (enterHose_aside ..))
  · exact .of_aside (read.trans (enterHose_aside ..))
  · exact ended _
  · exact ended _
  · exact ended _
  all_goals exact .of_aside read

theorem strayPulse_aside (h : Nat) (s : State) : Aside s (strayPulse h s) := by
  have counted : Aside s (s.setHose h
      { s.hose h with stray := min ((s.hose h).stray + 1) 65535, strayReported := true }) := ⟨rfl, rfl, rfl, rfl⟩
  exact .ite counted (counted.raise _)

theorem salePulse_aside (h : Nat) (x : Sale) (s : State) : Aside s (salePulse h x s) := by
  unfold salePulse
  dsimp only
  split
  · exact ⟨rfl, rfl, rfl, rfl⟩
  · have moved (state : HoseState) (f : Sale → Sale) := (updateSale_aside x.number f s).trans
      (enterHose_aside h state (s.hose h).sale none (some s.uptime) _)
    exact .ite ((moved ..).trans (updateSale_aside ..)) (moved ..)

theorem pulse_aside (h : Nat) (s : State) : Aside s (pulse h s) := by
  have taken : Aside s (match s.hoseSale h with | some x => salePulse h x s | none => strayPulse h s) := by
    split
    · exact salePulse_aside ..
    · exact strayPulse_aside ..
  unfold pulse
  split
  · exact taken
  · exact taken
  · exact taken
  all_goals exact strayPulse_aside ..

theorem authTimeout_keepsSums (h : Nat) (s : State) : KeepsSums s (authTimeout h s) :=
  .ite (endSale_keepsSums ..) (.refl s)

theorem closeHose_aside (h : Nat) (reason : EndReason) (s : State) : Aside s (closeHose h reason s) := by
  unfold closeHose
  dsimp only
  split
  · exact (enterHose_aside ..).trans (updateSale_aside ..)
  · exact enterHose_aside ..

theorem noFlow_keepsSums (h : Nat) (s : State) : KeepsSums s (noFlow h s) := by
  unfold noFlow
  split
  · exact .of_aside (closeHose_aside ..)
  · exact .of_aside (closeHose_aside ..)
  · exact endSale_keepsSums ..
  all_goals exact .refl s

theorem startHoses_aside (l : List Nat) (s : State) : Aside s (l.foldl (fun u h => startHoseNow h u) s) :=
  .foldl (fun u h => startHoseNow h u) (fun _ _ => ⟨rfl, rfl, rfl, rfl⟩) l s

theorem powerSale_keepsSums (x : Sale) (s : State) : KeepsSums s (powerSale x s) := (handToAcu_keepsSums ..).raise _

theorem fdcStart_keepsSums (s : State) : KeepsSums s (fdcStart s) := by
  have charged : KeepsSums s ((s.fdc.sales.filter fun x => !x.done).foldl (fun t x => powerSale x t) s) :=
    .foldl _ (fun t x => powerSale_keepsSums x t) _ s
  have recorded (u : State) (l : List Sale) : Aside u (u.setSales l) := ⟨rfl, rfl, rfl, rfl⟩
  have ready (u : State) : Aside u { u with fdc := { u.fdc with ready := true } } := ⟨rfl, rfl, rfl, rfl⟩
  exact ((charged.andThen (recorded ..)).andThen (startHoses_aside [1, 2, 3, 4] _)).andThen (ready _)

theorem hoseRow_aside (i : Nat) (r : HoseRow) (s t : State) (h : hoseRow i r s = .ok t) : Aside s t := by
  unfold hoseRow at h
  obtain ⟨-, h⟩ := ok_of_ite h
  obtain ⟨-, h⟩ := ok_of_ite h
  obtain ⟨-, h⟩ := ok_of_ite h
  cases h
  exact ⟨rfl, rfl, rfl, rfl⟩

theorem hoseStop_keepsSums (h : Nat) (s : State) : KeepsSums s (hoseStop h s).1 := by
  unfold hoseStop
  split
  · exact .refl s
  split
  · exact .refl s
  dsimp only
  split
  · exact endSale_keepsSums ..
  · exact .of_aside (closeHose_aside ..)
  · exact .of_aside (closeHose_aside ..)
  · exact endSale_keepsSums ..
  all_goals exact .refl s

theorem priceRow_aside (i price : Nat) (s t : State) (h : priceRow i price s = .ok t) : Aside s t := by
  unfold priceRow at h
  split at h
  · cases h
    exact ⟨rfl, rfl, rfl, rfl⟩
  · cases h

theorem salePeek_aside (number : Option Nat) (s : State) : Aside s (salePeek number s).1 := by
  unfold salePeek
  split
  · exact .refl s
  · split
    · exact .refl s
    · split <;> exact .refl s

theorem removeSale_aside (number : Nat) (s : State) : Aside s (removeSale number s) := ⟨rfl, rfl, rfl, rfl⟩

theorem saleTake_aside (number : Option Nat) (s : State) : Aside s (saleTake number s).1 := by
  unfold saleTake
  split
  · split
    · exact .refl s
    · exact removeSale_aside ..
  · split
    · exact .refl s
    split
    · exact .refl s
    split
    · exact removeSale_aside ..
    · exact .refl s

/-! ## Doors -/

theorem releaseDoor_aside (g : Nat) (cred : Option Nat) (dir : Direction) (passback : Bool) (s : State) :
    Aside s (releaseDoor g cred dir passback s) := ⟨rfl, rfl, rfl, rfl⟩

theorem settleDoor_aside (g : Nat) (door : DoorState) (s : State) : Aside s (settleDoor g door s) :=
  ⟨rfl, rfl, rfl, rfl⟩

theorem setGate_aside (g : Nat) (x : Gate) (s : State) : Aside s (s.setGate g x) := ⟨rfl, rfl, rfl, rfl⟩

theorem setTerminal_aside (n : Nat) (x : Terminal) (s : State) : Aside s (s.setTerminal n x) :=
  ⟨rfl, rfl, rfl, rfl⟩

theorem setFuel_aside (x : FuelTerminal) (s : State) : Aside s (s.setFuel x) := ⟨rfl, rfl, rfl, rfl⟩

theorem setCred_aside (c : Nat) (x : Cred) (s : State) : Aside s (s.setCred c x) := ⟨rfl, rfl, rfl, rfl⟩

theorem dropCard_aside (n : Nat) (s : State) : Aside s (dropCard n s) :=
  .of_sameBut (dropCard_sameBut (parts := [.gates]) (by decide) n s)

theorem writeLocation_aside (cred : Option Nat) (dir : Direction) (s : State) :
    Aside s (writeLocation cred dir s) := by
  unfold writeLocation
  split
  · exact .refl s
  · refine .ite (.refl s) ?_
    split
    · exact setCred_aside ..
    · exact setCred_aside ..
    · exact .refl s

theorem requestArrival_aside (g : Nat) (cred : Option Nat) (dir : Direction) (s : State) :
    Aside s (requestArrival g cred dir s) := by
  unfold requestArrival
  split
  · exact .refl s
  · split
    · exact .refl s
    · exact .ite (⟨rfl, rfl, rfl, rfl⟩) (.refl s)

theorem passage_aside (g : Nat) (s : State) : Aside s (passage g s) :=
  (((setGate_aside ..).trans (writeLocation_aside ..)).raise _).trans (requestArrival_aside ..)

theorem doorOpens_aside (g : Nat) (s : State) : Aside s (doorOpens g s) := by
  have read : Aside s (keepContact g true s) := setGate_aside ..
  unfold doorOpens
  refine .ite ((read.trans (settleDoor_aside ..)).raise _) ?_
  split
  · exact (read.trans (settleDoor_aside ..)).raise _
  · exact read.trans (passage_aside ..)
  all_goals exact read

theorem doorCloses_aside (g : Nat) (s : State) : Aside s (doorCloses g s) := by
  have read : Aside s (keepContact g false s) := setGate_aside ..
  unfold doorCloses
  dsimp only
  split
  · exact read.trans (settleDoor_aside ..)
  · exact (read.trans (settleDoor_aside ..)).raise _
  · exact (read.trans (settleDoor_aside ..)).raise _
  all_goals exact read

theorem releaseTimeout_aside (g : Nat) (s : State) : Aside s (releaseTimeout g s) :=
  .ite (settleDoor_aside ..) (.refl s)

theorem heldTimeout_aside (g : Nat) (s : State) : Aside s (heldTimeout g s) :=
  .ite ((setGate_aside ..).raise _) (.refl s)

theorem exitButton_aside (g : Nat) (s : State) : Aside s (exitButton g s) :=
  .ite (releaseDoor_aside ..) (.refl s)

theorem changeMode_aside (g : Nat) (old new : GateMode) (s : State) : Aside s (changeMode g old new s) := by
  unfold changeMode
  refine .ite (.refl s) (.ite ?_ (.ite (.ite ?_ (settleDoor_aside ..)) (.refl s)))
  · dsimp only
    split
    · exact (settleDoor_aside ..).raise _
    · exact (settleDoor_aside ..).raise _
    all_goals exact settleDoor_aside ..
  · exact (settleDoor_aside ..).trans (setGate_aside ..)

/-! ## Presentations -/

theorem grantEntry_aside (g c : Nat) (s : State) : Aside s (grantEntry g c s) :=
  (releaseDoor_aside ..).trans (touchCred_aside ..)

theorem present_aside (g c : Nat) (reader : Reader) (s : State) : Aside s (present g c reader s) := by
  unfold present
  refine .ite (.refl s) ?_
  split
  · exact (Aside.refl s).raise _
  · exact grantEntry_aside ..

theorem clearBuffer_aside (n : Nat) (s : State) : Aside s (clearBuffer n s) := setTerminal_aside ..

theorem lockOut_aside (n : Nat) (s : State) : Aside s (lockOut n s) :=
  ((dropCard_aside n s).trans (clearBuffer_aside ..)).trans (setTerminal_aside ..)

theorem failSubmission_aside (n : Nat) (s : State) : Aside s (failSubmission n s).1 := by
  unfold failSubmission
  dsimp only
  split
  · exact lockOut_aside n s
  · exact setTerminal_aside ..

theorem refuseSubmission_aside (n : Nat) (reader : Reader) (c : Option Nat) (s : State) :
    Aside s (refuseSubmission n reader c s) := (failSubmission_aside n s).raise _

theorem clearFailures_aside (n : Nat) (s : State) : Aside s (clearFailures n s) := setTerminal_aside ..

theorem submitAtGate_aside (g : Nat) (pin : List Nat) (s : State) : Aside s (submitAtGate g pin s) := by
  unfold submitAtGate
  split
  · exact .ite (((dropCard_aside ..).trans (clearFailures_aside ..)).trans (present_aside ..))
      ((dropCard_aside ..).trans (refuseSubmission_aside ..))
  · split
    · exact (clearFailures_aside ..).trans (present_aside ..)
    · exact refuseSubmission_aside ..

theorem makeOffer_aside (c : PendingCard) (h : Nat) (s : State) : Aside s (makeOffer c h s) :=
  (dropCard_aside 7 s).trans (setFuel_aside ..)

theorem submitPin_aside (c : PendingCard) (pin : List Nat) (s : State) : Aside s (submitPin c pin s) :=
  .ite (((clearFailures_aside 7 s).trans (setTerminal_aside ..)).trans (setFuel_aside ..))
    (((dropCard_aside 7 s).trans (refuseSubmission_aside ..)).trans (lampRed_aside _))

theorem submitAtDock_aside (digits : List Nat) (s : State) : Aside s (submitAtDock digits s) := by
  unfold submitAtDock
  split
  · exact submitPin_aside ..
  · split
    · exact makeOffer_aside ..
    · exact .refl s
  · exact .refl s

theorem submit_aside (n : Nat) (s : State) : Aside s (submit n s) :=
  .ite (.refl s) <| .ite ((clearBuffer_aside n s).trans (submitAtDock_aside ..))
    ((clearBuffer_aside n s).trans (submitAtGate_aside ..))

theorem takeKey_aside (n key : Nat) (s : State) : Aside s (takeKey n key s) :=
  .ite (.refl s) <| .ite (.refl s) <| .ite (setTerminal_aside ..) <|
    .ite ((dropCard_aside n s).trans (clearBuffer_aside ..)) (submit_aside n s)

theorem keyEvent_aside (n key : Nat) (s : State) : Aside s (keyEvent n key s) :=
  Aside.trans (t := forgetKey n key s) ⟨rfl, rfl, rfl, rfl⟩ (takeKey_aside ..)

theorem interKeyTimeout_aside (n : Nat) (s : State) : Aside s (interKeyTimeout n s) :=
  .ite (clearBuffer_aside ..) (.refl s)

theorem fullScan_aside (n : Nat) (r : KeyReading) (s : State) : Aside s (fullScan n r s) := by
  unfold fullScan
  dsimp only
  split <;> exact ⟨rfl, rfl, rfl, rfl⟩

/-! ## Card reads -/

theorem holdCard_aside (n c : Nat) (s : State) : Aside s (holdCard n c s) := setTerminal_aside ..

theorem entryRead_aside (g token : Nat) (s : State) : Aside s (entryRead g token s) := by
  unfold entryRead
  split
  · exact (Aside.refl s).raise _
  · exact .ite (present_aside ..) <| .ite ((Aside.refl s).raise _) (holdCard_aside ..)

theorem exitRead_aside (g token : Nat) (s : State) : Aside s (exitRead g token s) := by
  unfold exitRead
  refine .ite (.refl s) (.ite ((Aside.refl s).raise _) ?_)
  split
  · exact (Aside.refl s).raise _
  · exact .ite ((Aside.refl s).raise _) ((releaseDoor_aside ..).trans (touchCred_aside ..))

theorem refuseDock_aside (c : Option Nat) (reason : GateRefusal) (s : State) : Aside s (refuseDock c reason s) :=
  ((Aside.refl s).raise _).trans (lampRed_aside _)

theorem dockRead_aside (token : Nat) (s : State) : Aside s (dockRead token s) := by
  have dropped := dropCard_aside 7 s
  unfold dockRead
  refine .ite (refuseDock_aside ..) ?_
  dsimp only
  split
  · exact dropped.trans (refuseDock_aside ..)
  · split
    · exact dropped.trans (refuseDock_aside ..)
    · exact (dropped.trans (holdCard_aside ..)).trans (setFuel_aside ..)

theorem cardRead_aside (n : Nat) (exitReader : Bool) (token : Nat) (s : State) :
    Aside s (cardRead n exitReader token s) :=
  have cleared := clearBuffer_aside n s
  .ite ((clearBuffer_aside 7 s).trans (dockRead_aside ..)) <| .ite (.refl s) <| .ite cleared <|
    .ite (cleared.trans (exitRead_aside ..)) (cleared.trans (entryRead_aside ..))

theorem cardWindowExpiry_aside (g : Nat) (s : State) : Aside s (cardWindowExpiry g s) :=
  .ite ((dropCard_aside g s).trans (clearBuffer_aside ..)) (.refl s)

theorem fuelWindowExpiry_aside (s : State) : Aside s (fuelWindowExpiry s) :=
  .ite (.refl s) ((dropCard_aside 7 s).trans (clearBuffer_aside ..))

theorem startGateNow_aside (g : Nat) (s : State) : Aside s (startGateNow g s) :=
  .ite ((setGate_aside ..).trans (doorOpens_aside ..)) (setGate_aside ..)

/-! ## Requests on credentials and gates -/

theorem credRow_aside (i : Nat) (r : CredRow) (s t : State) (h : credRow i r s = .ok t) : Aside s t := by
  unfold credRow at h
  split at h
  · dsimp only at h
    obtain ⟨-, h⟩ := ok_of_ite h
    obtain ⟨-, h⟩ := ok_of_ite h
    obtain ⟨-, h⟩ := ok_of_ite h
    obtain ⟨-, h⟩ := ok_of_ite h
    rw [← Except.ok.inj h]
    exact (Aside.of_gatesOnly (endCredUse_credUsesOnly i s).gatesOnly).trans (setCred_aside ..)
  · cases h

theorem credGet_aside (q : CredQuery) (s : State) : Aside s (credGet q s).1 := by
  unfold credGet
  split
  · rw [getRecords_state]
    exact .refl s
  · split <;> exact .refl s

theorem credSuspend_aside (c : Nat) (s : State) : Aside s (credSuspend c s).1 :=
  checked_aside _ <| setCred_aside ..

theorem credResume_aside (c : Nat) (s : State) : Aside s (credResume c s).1 :=
  checked_aside _ <| setCred_aside ..

theorem credFree_aside (c : Nat) (s : State) : Aside s (credFree c s).1 :=
  checked_aside _ <| .ite (.refl s) (.of_gatesOnly (freeCred_gatesOnly c s))

theorem gateRow_aside (i : Nat) (r : GateRow) (s t : State) (h : gateRow i r s = .ok t) : Aside s t := by
  unfold gateRow at h
  split at h
  · split at h
    · cases h
      exact ⟨rfl, rfl, rfl, rfl⟩
    · cases h
  · cases h

theorem gateMode_aside (g mode : Nat) (s : State) : Aside s (gateMode g mode s).1 := by
  unfold gateMode
  split
  · split
    · next new _ _ =>
      have moded : Aside s (s.setGateCfg g { s.gateCfg g with mode := new }) := ⟨rfl, rfl, rfl, rfl⟩
      exact moded.trans (changeMode_aside ..)
    · exact .refl s
  · exact .refl s

theorem gatePulse_aside (g : Nat) (s : State) : Aside s (gatePulse g s).1 :=
  checked_aside _ <| releaseDoor_aside ..

end Sys2Proof.Machine
end

section
/-! SUPPORT. The host link, the owners, the passing of time, the starts, and every command keep the feeders within their
limits (O60). -/

namespace Sys2Proof.Machine

/-! ## The host link -/

theorem setHlc_aside (x : Hlc) (s : State) : Aside s (s.setHlc x) := ⟨rfl, rfl, rfl, rfl⟩

theorem pump_aside (s : State) : Aside s (pump s) := .of_sameBut (parts := []) (pump_sameBut s)

theorem takeRequest_keepsFeeders {o : State → State × Answer} (h : ∀ s, KeepsFeeders s (o s).1) (kind tag : Nat)
    (s : State) : KeepsFeeders s (takeRequest kind tag o s) := (h s).andThen (setHlc_aside ..)

theorem event_keepsFeeders {f : State → State} (h : ∀ s, KeepsFeeders s (f s)) (s : State) : KeepsFeeders s (event f s) :=
  .ite ((h s).andThen (pump_aside _)) (.refl s)

theorem event_keepsFeeders_of_sums {f : State → State} (h : ∀ s, KeepsSums s (f s)) (s : State) :
    KeepsFeeders s (event f s) := event_keepsFeeders (fun s => (h s).feeders) s

theorem event_keepsFeeders_of_aside {f : State → State} (h : ∀ s, Aside s (f s)) (s : State) :
    KeepsFeeders s (event f s) := event_keepsFeeders (fun s => .of_aside (h s)) s

theorem joinWaiting_aside (f : Frame) (s : State) : Aside s (joinWaiting f s) := .ite (setHlc_aside ..) (.refl s)

theorem request_keepsFeeders {o : State → State × Answer} (h : ∀ s, KeepsFeeders s (o s).1) (i : Instr) (s : State) :
    KeepsFeeders s (request i o s) := by
  unfold request
  split
  · exact .refl s
  · exact event_keepsFeeders (fun s => .ite (takeRequest_keepsFeeders h ..) (.of_aside (joinWaiting_aside ..))) s

/-! ## The owners of the requests -/

theorem multiPut_keepsFeeders_of_aside {α : Type} {row : Nat → α → State → Except Status State}
    (h : ∀ i x s t, row i x s = .ok t → Aside s t) (most start : Nat) (l : List (PutItem α)) (s : State) :
    KeepsFeeders s (multiPut most start row l s).1 :=
  multiPut_keepsFeeders (fun i x s t written => .of_aside (h i x s t written)) most start l s

theorem owner_keepsFeeders {i : Instr} {o : State → State × Answer} (h : owner i = some o) (s : State) :
    KeepsFeeders s (o s).1 := by
  have written (checks : List (Bool × Status)) {act : State → State × Answer} (h : Aside s (act s).1) :
      KeepsFeeders s (checked checks act s).1 := .of_aside (checked_aside checks h)
  cases i with
  | requestUnknownKind => cases h; exact .refl s
  | status => cases h; exact .refl s
  | restart => cases h; exact .of_aside ⟨rfl, rfl, rfl, rfl⟩
  | sitePut => cases h; exact multiPut_keepsFeeders siteItem_keepsFeeders ..
  | siteGet => cases h; exact siteGet_keepsFeeders ..
  | clockSet => cases h; exact (clockSet_keepsSums ..).feeders
  | clockGet => cases h; exact .refl s
  | berthPut => cases h; exact multiPut_keepsFeeders berthRow_keepsFeeders ..
  | berthGet => cases h; exact berthGet_keepsFeeders ..
  | tidePut => cases h; exact multiPut_keepsFeeders tideRow_keepsFeeders ..
  | tideGet => cases h; exact tideGet_keepsFeeders ..
  | bookAlloc => cases h; exact .of_aside (bookAlloc_aside ..)
  | bookFixed => cases h; exact .of_aside (bookFixed_aside ..)
  | bookFixedIndex => cases h; exact written _ (setBooking_aside ..)
  | bookPlace => cases h; exact .of_aside (bookPlace_aside ..)
  | bookArrive => cases h; exact (bookArrive_keepsSums ..).feeders
  | bookChange => cases h; exact written _ (setBooking_aside ..)
  | bookDepart => cases h; exact checked_keepsFeeders fun _ => depart_keepsFeeders ..
  | bookCancel => cases h; exact written _ (closeBooking_aside ..)
  | bookGet => cases h; exact getRecords_keepsFeeders ..
  | acctOpen => cases h; exact written _ (setAccount_aside ..)
  | acctPay => cases h; exact acctPay_keepsFeeders ..
  | acctLimit => cases h; exact acctLimit_keepsFeeders ..
  | acctClose => cases h; exact acctClose_keepsFeeders ..
  | acctGet => cases h; exact getRecords_keepsFeeders ..
  | tariffPut => cases h; exact multiPut_keepsFeeders tariffRow_keepsFeeders ..
  | tariffGet => cases h; exact getRecords_keepsFeeders ..
  | pedestalPut => cases h; exact multiPut_keepsFeeders pedestalRow_keepsFeeders ..
  | pedestalGet => cases h; exact getRecords_keepsFeeders ..
  | socketPut => cases h; exact multiPut_keepsFeeders socketRow_keepsFeeders ..
  | tapPut => cases h; exact multiPut_keepsFeeders tapRow_keepsFeeders ..
  | tapClose => cases h; exact tapClose_keepsFeeders ..
  | feederPut => cases h; exact multiPut_keepsFeeders feederRow_keepsFeeders ..
  | feederGet => cases h; exact getRecords_keepsFeeders ..
  | feederBottom => cases h; exact feederBottom_keepsFeeders ..
  | feederPoll => cases h; exact feederPoll_keepsFeeders ..
  | feederShed => cases h; exact feederShed_keepsFeeders ..
  | socketRelease => cases h; exact socketRelease_keepsFeeders ..
  | socketLock => cases h; exact socketLock_keepsFeeders ..
  | socketUnlock => cases h; exact socketUnlock_keepsFeeders ..
  | socketRearm => cases h; exact socketRearm_keepsFeeders ..
  | hosePut => cases h; exact multiPut_keepsFeeders_of_aside hoseRow_aside ..
  | hoseGet => cases h; exact getRecords_keepsFeeders ..
  | hoseAuth => cases h; exact .of_aside (hoseAuth_aside ..)
  | hoseStop => cases h; exact (hoseStop_keepsSums ..).feeders
  | pricePut => cases h; exact multiPut_keepsFeeders_of_aside priceRow_aside ..
  | priceGet => cases h; exact .refl s
  | salePeek => cases h; exact .of_aside (salePeek_aside ..)
  | saleTake => cases h; exact .of_aside (saleTake_aside ..)
  | credPut => cases h; exact multiPut_keepsFeeders_of_aside credRow_aside ..
  | credGet => cases h; exact .of_aside (credGet_aside ..)
  | credSuspend => cases h; exact .of_aside (credSuspend_aside ..)
  | credResume => cases h; exact .of_aside (credResume_aside ..)
  | credFree => cases h; exact .of_aside (credFree_aside ..)
  | gatePut => cases h; exact multiPut_keepsFeeders_of_aside gateRow_aside ..
  | gateGet => cases h; exact getRecords_keepsFeeders ..
  | gateMode => cases h; exact .of_aside (gateMode_aside ..)
  | gatePulse => cases h; exact .of_aside (gatePulse_aside ..)
  | _ => cases h

theorem frameOwner_keepsFeeders (f : Frame) (s : State) : KeepsFeeders s (frameOwner f s).1 := by
  unfold frameOwner
  cases decodeRequest f.kind f.tag f.body with
  | request i =>
    cases ho : owner i with
    | none =>
      dsimp only
      rw [ho]
      exact .refl s
    | some o =>
      dsimp only
      rw [ho]
      exact owner_keepsFeeders ho s
  | badItem => exact .refl s
  | unknownKind => exact .refl s

theorem takeWaiting_keepsFeeders (s : State) : KeepsFeeders s (takeWaiting s) := by
  unfold takeWaiting
  split
  · exact .refl s
  · exact (takeRequest_keepsFeeders (frameOwner_keepsFeeders _) ..).after (setHlc_aside ..)

/-! ## The passing of time -/

theorem tick_aside (s : State) : Aside s (tick s) := ⟨rfl, rfl, rfl, rfl⟩

theorem idle_keepsFeeders (s : State) : KeepsFeeders s (idle s) :=
  .ite ((takeWaiting_keepsFeeders s).andThen (pump_aside _)) (.of_aside (tick_aside s))

/-! ## Starts -/

/-- A start's sockets are listed at the IDLE record. -/
theorem of_mem_startSockets {cfg : Table SocketCfg} {e : Nat × Socket} (h : e ∈ startSockets cfg) :
    e.2 = { startSocket with state := .idle } ∧ ∃ x ∈ cfg, x.1 = e.1 := by
  obtain ⟨x, hx, rfl⟩ := List.mem_map.1 h
  exact ⟨rfl, x, (List.mem_filter.1 hx).1, rfl⟩

theorem startSockets_tableOk {cfg : Table SocketCfg} (h : tableOk coldSocketCfg cfg = true) :
    tableOk startSocket (startSockets cfg) = true := by
  induction cfg with
  | nil => rfl
  | cons e rest ih =>
    obtain ⟨-, above, form⟩ := (tableOk_cons _ e.1 e.2 rest).1 h
    by_cases berth : e.2.berth.isSome
    · have first : startSockets (e :: rest) = (e.1, { startSocket with state := .idle }) :: startSockets rest := by
        simp [startSockets, berth]
      rw [first, tableOk_cons]
      refine ⟨by decide, fun x hx => ?_, ih form⟩
      obtain ⟨-, y, hy, same⟩ := of_mem_startSockets hx
      exact same ▸ above y hy
    · have skipped : startSockets (e :: rest) = startSockets rest := by simp [startSockets, berth]
      rw [skipped]
      exact ih form

/-- R103: a start leaves each socket IDLE or UNASSIGNED. -/
theorem tableGet_startSockets {cfg : Table SocketCfg} (h : tableOk coldSocketCfg cfg = true) (n : Nat) :
    tableGet startSocket (startSockets cfg) n = startSocket ∨
      tableGet startSocket (startSockets cfg) n = { startSocket with state := .idle } := by
  by_cases listed : ∃ e ∈ startSockets cfg, e.1 = n
  · obtain ⟨e, he, rfl⟩ := listed
    rw [tableGet_of_mem (startSockets_tableOk h) he]
    exact .inr (of_mem_startSockets he).1
  · exact .inl (tableGet_of_unlisted _ _ _ fun e he hn => listed ⟨e, he, hn⟩)

/-- R103, R106: at a start no socket is supplied or waits for its feeder, and no feeder has anything reserved. -/
theorem startLine_sound {s : State} (static : tableOk coldSocketCfg s.pdl.sockets = true) :
    FeedersSound (startLine s) := by
  have form : tableOk startSocket (startLine s).far.sockets = true := startSockets_tableOk static
  have rest (n : Nat) : (startLine s).socket n = startSocket ∨ (startLine s).socket n = { startSocket with state := .idle } :=
    tableGet_startSockets static n
  have reservation (n : Nat) : ((startLine s).socket n).reservation = none := by rcases rest n with h | h <;> rw [h] <;> rfl
  have unsupplied (n : Nat) : ((startLine s).socket n).supplied = false := by rcases rest n with h | h <;> rw [h] <;> rfl
  have feeder (f : Nat) : (startLine s).feeder f = startFeeder := rfl
  refine
    { sockets := form, static, held := fun n => ?held, reserved := fun f => ?reserved, limit := fun f => ?limit
      pending := fun f n h => ?pending, ascending := fun f => ?ascending, blocking := fun f n h => ?blocking
      plugs := fun n h => ?plugs }
  case held => rw [reservation, unsupplied]; rfl
  case reserved =>
    refine (reservedOn_eq_zero form fun n => ?_).symm
    rw [State.drawn, reservation]
    split <;> rfl
  case limit => rw [feeder]; exact Nat.zero_le _
  case pending => rw [feeder] at h; cases h
  case ascending => rw [feeder]; exact .nil
  case blocking => rw [feeder] at h; cases h
  case plugs => rcases rest n with k | k <;> rw [k] at h <;> cases h

theorem startFdc_aside (cause : Cause) (s : State) : Aside s (startFdc cause s) := by
  have emptied : Aside s { s with fdc := { s.fdc with hoses := [] } } := ⟨rfl, rfl, rfl, rfl⟩
  have ready (u : State) : Aside u { u with fdc := { u.fdc with ready := decide (cause = .cold) } } := ⟨rfl, rfl, rfl, rfl⟩
  exact (emptied.trans (startHoses_aside [1, 2, 3, 4] _)).trans (ready _)

theorem startGtc_aside (s : State) : Aside s (startGtc s) := by
  have emptied : Aside s { s with
    gtc := { s.gtc with gates := [], terminals := [], fuel := startFuelTerminal, keyEvents := [] } } := ⟨rfl, rfl, rfl, rfl⟩
  exact emptied.trans (.foldl (fun t g => startGateNow g t) (fun t g => startGateNow_aside g t) [1, 2, 3, 4, 5, 6] _)

theorem start_keepsFeeders (cause : Cause) (spa spb : Bool) (s : State) : KeepsFeeders s (start cause spa spb s) where
  sound sound := by
    have retained : tableOk coldSocketCfg
        (if cause = .cold then { coldRetained s with sup := { s.sup with valid := true } } else s).pdl.sockets = true := by
      split
      · rfl
      · exact sound.static
    unfold start
    dsimp only
    generalize (if cause = .cold then { coldRetained s with sup := { s.sup with valid := true } } else s) = kept at retained ⊢
    have lined (u : State) : KeepsFeeders u (startGtc (startFdc cause u)) :=
      .of_aside ((startFdc_aside cause u).trans (startGtc_aside _))
    exact (lined _).sound (startLine_sound retained)

theorem powerOn_keepsFeeders (spa spb backup : Bool) (s : State) : KeepsFeeders s (powerOn spa spb backup s) := by
  have powered : Aside s { s with sup := { s.sup with main := true, backup } } := ⟨rfl, rfl, rfl, rfl⟩
  unfold powerOn
  exact .ite (.refl s) (.ite (.of_aside ⟨rfl, rfl, rfl, rfl⟩) ((start_keepsFeeders ..).after powered))

theorem resetPinRelease_keepsFeeders (spa spb : Bool) (s : State) : KeepsFeeders s (resetPinRelease spa spb s) := by
  have released : Aside s { s with sup := { s.sup with resetHeld := false } } := ⟨rfl, rfl, rfl, rfl⟩
  have started (cause : Cause) : KeepsFeeders s (start cause spa spb { s with sup := { s.sup with resetHeld := false } }) :=
    (start_keepsFeeders ..).after released
  unfold resetPinRelease
  exact .ite (.refl s) (.ite (.of_aside released) (.ite (started _) (started _)))

theorem restartBegin_keepsFeeders (spa spb : Bool) (s : State) : KeepsFeeders s (restartBegin spa spb s) :=
  .ite (start_keepsFeeders ..) (.refl s)

theorem restartTimeout_keepsFeeders (spa spb : Bool) (s : State) : KeepsFeeders s (restartTimeout spa spb s) :=
  .ite (start_keepsFeeders ..) (.refl s)

/-! ## Every command -/

theorem powerFail_aside (s : State) : Aside s (powerFail s) := ⟨rfl, rfl, rfl, rfl⟩

theorem backupSupplyFail_aside (s : State) : Aside s (backupSupplyFail s) := ⟨rfl, rfl, rfl, rfl⟩

theorem resetPinAssert_aside (s : State) : Aside s (resetPinAssert s) := ⟨rfl, rfl, rfl, rfl⟩

/-- A command that is no request keeps the feeders within their limits. -/
theorem exec_keepsFeeders_of_event {i : Instr} (none : owner i = none) {s t : State} (h : exec i s = .next t) :
    KeepsFeeders s t := by
  cases i with
  | powerOn => cases h; exact (powerOn_keepsFeeders ..).andThen (pump_aside _)
  | powerFail => cases h; exact .of_aside (powerFail_aside s)
  | resetPinAssert => cases h; exact .of_aside (resetPinAssert_aside s)
  | resetPinRelease => cases h; exact (resetPinRelease_keepsFeeders ..).andThen (pump_aside _)
  | restartBegin => cases h; exact (restartBegin_keepsFeeders ..).andThen (pump_aside _)
  | restartTimeout => cases h; exact (restartTimeout_keepsFeeders ..).andThen (pump_aside _)
  | catchUp => cases h; exact event_keepsFeeders_of_sums (fun s => .ite (catchUpRun_keepsSums s) (.refl s)) s
  | fdcStart => cases h; exact event_keepsFeeders_of_sums (fun s => .ite (.refl s) (fdcStart_keepsSums s)) s
  | hostByteReceived => cases h; exact event_keepsFeeders_of_aside (fun s => setHlc_aside ..) s
  | frameGapTimeout => cases h; exact event_keepsFeeders_of_aside (fun s => setHlc_aside ..) s
  | hostCtsChange => cases h; exact (event_keepsFeeders .refl _).after ⟨rfl, rfl, rfl, rfl⟩
  | transmitFrameDone => cases h; exact event_keepsFeeders_of_aside (fun s => setHlc_aside ..) s
  | rollover => cases h; exact event_keepsFeeders_of_sums hourRollover_keepsSums s
  | settlementInterval => cases h; exact event_keepsFeeders_of_sums settlementInterval_keepsSums s
  | bandBoundary begins => cases h; exact event_keepsFeeders_of_sums (bandBoundary_keepsSums begins) s
  | clockStop => cases h; exact .of_aside (Aside.trans (.ite (setClk_aside ..) (.refl s)) (pump_aside _))
  | pollSlotEnd => cases h; exact event_keepsFeeders slotEnd_keepsFeeders s
  | pollReply b w => cases h; exact event_keepsFeeders (pollReply_keepsFeeders b w) s
  | holdOffExpiry n => cases h; exact event_keepsFeeders (holdOffEnds_keepsFeeders n) s
  | tapRunLimit n => cases h; exact event_keepsFeeders_of_sums (closeTap_keepsSums n _) s
  | tapNoFlow n => cases h; exact event_keepsFeeders_of_sums (closeTap_keepsSums n _) s
  | nozzleLift n =>
    cases h
    exact (event_keepsFeeders_of_aside (fun s => .ite (nozzleLift_aside n s) (keepNozzle_aside ..)) _).after
      ⟨rfl, rfl, rfl, rfl⟩
  | nozzleHang n =>
    cases h
    exact (event_keepsFeeders_of_sums (fun s => .ite (nozzleHang_keepsSums n s) (.of_aside (keepNozzle_aside ..))) _).after
      ⟨rfl, rfl, rfl, rfl⟩
  | pulse n => cases h; exact event_keepsFeeders_of_aside (pulse_aside n) s
  | authTimeout n => cases h; exact event_keepsFeeders_of_sums (authTimeout_keepsSums n) s
  | noFlow n => cases h; exact event_keepsFeeders_of_sums (noFlow_keepsSums n) s
  | keyEvent n key => cases h; exact event_keepsFeeders_of_aside (keyEvent_aside n key) s
  | interKeyTimeout n => cases h; exact event_keepsFeeders_of_aside (interKeyTimeout_aside n) s
  | lockoutExpiry n => cases h; exact event_keepsFeeders_of_aside (fun s => setTerminal_aside ..) s
  | cardRead n x token => cases h; exact event_keepsFeeders_of_aside (cardRead_aside n x token) s
  | cardWindowExpiry n => cases h; exact event_keepsFeeders_of_aside (cardWindowExpiry_aside n) s
  | doorContact n opens =>
    cases h
    exact (event_keepsFeeders_of_aside (fun s => .ite (doorOpens_aside n s) (doorCloses_aside n s)) _).after
      ⟨rfl, rfl, rfl, rfl⟩
  | releaseTimeout n => cases h; exact event_keepsFeeders_of_aside (releaseTimeout_aside n) s
  | heldTimeout n => cases h; exact event_keepsFeeders_of_aside (heldTimeout_aside n) s
  | exitButton n => cases h; exact event_keepsFeeders_of_aside (exitButton_aside n) s
  | autoArrive => cases h; exact event_keepsFeeders_of_sums takeArrival_keepsSums s
  | fuelWindowExpiry => cases h; exact event_keepsFeeders_of_aside fuelWindowExpiry_aside s
  | selfServeOffer => cases h; exact event_keepsFeeders_of_aside selfServeOffer_aside s
  | lampExpiry => cases h; exact event_keepsFeeders_of_aside (fun s => setFuel_aside ..) s
  | keypadFullScan n r => cases h; exact event_keepsFeeders_of_aside (fullScan_aside n r) s
  | backupSupplyFail => cases h; exact .of_aside (backupSupplyFail_aside s)
  | _ => cases none

theorem exec_keepsFeeders {i : Instr} {s t : State} (h : exec i s = .next t) : KeepsFeeders s t := by
  cases ho : owner i with
  | none => exact exec_keepsFeeders_of_event ho h
  | some o =>
    rw [exec_of_owner ho] at h
    cases h
    exact request_keepsFeeders (owner_keepsFeeders ho) i s

theorem step_keepsFeeders {s t : State} (h : step s = .next t) : KeepsFeeders s t := by
  unfold step at h
  split at h
  · exact (exec_keepsFeeders h).after ⟨rfl, rfl, rfl, rfl⟩
  split at h
  · exact exec_keepsFeeders h
  · cases h
    exact idle_keepsFeeders s

/-- Settles O60: each command, and the idle step, is a chain of writes, and each operation of the chain that sets supply or a
reservation is one that the limit admits. -/
theorem everyStepKeepsFeedersWithinTheirLimit : Obligations.EveryStepKeepsFeedersWithinTheirLimit := by
  unfold Obligations.EveryStepKeepsFeedersWithinTheirLimit
  intro s t sound h
  exact (step_keepsFeeders h).sound sound

end Sys2Proof.Machine
end

section
/-! SUPPORT. A feeder's row and its rotation pointers (O37). -/

namespace Sys2Proof.Machine

section
variable {i : Nat} {r : FeederRow} {retry : RetryMode} {s : State}

/-- The configured fields of a row (R108). -/
def rowFeederCfg (r : FeederRow) (retry : RetryMode) : FeederCfg :=
  ⟨r.limit, r.diversity, r.tripCount, r.bypassLimit, retry, r.holdOff⟩

/-- R108: a row that no check refuses is written, where it says anything new. -/
theorem feederRow_accepted (first : 1 ≤ i) (last : i ≤ 8) (limit : r.limit ≤ 25000)
    (diversity : 25 ≤ r.diversity ∧ r.diversity ≤ 100) (tripCount : 1 ≤ r.tripCount ∧ r.tripCount ≤ 15)
    (bypassLimit : 1 ≤ r.bypassLimit ∧ r.bypassLimit ≤ 15) (holdOff : 1 ≤ r.holdOff ∧ r.holdOff ≤ 60)
    (mode : valueOf retryModes r.retry = some retry)
    (unsupplied : r.diversity ≠ (s.feederCfg i).diversity → s.shedOrder i = []) :
    feederRow i r s =
      .ok (if rowFeederCfg r retry = s.feederCfg i then s else feederWritten i (rowFeederCfg r retry) s) := by
  have range : (within 1 8 i && within 0 25000 r.limit && within 25 100 r.diversity && within 1 15 r.tripCount &&
      within 1 15 r.bypassLimit && within 1 60 r.holdOff) = true := by
    simp [within_true first last, within_true (Nat.zero_le _) limit, within_iff.2 diversity, within_iff.2 tripCount,
      within_iff.2 bypassLimit, within_iff.2 holdOff]
  have free : ¬(r.diversity ≠ (s.feederCfg i).diversity ∧ s.shedOrder i ≠ []) := fun ⟨changed, supplied⟩ =>
    supplied (unsupplied changed)
  rw [feederRow, mode]
  dsimp only
  rw [if_neg (by rw [range]; decide), if_neg free]
  exact (apply_ite Except.ok ..).symm

/-- R129: a row written to a state in the feeders' form. -/
theorem feederWritten_feederCfg (form : FeedersForm s) (c : FeederCfg) (j : Nat) :
    (feederWritten i c s).feederCfg j = if j = i then c else s.feederCfg j := by
  rw [State.feederCfg, (feederWritten_kept i c form).cfg]
  exact State.feederCfg_setFeederCfg ..

theorem feederWritten_sameBut (c : FeederCfg) : SameBut holdParts s (feederWritten i c s) := by
  have written : SameBut holdParts s (s.setFeederCfg i c) := .writeFar (by decide) _ _
  exact (written.trans (shedToLimit_sameBut (fun _ h => h) ..)).trans (grantSearch_sameBut (by decide) ..)

/-- R129: no socket is shed where the sum is within the new limit. -/
theorem feederWritten_of_within {c : FeederCfg} (h : (s.feeder i).reserved ≤ c.limit) :
    feederWritten i c s = grantSearch i (s.setFeederCfg i c) := by
  have within : (s.setFeederCfg i c).Within i := by
    rw [State.Within, State.feederCfg_setFeederCfg, if_pos rfl]
    exact h
  rw [feederWritten, shedToLimit_of_within within]

/-- R110: a search leaves a supplied socket its state and its reservation. -/
theorem grantSearch_of_supplied (queues : PendingSound s) (f : Nat) {n : Nat} (supplied : (s.socket n).supplied = true) :
    ((grantSearch f s).socket n).state = (s.socket n).state ∧
      ((grantSearch f s).socket n).reservation = (s.socket n).reservation := by
  obtain ⟨stamp, kept⟩ := (grantSearch_untouched f s).others queues n
    (isPending_of_not_judgeable (not_judgeable_of_supplied supplied))
  rw [kept]
  exact ⟨rfl, rfl⟩

end

/-- What O37 says of a feeder's row, of the state its owner leaves. -/
structure FeederRowWritten (i : Nat) (c : FeederCfg) (s u : State) : Prop where
  blocks : SameBut holdParts s u
  cfg : ∀ j, u.feederCfg j = if j = i then c else s.feederCfg j
  within : (u.feeder i).reserved ≤ c.limit
  room : (s.feeder i).reserved ≤ c.limit → SameBut [.feeders] s u ∧ ∀ n, (s.socket n).supplied = true →
    (u.socket n).state = (s.socket n).state ∧ (u.socket n).reservation = (s.socket n).reservation

/-- A row that says nothing new. -/
theorem feederRow_unchanged {i : Nat} {c : FeederCfg} {s : State} (sound : FeedersSound s) (same : c = s.feederCfg i) :
    FeederRowWritten i c s s where
  blocks := .refl _ s
  cfg j := by
    split
    · next h => rw [h, same]
    · rfl
  within := same ▸ sound.limit i
  room _ := ⟨.refl _ s, fun _ _ => ⟨rfl, rfl⟩⟩

theorem feederRow_written {i : Nat} {s : State} (c : FeederCfg) (sound : FeedersSound s) :
    FeederRowWritten i c s (feederWritten i c s) where
  blocks := feederWritten_sameBut c
  cfg := feederWritten_feederCfg sound.form c
  within := by
    have within := feederWritten_within i c sound.form
    rwa [State.Within, feederWritten_feederCfg sound.form, if_pos rfl] at within
  room h := by
    have written : SameBut [.feeders] s (s.setFeederCfg i c) := .writeFar (by decide) _ _
    rw [feederWritten_of_within h]
    exact ⟨written.trans (grantSearch_sameBut (by decide) ..), fun n supplied =>
      grantSearch_of_supplied (s := s.setFeederCfg i c) (setFeederCfg_form i c sound.form).queues i supplied⟩

/-- R114: the pointer of one class is written. -/
theorem feederBottom_accepted {f cls n : Nat} (first : 1 ≤ f) (last : f ≤ 8) (clsMost : cls ≤ 3) (socket : n ≤ 255)
    (s : State) : feederBottom f cls n s =
      (s.setFeeder f { s.feeder f with pointers := tableSet 0 (s.feeder f).pointers cls n }, okAnswer) := by
  have range : (within 1 8 f && within 0 3 cls && within 0 255 n) = true := by
    simp [within_true first last, within_true (Nat.zero_le _) clsMost, within_true (Nat.zero_le _) socket]
  exact if_pos range

/-- Settles O37: a row's sheds end within its limit, and none is made where the sum is within it already. -/
theorem feederRowsAndPointers : Obligations.FeederRowsAndPointers := by
  unfold Obligations.FeederRowsAndPointers
  refine ⟨?row, ?pointer⟩
  case row =>
    intro tag i r retry s takes sound first last limit diversity tripCount bypassLimit holdOff mode unsupplied
    have accepted := feederRow_accepted first last limit diversity tripCount bypassLimit holdOff mode unsupplied
    obtain ⟨t, replies, left⟩ := request_answers (i := .feederPut tag i [.row r]) rfl rfl takes
      (multiPut_one (most := 15) (by decide) accepted)
    have written : FeederRowWritten i (rowFeederCfg r retry) s
        (if rowFeederCfg r retry = s.feederCfg i then s else feederWritten i (rowFeederCfg r retry) s) := by
      split
      · next same => exact feederRow_unchanged sound same
      · exact feederRow_written _ sound
    generalize (if rowFeederCfg r retry = s.feederCfg i then s else feederWritten i (rowFeederCfg r retry) s) = u
      at written left
    refine ⟨t, replies, left.sameBut written.blocks, fun j => ?_, ?_, fun h => ?_⟩
    · rw [State.feederCfg, left.far]
      exact written.cfg j
    · rw [State.feeder, left.far]
      exact written.within
    · obtain ⟨blocks, supplied⟩ := written.room h
      refine ⟨left.sameBut blocks, fun n hn => ?_⟩
      rw [State.socket, left.far]
      exact supplied n hn
  case pointer =>
    intro tag f cls n s takes first last clsMost socket
    obtain ⟨t, replies, left⟩ := request_answers (i := .feederBottom tag f cls n) rfl rfl takes
      (feederBottom_accepted first last clsMost socket s)
    have feeder (g : Nat) : t.feeder g =
        if g = f then { s.feeder f with pointers := tableSet 0 (s.feeder f).pointers cls n } else s.feeder g := by
      rw [State.feeder, left.far]
      exact State.feeder_setFeeder ..
    refine ⟨t, replies, left.sameBut (.writeFar (by decide) _ _), left.raises (raises_of_hlc rfl), ?_, fun g hg => ?_, ?_,
      fun c => ?_⟩
    · rw [left.far]
      rfl
    · rw [feeder, if_neg hg]
    · rw [feeder, if_pos rfl]
    · rw [feeder, if_pos rfl]
      exact tableGet_tableSet ..

end Sys2Proof.Machine
end

section
/-! SUPPORT. The sheds that the host asks for (O38). -/

namespace Sys2Proof.Machine

/-- R127: a shed by the host has no hold-off. -/
def hostShed : Landing := ⟨.shed, some .host, none, false⟩

section
variable {s : State}

theorem shed_host_socket (form : FeedersForm s) {n : Nat} (supplied : (s.socket n).supplied = true) (cause : ShedCause) :
    (shed n .host cause s).socket n = landedSocket hostShed (s.socket n) := shed_socket_self form supplied .host cause

/-- R127: supplied sockets that are shed one after the other are each shed, and no search that follows grants one. -/
theorem shedAll_socket {l : List Nat} (form : FeedersForm s) (once : l.Nodup)
    (supplied : ∀ n ∈ l, (s.socket n).supplied = true) (cause : ShedCause) :
    ∀ n ∈ l, (l.foldl (fun t n => shed n .host cause t) s).socket n = landedSocket hostShed (s.socket n) := by
  induction l generalizing s with
  | nil => exact fun n hn => nomatch hn
  | cons m rest ih =>
    obtain ⟨first, once⟩ := List.nodup_cons.1 once
    have head := supplied m List.mem_cons_self
    have formed := ((shed_keepsSums head .host cause).kept form).form
    have own := shed_host_socket form head cause
    have other {n : Nat} (hn : n ∈ rest) : ∃ stamp, (shed m .host cause s).socket n = { s.socket n with stamp } :=
      shed_socket_other form head .host cause (fun h : n = m => first (h ▸ hn))
        (not_judgeable_of_supplied (supplied n (List.mem_cons_of_mem _ hn)))
    have still : ∀ n ∈ rest, ((shed m .host cause s).socket n).supplied = true := fun n hn => by
      obtain ⟨stamp, kept⟩ := other hn
      rw [kept]
      exact supplied n (List.mem_cons_of_mem _ hn)
    have rests := ((shedAll_keepsSums once still .host cause).kept formed).rests m
    rw [own] at rests
    intro n hn
    rw [List.foldl_cons]
    rcases List.mem_cons.1 hn with rfl | hn
    · exact rests rfl rfl
    · obtain ⟨stamp, kept⟩ := other hn
      rw [ih formed once still n hn, kept]
      rfl

theorem shed_host_sameBut (n : Nat) (cause : ShedCause) (s : State) : SameBut holdParts s (shed n .host cause s) :=
  shed_sameBut (fun _ h => h) ..

/-- R124: a supplied socket is released. -/
theorem socketRelease_accepted {n : Nat} (last : n ≤ 255) (supplied : (s.socket n).supplied = true) :
    socketRelease n s =
      (shed n .host .release s, ⟨.ok, 0, [⟨0x11, [.u 2 ((s.socket n).reservation.getD 0)]⟩]⟩) := by
  refine checked_pass ?_
  simp [within_true (Nat.zero_le _) last, supplied]

/-- R130: the first of the shed order are shed. -/
theorem feederShed_accepted {f count : Nat} (first : 1 ≤ f) (last : f ≤ 8) (least : 1 ≤ count) (most : count ≤ 16) :
    feederShed f count s =
      (((s.shedOrder f).take count).foldl (fun t n => shed n .host .feederShed t) s,
        ⟨.ok, 0, [⟨0x11, [.u 1 ((s.shedOrder f).take count).length,
          .u 2 (((s.shedOrder f).take count).map fun n => (s.socket n).reservation.getD 0).sum]⟩]⟩) := by
  have range : (within 1 8 f && within 1 16 count) = true := by
    simp [within_true first last, within_true least most]
  rw [List.sum_eq_foldl]
  exact if_pos range

end

/-- Settles O38: a shed lands the socket, which no search grants and no later shed touches. -/
theorem hostShedsReleaseTheSockets : Obligations.HostShedsReleaseTheSockets := by
  unfold Obligations.HostShedsReleaseTheSockets
  intro tag s takes sound shedByHost
  refine ⟨fun n last supplied => ?release, fun f count first last least most => ?heads⟩
  case release =>
    obtain ⟨t, replies, left⟩ := request_answers (i := .socketRelease tag n) rfl rfl takes
      (socketRelease_accepted last supplied)
    refine ⟨t, replies, left.sameBut (shed_host_sameBut ..), ?_⟩
    show t.socket n = landedSocket hostShed (s.socket n)
    rw [State.socket, left.far]
    exact shed_host_socket sound.form supplied .release
  case heads =>
    intro heads
    obtain ⟨t, replies, left⟩ := request_answers (i := .feederShed tag f count) rfl rfl takes
      (feederShed_accepted first last least most)
    refine ⟨t, replies, left.sameBut (.foldl _ (fun t n => shed_host_sameBut n _ t) _ _), fun n hn => ?_⟩
    show t.socket n = landedSocket hostShed (s.socket n)
    rw [State.socket, left.far]
    refine shedAll_socket sound.form ?_ (fun m hm => ?_) .feederShed n hn
    · exact (List.take_sublist ..).nodup (shedOrder_nodup sound.sockets)
    · exact ((mem_shedOrder_iff sound.sockets).1 (List.mem_of_mem_take hm)).1

end Sys2Proof.Machine
end

section
/-! SUPPORT. Locks, and the return of a socket to the search (O39). -/

namespace Sys2Proof.Machine

/-! ## What a search leaves of a socket's record -/

/-- The fields of a socket's record that no search writes: the shed source, the hold-off and the fault. -/
def Socket.marks (k : Socket) : Option ShedSource × Option Nat × Bool := (k.shedSource, k.holdOffEnd, k.fault)

/-- A search grants a PENDING socket and moves no other, and it leaves the marks. -/
structure Searched (k l : Socket) : Prop where
  marks : l.marks = k.marks
  state : l.state = k.state ∨ k.state = .pending ∧ l.state = .granted

namespace Searched

variable {k l m : Socket}

theorem refl (k : Socket) : Searched k k := ⟨rfl, .inl rfl⟩

theorem trans (h : Searched k l) (h' : Searched l m) : Searched k m where
  marks := h'.marks.trans h.marks
  state := by
    rcases h.state with first | ⟨pending, granted⟩
    · rw [← first]
      exact h'.state
    · refine .inr ⟨pending, ?_⟩
      rcases h'.state with same | ⟨again, -⟩
      · exact same.trans granted
      · rw [granted] at again
        cases again

end Searched

section
variable {s : State} {n : Nat}

theorem setSocket_marks {m : Nat} {x : Socket} (h : x.marks = (s.socket m).marks) (n : Nat) :
    ((s.setSocket m x).socket n).marks = (s.socket n).marks := by
  rw [State.socket_setSocket]
  split
  · next own => rw [own, h]
  · rfl

theorem grant_marks (f m : Nat) (skipped : List Nat) (s : State) (n : Nat) :
    ((grant f m skipped s).socket n).marks = (s.socket n).marks := by
  have granted : ((grantedOnly m s).socket n).marks = (s.socket n).marks := by
    obtain ⟨stamp, kept⟩ := takeStamp_socket s n
    refine (setSocket_marks (by rfl) n).trans ?_
    rw [kept]
    rfl
  rw [grant_socket]
  cases h : (s.feeder f).blocking with
  | some b => rwa [grantedSockets_of_blocking h]
  | none =>
    rw [grantedSockets_of_none h]
    have counted := foldl_keeps (kept := fun s t : State => (t.socket n).marks = (s.socket n).marks) (fun _ => rfl)
      (fun h k => k.trans h) countBypass (fun t _ => setSocket_marks (by rfl) n) skipped (grantedOnly m s)
    exact counted.trans granted

theorem grant_searched (queues : PendingSound s) {f m : Nat} {skipped : List Nat} (hp : s.pass f = some (m, skipped))
    (n : Nat) : Searched (s.socket n) ((grant f m skipped s).socket n) where
  marks := grant_marks ..
  state := by
    rw [grant_socket_state]
    split
    · next h => exact .inr ⟨h ▸ (queues.pending f m (pass_mem queues hp).1).1, rfl⟩
    · exact .inl rfl

theorem grantSearch_searched (queues : PendingSound s) (f n : Nat) :
    Searched (s.socket n) ((grantSearch f s).socket n) := by
  unfold grantSearch
  generalize (s.feeder f).pending.length + 1 = fuel
  induction fuel generalizing s with
  | zero => exact .refl _
  | succ fuel ih =>
    rw [searchPasses]
    split
    · exact .refl _
    · next hp => exact (grant_searched queues hp n).trans (ih ((grant_untouched hp).sound queues))

/-- A search leaves a socket that rests in a state the FAR does not judge. -/
theorem grantSearch_socket_of_rest (form : FeedersForm s) (f : Nat) (rests : (s.socket n).state.judgeable = false)
    (unsupplied : (s.socket n).supplied = false) : (grantSearch f s).socket n = s.socket n :=
  ((grantSearch_keepsSums f s).kept form).rests n rests unsupplied

/-! ## A lock (R125) -/

/-- What O39 says of the record of a socket just locked. -/
structure LockedFrom (k l : Socket) : Prop where
  state : l.state = .locked
  reservation : l.reservation = none
  marks : k.state = .shed → l.shedSource = none ∧ l.holdOffEnd = none

/-- R125: a socket that holds nothing is locked, and the search that follows leaves it so. -/
theorem lockedFrom_of_rest (sound : FeedersSound s) {k : SocketState} (h : (s.socket n).state = k)
    (hk : k ∉ [SocketState.granted, .energised, .pending]) (f : Nat) :
    LockedFrom (s.socket n) ((grantSearch f (lockedAtRest n s)).socket n) := by
  obtain ⟨unsupplied, rests⟩ := at_rest_of_state h hk
  have written : FeedersForm (lockedAtRest n s) := ((lockedAtRest_keepsFeeders unsupplied rests).sound sound).form
  have own : (lockedAtRest n s).socket n =
      { s.socket n with state := .locked, shedSource := none, holdOffEnd := none } :=
    (State.socket_setSocket ..).trans (if_pos rfl)
  rw [grantSearch_socket_of_rest written f (by rw [own]; rfl) (by rw [own]; rfl), own]
  exact ⟨rfl, sound.form.reservation_of_unsupplied unsupplied, fun _ => ⟨rfl, rfl⟩⟩

/-- R125: a supplied socket is released to LOCKED. -/
theorem lockedFrom_of_supplied (sound : FeedersSound s) (supplied : (s.socket n).supplied = true) :
    LockedFrom (s.socket n) ((release n (landIn .locked) none s).socket n) := by
  rw [release_socket_self sound.form supplied none (show SocketState.locked ∈ _ by decide)]
  exact ⟨rfl, rfl, fun _ => ⟨rfl, rfl⟩⟩

/-- R105, R125: a PENDING socket leaves the pending set for LOCKED. -/
theorem lockedFrom_of_pending (sound : FeedersSound s) (pending : (s.socket n).state = .pending) (f : Nat) :
    LockedFrom (s.socket n) ((grantSearch f (dropPending n .locked s)).socket n) := by
  have judgeable : (s.socket n).state.judgeable = true := by rw [pending]; rfl
  have dropped := (dropPending_keepsSums (dest := .locked) judgeable (by decide) rfl).kept sound.form
  have own : (dropPending n .locked s).socket n = { s.socket n with state := .locked, bypass := 0 } :=
    (dropPending_socket ..).trans (if_pos rfl)
  rw [grantSearch_socket_of_rest dropped.form f (by rw [own]; rfl) (by rw [own]; rfl), own]
  refine ⟨rfl, sound.form.reservation_of_unsupplied (unsupplied_of_judgeable judgeable), fun shed => ?_⟩
  rw [pending] at shed
  cases shed

theorem lockSocket_socket (sound : FeedersSound s) (n : Nat) : LockedFrom (s.socket n) ((lockSocket n s).socket n) := by
  unfold lockSocket
  dsimp only
  split
  · next h =>
    refine ⟨h, sound.form.reservation_of_unsupplied (by rw [Socket.supplied, h]; rfl), fun shed => ?_⟩
    rw [h] at shed
    cases shed
  · next h => exact lockedFrom_of_supplied sound (supplied_of_granted h)
  · next h => exact lockedFrom_of_supplied sound (supplied_of_energised h)
  · next h => exact lockedFrom_of_pending sound h _
  all_goals
    next h => exact lockedFrom_of_rest sound h (by decide) _

theorem lockSocket_of_locked (h : (s.socket n).state = .locked) : lockSocket n s = s := by
  unfold lockSocket
  dsimp only
  rw [h]

theorem socketLock_accepted (last : n ≤ 255) : socketLock n s =
    (lockSocket n s, ⟨.ok, 0, [⟨0x11, [enumField socketStates (s.socket n).state]⟩]⟩) :=
  if_pos (within_true (Nat.zero_le _) last)

/-! ## A return (R125, R126, R131) -/

theorem asIdle_socket (n : Nat) (s : State) : (asIdle n s).socket n =
    { s.socket n with state := .idle, shedSource := none, holdOffEnd := none, fault := false } :=
  (State.socket_setSocket ..).trans (if_pos rfl)

theorem asIdle_pendingSound (queues : PendingSound s) (out : (s.socket n).state ≠ .pending) : PendingSound (asIdle n s) :=
  setSocket_pendingSound queues out

/-- The record of a socket that has returned: its state R105's, or from PENDING the search's. -/
def ReturnedAs (n : Nat) (s u : State) : Prop :=
  Searched { (asIdle n s).socket n with state := (asIdle n s).judged n } (u.socket n)

theorem reevaluateAsIdle_returns (queues : PendingSound s) (out : (s.socket n).state ≠ .pending) :
    ReturnedAs n s (reevaluateAsIdle n s) := by
  have idle : ((asIdle n s).socket n).state = .idle := by rw [asIdle_socket]
  have placed : (placePending n (asIdle n s)).socket n = { (asIdle n s).socket n with state := .pending, bypass := 0 } :=
    (placePending_socket ..).trans (if_pos rfl)
  have moved (k : SocketState) : ((asIdle n s).setSocket n { (asIdle n s).socket n with state := k }).socket n =
      { (asIdle n s).socket n with state := k } := (State.socket_setSocket ..).trans (if_pos rfl)
  rw [ReturnedAs, reevaluateAsIdle_eq, reevaluate]
  dsimp only
  rw [if_neg (by rw [idle]; decide)]
  split
  · next judged =>
    rw [if_neg (by rw [idle]; decide), judged]
    have searched := grantSearch_searched (placePending_pendingSound (n := n) (asIdle_pendingSound queues out))
      ((asIdle n s).feederOf n) n
    rw [placed] at searched
    have entered (k : Socket) : Searched { k with state := .pending } { k with state := .pending, bypass := 0 } :=
      ⟨rfl, .inl rfl⟩
    exact (entered _).trans searched
  · rw [if_neg (by rw [idle]; decide), moved]
    exact .refl _

/-- R104, R105: where a returned socket is, from what the state it returned from says of it. -/
structure PlacedBy (n : Nat) (s u : State) : Prop where
  shedSource : (u.socket n).shedSource = none
  holdOffEnd : (u.socket n).holdOffEnd = none
  fault : (u.socket n).fault = false
  unassigned : (s.socketCfg n).berth = none → (u.socket n).state = .unassigned
  idle : (s.socketCfg n).berth ≠ none → s.plugged n = false → (u.socket n).state = .idle
  waiting : (s.socketCfg n).berth ≠ none → s.plugged n = true →
    ¬(s.entitled n = true ∧ (s.link (n / 4 + 1)).link = .online) → (u.socket n).state = .waiting
  pending : s.plugged n = true → s.entitled n = true ∧ (s.link (n / 4 + 1)).link = .online →
    (u.socket n).state = .pending ∨ (u.socket n).state = .granted

theorem ReturnedAs.placedBy {u : State} (h : ReturnedAs n s u) : PlacedBy n s u := by
  have eligible : (asIdle n s).eligible n = true ↔ s.entitled n = true ∧ (s.link (n / 4 + 1)).link = .online :=
    eligible_iff (.inl (by rw [asIdle_socket]))
  obtain ⟨marks, state⟩ := h
  simp only [asIdle_socket, Socket.marks, Prod.mk.injEq] at marks
  obtain ⟨shedSource, holdOffEnd, fault⟩ := marks
  have fixed {k : SocketState} (hk : k ≠ .pending) (judged : (asIdle n s).judged n = k) : (u.socket n).state = k := by
    rcases state with same | ⟨pending, -⟩
    · exact same.trans judged
    · exact absurd (judged.symm.trans pending) hk
  refine
    { shedSource, holdOffEnd, fault
      unassigned := fun none => fixed (by decide) (if_pos none)
      idle := fun berth plug => fixed (by decide) (judged_of_no_plug (s := asIdle n s) berth plug)
      waiting := fun berth plug out => fixed (by decide) ?_
      pending := fun plug admitted => ?_ }
  · rw [judged_of_plug (s := asIdle n s) berth plug, if_neg (mt eligible.1 out)]
  · have berth : (s.socketCfg n).berth ≠ none := fun none => by
      rw [State.entitled, none] at admitted
      cases admitted.1
    have judged : (asIdle n s).judged n = .pending := by
      rw [judged_of_plug (s := asIdle n s) berth plug, if_pos (eligible.2 admitted)]
    rcases state with same | ⟨-, granted⟩
    · exact .inl (same.trans judged)
    · exact .inr granted

theorem PlacedBy.of_socket {u t : State} (h : PlacedBy n s u) (same : t.socket n = u.socket n) : PlacedBy n s t where
  shedSource := same ▸ h.shedSource
  holdOffEnd := same ▸ h.holdOffEnd
  fault := same ▸ h.fault
  unassigned := same ▸ h.unassigned
  idle := same ▸ h.idle
  waiting := same ▸ h.waiting
  pending := same ▸ h.pending

/-- A request that returns a socket, the state it leaves it in answered (R125, R126). -/
theorem replyState_eq (n : Nat) (u : State) :
    replyState n u = (u, ⟨.ok, 0, [⟨0x11, [enumField socketStates (u.socket n).state]⟩]⟩) := rfl

/-- R125: an unlocked socket returns, and the search runs on its feeder. -/
theorem socketUnlock_accepted (last : n ≤ 255) (locked : (s.socket n).state = .locked) :
    socketUnlock n s = replyState n (grantSearch (s.feederOf n) (reevaluateAsIdle n s)) := by
  refine checked_pass ?_
  simp [within_true (Nat.zero_le _) last, locked]

/-- R126. -/
theorem socketRearm_accepted (last : n ≤ 255) (shed : (s.socket n).state = .shed) :
    socketRearm n s = replyState n (reevaluateAsIdle n s) := by
  refine checked_pass ?_
  simp [within_true (Nat.zero_le _) last, shed]

theorem holdOffEnds_auto (shed : (s.socket n).state = .shed) (held : (s.socket n).holdOffEnd.isSome = true)
    (auto : (s.feederCfg (s.feederOf n)).retry = .auto) : holdOffEnds n s = reevaluateAsIdle n s := by
  unfold holdOffEnds
  dsimp only
  rw [if_pos ⟨shed, held⟩, auto]

theorem holdOffEnds_edge (shed : (s.socket n).state = .shed) (held : (s.socket n).holdOffEnd.isSome = true)
    (edge : (s.feederCfg (s.feederOf n)).retry = .edge) :
    holdOffEnds n s = s.setSocket n { s.socket n with holdOffEnd := none } := by
  unfold holdOffEnds
  dsimp only
  rw [if_pos ⟨shed, held⟩, edge]

end

/-- R125, R126, R131: the return of a socket that was not PENDING works on the feeders alone, and places the socket. -/
theorem reevaluateAsIdle_places {s : State} {n : Nat} (queues : PendingSound s) (out : (s.socket n).state ≠ .pending) :
    SameBut [.feeders] s (reevaluateAsIdle n s) ∧ PlacedBy n s (reevaluateAsIdle n s) :=
  ⟨reevaluateAsIdle_sameBut (by decide) n s, (reevaluateAsIdle_returns queues out).placedBy⟩

theorem grantSearch_places {s : State} {n : Nat} (queues : PendingSound s) (out : (s.socket n).state ≠ .pending) (f : Nat) :
    SameBut [.feeders] s (grantSearch f (reevaluateAsIdle n s)) ∧
      PlacedBy n s (grantSearch f (reevaluateAsIdle n s)) := by
  have sound : PendingSound (reevaluateAsIdle n s) :=
    (reevaluate_untouched n (asIdle n s)).sound (asIdle_pendingSound queues out)
  have returned : ReturnedAs n s (grantSearch f (reevaluateAsIdle n s)) :=
    (reevaluateAsIdle_returns queues out).trans (grantSearch_searched sound f n)
  exact ⟨(reevaluateAsIdle_sameBut (by decide) n s).trans (grantSearch_sameBut (by decide) ..), returned.placedBy⟩

/-- A request that returns a socket answers the state in which it leaves it. -/
theorem return_answers {i : Instr} {kind tag n : Nat} {items : List RawItem} {o : State → State × Answer} {s u : State}
    (he : encodeRequest i = some ⟨kind, tag, items⟩) (hx : exec i s = .next (request i o s)) (takes : s.takes = true)
    (accepted : o s = replyState n u) (placed : SameBut [.feeders] s u ∧ PlacedBy n s u) :
    ∃ t, Replies i s t kind tag ⟨.ok, 0, [⟨0x11, [enumField socketStates (t.socket n).state]⟩]⟩ ∧
      SameBut [.feeders] s t ∧ PlacedBy n s t := by
  obtain ⟨t, replies, left⟩ := request_answers he hx takes (accepted.trans (replyState_eq n u))
  have same : t.socket n = u.socket n := by rw [State.socket, left.far]; rfl
  exact ⟨t, same ▸ replies, left.sameBut placed.1, placed.2.of_socket same⟩

/-- Settles O39: a lock ends every other state, and a return judges the socket as if it were IDLE. -/
theorem socketLocksAndReturns : Obligations.SocketLocksAndReturns := by
  unfold Obligations.SocketLocksAndReturns
  refine ⟨?lock, ?returns⟩
  case lock =>
    intro tag n s takes sound last
    obtain ⟨t, replies, left⟩ := request_answers (i := .socketLock tag n) rfl rfl takes (socketLock_accepted last)
    obtain ⟨state, reservation, marks⟩ := lockSocket_socket sound n
    have same : t.socket n = (lockSocket n s).socket n := by rw [State.socket, left.far]; rfl
    refine ⟨t, replies, left.sameBut (lockSocket_sameBut (fun _ h => h) n s), same ▸ state, same ▸ reservation,
      fun locked => ?_, same ▸ marks⟩
    rw [lockSocket_of_locked locked] at left
    exact ⟨left.far, left.raises (raises_of_hlc rfl)⟩
  case returns =>
    intro n s sound last eligible judged
    have queues := sound.pendingSound
    have placed {t : State} (same : SameBut [.feeders] s t) (h : PlacedBy n s t) : judged t :=
      ⟨same, h.shedSource, h.holdOffEnd, h.fault, h.unassigned, h.idle, h.waiting, h.pending⟩
    refine ⟨fun tag takes locked => ?_, fun tag takes shed => ?_, fun running shed held => ?_⟩
    · obtain ⟨t, replies, same, there⟩ := return_answers (i := .socketUnlock tag n) rfl rfl takes
        (socketUnlock_accepted last locked) (grantSearch_places queues (by rw [locked]; decide) _)
      exact ⟨t, replies, placed same there⟩
    · obtain ⟨t, replies, same, there⟩ := return_answers (i := .socketRearm tag n) rfl rfl takes
        (socketRearm_accepted last shed) (reevaluateAsIdle_places queues (by rw [shed]; decide))
      exact ⟨t, replies, placed same there⟩
    · have left := (event_asLeft (f := holdOffEnds n) running).1
      refine ⟨event (holdOffEnds n) s, rfl, fun auto => ?_, fun edge => ?_⟩
      · rw [holdOffEnds_auto shed held auto] at left
        have ⟨same, there⟩ := reevaluateAsIdle_places queues (n := n) (by rw [shed]; decide)
        exact placed (left.sameBut same) (there.of_socket (by rw [State.socket, left.far]; rfl))
      · rw [holdOffEnds_edge shed held edge] at left
        refine ⟨left.sameBut (.writeFar (by decide) _ _), fun j => ?_⟩
        rw [State.socket, left.far]
        exact State.socket_setSocket ..

end Sys2Proof.Machine
end

section
/-! SUPPORT. The supply's failures (O10), and the bounds of a sale (R142, O41). -/

namespace Sys2Proof.Machine

/-! ## The supply -/

/-- R154, R185, R200: every output pin is off while the part does not run. -/
theorem outputs_off_of_stopped {s : State} (stopped : s.running = false) :
    s.ctsOut = false ∧ s.lampOut = .off ∧ (∀ h, s.mainValveOut h = false ∧ s.slowValveOut h = false) ∧
      ∀ g, s.relayOut g = false := by
  simp [State.ctsOut, State.lampOut, State.mainValveOut, State.slowValveOut, State.relayOut, stopped]

theorem powerFail_stopped (s : State) : (powerFail s).running = false := rfl

theorem resetPinAssert_stopped (s : State) : (resetPinAssert s).running = false := by
  simp [State.running, resetPinAssert]

/-- Settles O10: each event writes the supply alone, and two of them stop the part. -/
theorem supplyFailuresDeEnergiseTheOutputs : Obligations.SupplyFailuresDeEnergiseTheOutputs := by
  unfold Obligations.SupplyFailuresDeEnergiseTheOutputs
  rintro i s (rfl | rfl | rfl)
  · exact ⟨powerFail s, rfl, rfl, fun _ => outputs_off_of_stopped (powerFail_stopped s), fun _ => rfl, nofun, nofun⟩
  · exact ⟨resetPinAssert s, rfl, rfl, fun _ => outputs_off_of_stopped (resetPinAssert_stopped s), nofun, fun _ => rfl,
      nofun⟩
  · exact ⟨backupSupplyFail s, rfl, rfl, fun other => absurd rfl other, nofun, nofun, fun _ => rfl⟩

/-! ## The least of a list of bounds -/

/-- A member of a list that no other undercuts. -/
def LeastOf (l : List Nat) (m : Nat) : Prop := m ∈ l ∧ ∀ v ∈ l, m ≤ v

theorem leastOf_singleton (m : Nat) : LeastOf [m] m := by simp [LeastOf]

theorem LeastOf.append_one {l : List Nat} {m : Nat} (h : LeastOf l m) (v : Nat) : LeastOf (l ++ [v]) (min m v) := by
  obtain ⟨mem, least⟩ := h
  refine ⟨?_, fun w hw => ?_⟩
  · rcases min_choice m v with e | e <;> simp [e, mem]
  · rcases List.mem_append.1 hw with hw | hw
    · exact (min_le_left ..).trans (least w hw)
    · exact List.mem_singleton.1 hw ▸ min_le_right ..

/-- A bound that may be absent: absent, it stands for one already in the list. -/
theorem LeastOf.append_option {l : List Nat} {m c : Nat} (h : LeastOf l m) (hc : c ∈ l) (o : Option Nat) :
    LeastOf (l ++ o.toList) (min (o.getD c) m) := by
  cases o with
  | none =>
    rw [Option.getD_none, min_eq_right (h.2 c hc), Option.toList_none, List.append_nil]
    exact h
  | some v =>
    rw [min_comm]
    exact h.append_one v

/-! ## M and V (R142) -/

theorem ceiling_leastOf (preset prepaid : Option Nat) (cap : Nat) :
    LeastOf (cap :: preset.toList ++ prepaid.toList) (ceiling preset prepaid cap) := by
  rw [ceiling, min_left_comm]
  exact ((leastOf_singleton cap).append_option (by simp) preset).append_option (by simp) prepaid

/-- R142 steps 2 and 3: M. -/
theorem newSale_maxAmount_leastOf (a : Auth) (s : State) :
    LeastOf
      (amountOf (s.price (s.hoseCfg a.hose).grade) (s.hoseCfg a.hose).volumeCap ::
        (if a.presetKind = .amount then a.presetValue.toList else []) ++ a.prepaid.toList ++
        (if a.mode = .account ∧ a.account.getD 0 ≠ 0 then [(s.account (a.account.getD 0)).available.toNat] else []))
      (newSale a s).maxAmount := by
  have top := ceiling_leastOf (if a.presetKind = .amount then a.presetValue else none) a.prepaid
    (amountOf (s.price (s.hoseCfg a.hose).grade) (s.hoseCfg a.hose).volumeCap)
  rw [apply_ite Option.toList, Option.toList_none] at top
  unfold newSale
  cases mode : a.mode with
  | account =>
    by_cases house : a.account.getD 0 = 0
    · simpa [earmarkFor, house] using top
    · have credit : SaleMode.account = .account ∧ a.account.getD 0 ≠ 0 := ⟨rfl, house⟩
      rw [if_pos credit]
      simpa only [earmarkFor, if_neg house] using top.append_one _
  | prepaid => simpa using top
  | house => simpa using top

/-- R142 step 5: V. -/
theorem newSale_volLimit_leastOf (a : Auth) (s : State) :
    LeastOf
      ((s.hoseCfg a.hose).volumeCap :: volMax (s.price (s.hoseCfg a.hose).grade) (newSale a s).maxAmount ::
        (if a.presetKind = .volume then a.presetValue.toList else []))
      (newSale a s).volLimit := by
  have both := (leastOf_singleton (s.hoseCfg a.hose).volumeCap).append_one
    (volMax (s.price (s.hoseCfg a.hose).grade) (newSale a s).maxAmount)
  have all := both.append_option (c := (s.hoseCfg a.hose).volumeCap) (by simp)
    (if a.presetKind = .volume then a.presetValue else none)
  rw [apply_ite Option.toList, Option.toList_none, min_comm (s.hoseCfg a.hose).volumeCap,
    apply_ite (Option.getD · _)] at all
  exact all

/-- R142 step 4: the volume limit of M is the largest volume whose amount is at most M. -/
theorem amountOf_le_iff {price : Nat} (positive : 0 < price) (m v : Nat) :
    amountOf price v ≤ m ↔ v ≤ volMax price m := by
  have paid : amountOf price v ≤ m ↔ v * price < (m + 1) * 1000 - 500 := by
    unfold amountOf
    omega
  have rounded : v < ((m + 1) * 1000 - 500 + price - 1) / price ↔ v * price < (m + 1) * 1000 - 500 := by
    rw [← Nat.succ_le_iff, Nat.le_div_iff_mul_le positive, Nat.succ_mul]
    omega
  have some_volume : 0 < ((m + 1) * 1000 - 500 + price - 1) / price := Nat.div_pos (by omega) positive
  rw [paid, ← rounded, volMax]
  omega

/-- Settles O41: M and V are each the least of their lists, and V is within M's volume limit. -/
theorem saleBoundsAreTheLargestWithinCredit : Obligations.SaleBoundsAreTheLargestWithinCredit := by
  unfold Obligations.SaleBoundsAreTheLargestWithinCredit
  intro a s positive price cap amount volMost x acct bounds volumes
  have volMost_eq : volMost = volMax price := by
    funext m
    show ((m + 1) * 1000 - 500 + (price - 1)) / price - 1 = _
    rw [volMax, Nat.add_sub_assoc positive]
  have volume : LeastOf volumes x.volLimit := by
    show LeastOf (cap :: volMost x.maxAmount :: _) _
    rw [volMost_eq]
    exact newSale_volLimit_leastOf a s
  have largest (m v : Nat) : amount v ≤ m ↔ v ≤ volMost m := by
    rw [volMost_eq]
    exact amountOf_le_iff positive m v
  exact ⟨newSale_maxAmount_leastOf a s, volume, largest, (largest _ _).2 (volume.2 _ (by simp [volumes]))⟩

end Sys2Proof.Machine
end

section
/-! SUPPORT. One hose and the sale queue written, the sales taken from the queue (O47), and the closing of the valves
(R150, R151, O44). -/

namespace Sys2Proof.Machine

namespace AsLeft

variable {u t : State}

theorem fdc (h : AsLeft u t) : t.fdc = u.fdc := by rw [h.blocks]

end AsLeft

/-! ## What is written of the fuel dock -/

/-- A hose's record and the sale queue are as given; every other hose, and the rest of the dock, is as it was. -/
structure DockWritten (h : Nat) (k : Hose) (sales : List Sale) (u t : State) : Prop where
  own : t.hose h = k
  others : ∀ j, j ≠ h → t.hose j = u.hose j
  queue : t.fdc.sales = sales
  rest : t.fdc = { u.fdc with sales := t.fdc.sales, hoses := t.fdc.hoses }

theorem dockWritten_of_fdc {h : Nat} {k : Hose} {sales : List Sale} {u t : State}
    (written : t.fdc = ((u.setHose h k).setSales sales).fdc) : DockWritten h k sales u t := by
  have hose (j : Nat) : t.hose j = if j = h then k else u.hose j := by
    rw [State.hose, written]
    exact State.hose_setHose ..
  exact ⟨(hose h).trans (if_pos rfl), fun j other => (hose j).trans (if_neg other), by rw [written]; rfl,
    by rw [written]; rfl⟩

theorem hoseWritten_sameBut {parts : List Part} (fuel : .fuel ∈ parts) (h : Nat) (k : Hose) (sales : List Sale)
    (u : State) : SameBut parts u ((u.setHose h k).setSales sales) :=
  ((SameBut.refl parts u).setHose fuel h k).setSales fuel sales

/-! ## Records of the queue -/

theorem number_of_sale {n : Nat} {x : Sale} {s : State} (found : s.sale n = some x) : x.number = n := by
  have bears := List.find?_some (p := fun y : Sale => decide (y.number = n)) found
  exact of_decide_eq_true bears

/-- The record of a hose's sale bears the number the hose holds. -/
theorem number_of_hoseSale {h : Nat} {x : Sale} {s : State} (sale : s.hoseSale h = some x) :
    (s.hose h).sale = some x.number := by
  obtain ⟨n, held, found⟩ := Option.bind_eq_some_iff.1 sale
  rw [held, number_of_sale found]

/-! ## SALE_TAKE (R140) -/

section
variable {s : State}

theorem saleTake_oldest {x : Sale} (oldest : s.oldestDone = some x) :
    saleTake none s = saleReply (some x) (removeSale x.number s) := by
  unfold saleTake
  dsimp only
  rw [oldest]

theorem saleTake_nothing (empty : s.oldestDone = none) : saleTake none s = saleReply none s := by
  unfold saleTake
  dsimp only
  rw [empty]

theorem saleTake_outOfRange {n : Nat} (out : n < 1 ∨ 65535 < n) : saleTake (some n) s = refuse .range s := by
  have out : within 1 65535 n = false := by
    rw [Bool.eq_false_iff, Ne, within_iff]
    omega
  unfold saleTake
  dsimp only
  rw [out]
  rfl

theorem saleTake_found {n : Nat} {x : Sale} (inside : within 1 65535 n = true) (found : s.sale n = some x) :
    saleTake (some n) s = if x.done then saleReply (some x) (removeSale n s) else refuse .state s := by
  unfold saleTake
  dsimp only
  rw [inside, found]
  rfl

theorem saleTake_absent {n : Nat} (inside : within 1 65535 n = true) (absent : s.sale n = none) :
    saleTake (some n) s = refuse .noSuch s := by
  unfold saleTake
  dsimp only
  rw [inside, absent]
  rfl

end

/-- Settles O47: the record is found by its state or its number, and leaves the queue by its number. -/
theorem saleTakeRemovesTheRecord : Obligations.SaleTakeRemovesTheRecord := by
  unfold Obligations.SaleTakeRemovesTheRecord
  intro tag s takes counts answered taken refused
  have answers {number : Option Nat} {answer : Answer} {sales : List Sale}
      (owner : saleTake number s = (s.setSales sales, answer)) : answered number answer sales := by
    obtain ⟨t, replies, left⟩ := request_answers (i := .saleTake tag number) rfl rfl takes owner
    exact ⟨t, replies, left.sameBut ((SameBut.refl _ s).setSales (by decide) sales), left.raises (raises_of_hlc rfl),
      left.fdc⟩
  have takesOne {number : Option Nat} {x : Sale}
      (owner : saleTake number s = saleReply (some x) (removeSale x.number s)) : taken number x := answers owner
  have refuses {n : Nat} {code : Status} (owner : saleTake (some n) s = refuse code s) : refused n code := answers owner
  refine ⟨fun x oldest => takesOne (saleTake_oldest oldest), fun empty => answers (saleTake_nothing empty),
    fun n out => refuses (saleTake_outOfRange out), fun n low high => ⟨fun x found => ⟨fun done => ?_, fun opened => ?_⟩,
      fun absent => refuses (saleTake_absent (within_true low high) absent)⟩⟩
  · refine takesOne ?_
    rw [saleTake_found (within_true low high) found, number_of_sale found]
    exact if_pos done
  · refine refuses ?_
    rw [saleTake_found (within_true low high) found]
    exact if_neg (Bool.eq_false_iff.1 opened)

/-! ## The valves close (R150, R151) -/

section
variable {h : Nat} {x : Sale} {s : State}

/-- A hose enters CLOSING with its sale. -/
def closedHose (k : Hose) (now : Nat) : Hose :=
  { k with state := .closing, authSince := none, flowSince := some now, stray := 0, strayReported := false }

theorem closeHose_eq (sale : s.hoseSale h = some x) (reason : EndReason) :
    closeHose h reason s =
      (s.setHose h (closedHose (s.hose h) s.uptime)).setSales
        (s.fdc.sales.map fun y => if y.number = x.number then { y with reason := some reason } else y) := by
  unfold closeHose
  dsimp only
  split
  · rename_i n held
    cases held.symm.trans (number_of_hoseSale sale)
    rfl
  · rename_i none
    cases none.symm.trans (number_of_hoseSale sale)

theorem noFlow_of_flowing (state : (s.hose h).state = .fuelling ∨ (s.hose h).state = .slow) :
    noFlow h s = closeHose h .noFlow s := by
  unfold noFlow
  rcases state with state | state <;> rw [state]

theorem hoseStop_of_flowing (ready : s.fdc.ready = true) (inside : within 1 4 h = true)
    (state : (s.hose h).state = .fuelling ∨ (s.hose h).state = .slow) :
    hoseStop h s = (closeHose h .stop s, ⟨.ok, 0, [⟨0x11, [optField 2 (s.hose h).sale]⟩]⟩) := by
  unfold hoseStop
  rw [ready, inside]
  rcases state with state | state <;> rw [state] <;> rfl

end

/-- Settles O44: both close the hose, and a hose in CLOSING drives no valve. -/
theorem stopAndNoFlowCloseTheValves : Obligations.StopAndNoFlowCloseTheValves := by
  unfold Obligations.StopAndNoFlowCloseTheValves
  intro h x s low high state sale closes
  have closed {reason : EndReason} {t : State} (left : AsLeft (closeHose h reason s) t) : closes reason t := by
    rw [closeHose_eq sale] at left
    have written := dockWritten_of_fdc left.fdc
    refine ⟨left.sameBut (hoseWritten_sameBut (by decide) ..), left.raises (raises_of_hlc rfl), written.others, written.own,
      ?_, ?_, written.queue⟩
    · rw [State.mainValveOut, written.own]
      exact Bool.and_false _
    · rw [State.slowValveOut, written.own]
      exact Bool.and_false _
  refine ⟨fun running => ⟨_, rfl, closed ?_⟩, fun tag takes ready => ?_⟩
  · rw [← noFlow_of_flowing state]
    exact (event_asLeft running).1
  · obtain ⟨t, replies, left⟩ := request_answers (i := .hoseStop tag h) rfl rfl takes
      (hoseStop_of_flowing ready (within_true low high) state)
    exact ⟨t, replies, closed left⟩

end Sys2Proof.Machine
end

section
/-! SUPPORT. The nozzle's lifts and hangs (R146, R147, O45), and the pulses (R138, R148, R149, O46). -/

namespace Sys2Proof.Machine

/-! ## Nozzles (R146, R147) -/

section
variable {h : Nat} {s : State}

theorem keepNozzle_hose (lifted : Bool) : (keepNozzle h lifted s).hose h = { s.hose h with lifted } :=
  (State.hose_setHose ..).trans (if_pos rfl)

/-- A hose that takes a state with its nozzle's reading. -/
theorem enterHose_keepNozzle_hose (lifted : Bool) (state : HoseState) (sale auth flow : Option Nat) :
    (enterHose h state sale auth flow (keepNozzle h lifted s)).hose h = ⟨state, lifted, sale, auth, flow, 0, false⟩ := by
  refine ((State.hose_setHose ..).trans (if_pos rfl)).trans ?_
  rw [keepNozzle_hose]

theorem dockWritten_enterFuelling (x : Sale) :
    DockWritten h
      ⟨flowState 0 x.volLimit (s.hoseCfg h).slowDown, (s.hose h).lifted, some x.number, none, some s.uptime, 0, false⟩
      (s.fdc.sales.map (limitReached x.number (flowState 0 x.volLimit (s.hoseCfg h).slowDown))) s
      (enterFuelling h x s) := by
  rw [enterFuelling_eq]
  exact dockWritten_of_fdc rfl

end

/-- A lift or a pulse works on the fuel dock and on no hose but its own. -/
structure OwnHose (h : Nat) (s t : State) : Prop where
  parts : SameBut [.fuel] s t
  others : ∀ j, j ≠ h → t.hose j = s.hose j

namespace OwnHose

variable {h : Nat} {s t u : State}

theorem trans (first : OwnHose h s t) (next : OwnHose h t u) : OwnHose h s u :=
  ⟨first.parts.trans next.parts, fun j other => (next.others j other).trans (first.others j other)⟩

theorem raise (moved : OwnHose h s t) (b : NoticeBody) : OwnHose h s (t.raise b) := ⟨moved.parts.raise b, moved.others⟩

theorem setHose (k : Hose) : OwnHose h s (s.setHose h k) :=
  ⟨(SameBut.refl _ s).setHose (by decide) h k, (dockWritten_of_fdc (k := k) (sales := s.fdc.sales) rfl).others⟩

theorem setSales (l : List Sale) : OwnHose h s (s.setSales l) :=
  ⟨(SameBut.refl _ s).setSales (by decide) l, fun _ _ => rfl⟩

end OwnHose

section
variable {h : Nat} {s : State}

theorem enterFuelling_ownHose (x : Sale) : OwnHose h s (enterFuelling h x s) := by
  rw [enterFuelling_eq]
  exact (OwnHose.setHose _).trans (.setSales _)

theorem nozzleLift_ownHose : OwnHose h s (nozzleLift h s) := by
  have read : OwnHose h s (keepNozzle h true s) := .setHose _
  unfold nozzleLift
  dsimp only
  split
  case h_1 => exact (read.trans (.setHose _)).raise _
  case h_2 =>
    split
    · exact read.trans (enterFuelling_ownHose _)
    · exact read
  all_goals exact read

theorem nozzleLift_of_idle (idle : (s.hose h).state = .idle) :
    nozzleLift h s =
      (enterHose h .calling none none none (keepNozzle h true s)).raise (.hoseCalling h (s.hoseCfg h).grade) := by
  unfold nozzleLift
  dsimp only
  rw [idle]

theorem keepNozzle_hoseSale (lifted : Bool) : (keepNozzle h lifted s).hoseSale h = s.hoseSale h := by
  rw [State.hoseSale, keepNozzle_hose]
  rfl

theorem nozzleLift_of_authorised {x : Sale} (authorised : (s.hose h).state = .authorised)
    (sale : s.hoseSale h = some x) : nozzleLift h s = enterFuelling h x (keepNozzle h true s) := by
  unfold nozzleLift
  dsimp only
  rw [authorised]
  dsimp only
  rw [keepNozzle_hoseSale, sale]

theorem nozzleLift_else (other : (s.hose h).state ∉ [HoseState.idle, .authorised]) :
    nozzleLift h s = keepNozzle h true s := by
  unfold nozzleLift
  dsimp only
  split
  case h_1 idle => simp [idle] at other
  case h_2 authorised => simp [authorised] at other
  all_goals rfl

theorem nozzleHang_to_idle (waits : (s.hose h).state = .calling ∨ (s.hose h).state = .hangWait) :
    nozzleHang h s = enterHose h .idle none none none (keepNozzle h false s) := by
  unfold nozzleHang
  dsimp only
  rcases waits with state | state <;> rw [state]

theorem nozzleHang_else (still : (s.hose h).state ∉ [HoseState.fuelling, .slow, .closing])
    (stays : ¬((s.hose h).state = .calling ∨ (s.hose h).state = .hangWait)) :
    nozzleHang h s = keepNozzle h false s := by
  unfold nozzleHang
  dsimp only
  split
  case h_1 calling => exact absurd (.inl calling) stays
  case h_2 waiting => exact absurd (.inr waiting) stays
  case h_3 | h_4 | h_5 => simp_all
  all_goals rfl

end

/-- R146: an event of a nozzle of a ready part acts on the switch's new reading. -/
theorem nozzleEvent_asLeft {h : Nat} {lifted : Bool} {s : State} {f : State → State} (running : s.running = true)
    (ready : s.fdc.ready = true) :
    AsLeft (f (s.setNozzle h lifted))
      (event (fun s => if s.fdc.ready then f s else keepNozzle h lifted s) (s.setNozzle h lifted)) := by
  have left := (event_asLeft (f := fun s => if s.fdc.ready then f s else keepNozzle h lifted s)
    (s := s.setNozzle h lifted) running).1
  have acts : (s.setNozzle h lifted).fdc.ready = true := ready
  rwa [if_pos acts] at left

/-- Settles O45: each state's lift and hang is one write of the hose, after the reading is kept. -/
theorem nozzleMovesTheHose : Obligations.NozzleMovesTheHose := by
  unfold Obligations.NozzleMovesTheHose
  intro h s low high running ready k lone fresh
  have alone {lifted : Bool} {u t : State} (moved : OwnHose h (s.setNozzle h lifted) u) (left : AsLeft u t) :
      lone t ∧ t.nozzle h = lifted := by
    have parts := left.sameBut moved.parts
    have switch : SameBut [.supply, .fuel] s (s.setNozzle h lifted) := (SameBut.refl _ s).setNozzle (by decide) h lifted
    refine ⟨⟨switch.trans (parts.mono (by decide)), fun j other => ?_⟩, ?_⟩
    · rw [State.hose, left.fdc]
      exact moved.others j other
    · rw [State.nozzle, parts.supply.resolve_left (by decide)]
      exact (State.nozzle_setNozzle ..).trans (if_pos rfl)
  have hose {u t : State} (left : AsLeft u t) : t.hose h = u.hose h := by rw [State.hose, left.fdc]; rfl
  constructor
  · have left := nozzleEvent_asLeft (h := h) (lifted := true) (f := nozzleLift h) running ready
    refine ⟨_, rfl, ?_⟩
    generalize event _ _ = t at left
    obtain ⟨parts, reads⟩ := alone nozzleLift_ownHose left
    refine ⟨parts, reads, fun idle => ?_, fun x authorised sale => ?_, fun other => ?_⟩
    · rw [nozzleLift_of_idle (s := s.setNozzle h true) idle] at left
      exact ⟨(hose left).trans (enterHose_keepNozzle_hose ..), left.raises (raises_raise _ rfl rfl)⟩
    · rw [nozzleLift_of_authorised (s := s.setNozzle h true) authorised sale] at left
      have written := dockWritten_enterFuelling (h := h) (s := keepNozzle h true (s.setNozzle h true)) x
      rw [keepNozzle_hose] at written
      exact ⟨_, flowState_flowsAt .., (hose left).trans written.own, by rw [left.fdc]; exact written.queue⟩
    · rw [nozzleLift_else (s := s.setNozzle h true) other] at left
      exact ⟨(hose left).trans (keepNozzle_hose true), left.raises (raises_of_hlc rfl)⟩
  · intro still
    have left := nozzleEvent_asLeft (h := h) (lifted := false) (f := nozzleHang h) running ready
    refine ⟨_, rfl, ?_⟩
    generalize event _ _ = t at left
    by_cases waits : k.state = .calling ∨ k.state = .hangWait
    · rw [nozzleHang_to_idle (s := s.setNozzle h false) waits] at left
      obtain ⟨parts, reads⟩ := alone ((OwnHose.setHose _).trans (.setHose _)) left
      refine ⟨parts, reads, left.raises (raises_of_hlc rfl), ?_⟩
      rw [if_pos waits]
      exact (hose left).trans (enterHose_keepNozzle_hose ..)
    · rw [nozzleHang_else (s := s.setNozzle h false) still waits] at left
      obtain ⟨parts, reads⟩ := alone (.setHose _) left
      refine ⟨parts, reads, left.raises (raises_of_hlc rfl), ?_⟩
      rw [if_neg waits]
      exact (hose left).trans (keepNozzle_hose false)

/-! ## Pulses (R138, R148, R149) -/

theorem flowState_flowsAt_volume (volume limit slow : Nat) : FlowsAt volume limit slow (flowState volume limit slow) := by
  unfold FlowsAt flowState
  split
  · exact .inl ⟨‹_›, rfl⟩
  split
  · exact .inr (.inl ⟨by omega, by omega, rfl⟩)
  · exact .inr (.inr ⟨by omega, rfl⟩)

/-- R148: the state a pulse leaves a fuelling hose in. -/
theorem pulseState_moves {state : HoseState} (flows : state ∈ [HoseState.fuelling, .slow, .closing])
    (volume limit slow : Nat) :
    let moved := pulseState state volume limit slow
    (moved = .closing ∨ (state = .slow ∧ volume < limit ∧ moved = .slow) ∨
      (state = .fuelling ∧ FlowsAt volume limit slow moved)) ∧
    (state ≠ .closing → moved = .closing → limit ≤ volume) := by
  simp only [List.mem_cons, List.not_mem_nil, or_false] at flows
  rcases flows with rfl | rfl | rfl
  · refine ⟨.inr (.inr ⟨rfl, flowState_flowsAt_volume ..⟩), fun _ closing => ?_⟩
    rcases flowState_flowsAt_volume volume limit slow with ⟨reached, -⟩ | ⟨-, -, state⟩ | ⟨-, state⟩
    · exact reached
    · cases state.symm.trans closing
    · cases state.symm.trans closing
  · by_cases reached : limit ≤ volume
    · exact ⟨.inl (if_pos reached), fun _ _ => reached⟩
    · have stays : pulseState .slow volume limit slow = .slow := if_neg reached
      exact ⟨.inr (.inl ⟨rfl, by omega, stays⟩), fun _ closing => by cases stays.symm.trans closing⟩
  · exact ⟨.inl rfl, fun out => absurd rfl out⟩

/-- R148: a fuelling hose after a pulse. -/
def pulsedHose (k : Hose) (state : HoseState) (now : Nat) : Hose :=
  if state = k.state then { k with flowSince := some now }
  else ⟨state, k.lifted, k.sale, none, some now, 0, false⟩

theorem pulsedHose_fields (k : Hose) (state : HoseState) (now : Nat) :
    (pulsedHose k state now).state = state ∧ (pulsedHose k state now).sale = k.sale ∧
      (pulsedHose k state now).flowSince = some now := by
  unfold pulsedHose
  split
  · exact ⟨Eq.symm ‹_›, rfl, rfl⟩
  · exact ⟨rfl, rfl, rfl⟩

/-- R148: the record of a sale after a pulse, with the end reason LIMIT where the pulse closes the hose. -/
def pulsedSale (number pulses volume : Nat) (closes : Bool) (y : Sale) : Sale :=
  if y.number = number then { y with pulses, volume, reason := if closes then some .limit else y.reason } else y

/-- R148: a record counts its pulse, then takes the end reason of the closure. -/
theorem pulsedSales_closing (number pulses volume : Nat) (l : List Sale) :
    ((l.map fun y => if y.number = number then { y with pulses, volume } else y).map fun y =>
        if y.number = number then { y with reason := some EndReason.limit } else y) =
      l.map (pulsedSale number pulses volume true) := by
  rw [List.map_map]
  refine List.map_congr_left fun y _ => ?_
  by_cases own : y.number = number <;> simp [pulsedSale, own]

section
variable {h : Nat} {x : Sale} {s : State}

/-- R148: the volume of a sale with one more pulse. -/
def pulsedVolume (x : Sale) : Nat := volumeOf (countPulse x.pulses) x.p10

/-- R148: the state that a pulse of a sale takes its hose to. -/
def pulsedState (h : Nat) (x : Sale) (s : State) : HoseState :=
  pulseState (s.hose h).state (pulsedVolume x) x.volLimit (s.hoseCfg h).slowDown

theorem salePulse_eq :
    salePulse h x s =
      (s.setHose h (pulsedHose (s.hose h) (pulsedState h x s) s.uptime)).setSales
        (s.fdc.sales.map (pulsedSale x.number (countPulse x.pulses) (pulsedVolume x)
          (decide ((s.hose h).state ≠ .closing ∧ pulsedState h x s = .closing)))) := by
  unfold salePulse
  dsimp only
  rw [← pulsedVolume, ← pulsedState, pulsedHose]
  by_cases stays : pulsedState h x s = (s.hose h).state
  · have keeps : ¬((s.hose h).state ≠ .closing ∧ pulsedState h x s = .closing) := fun ⟨out, closing⟩ =>
      out (stays.symm.trans closing)
    rw [if_pos stays, if_pos stays, decide_eq_false keeps]
    rfl
  · rw [if_neg stays, if_neg stays]
    by_cases closing : pulsedState h x s = .closing
    · have closes : (s.hose h).state ≠ .closing ∧ pulsedState h x s = .closing :=
        ⟨fun out => stays (closing.trans out.symm), closing⟩
      rw [if_pos closing, decide_eq_true closes, closing, ← pulsedSales_closing]
      rfl
    · rw [if_neg closing, decide_eq_false fun closes => closing closes.2]
      rfl

theorem pulse_of_sale (flows : (s.hose h).state ∈ [HoseState.fuelling, .slow, .closing])
    (sale : s.hoseSale h = some x) : pulse h s = salePulse h x s := by
  simp only [List.mem_cons, List.not_mem_nil, or_false] at flows
  unfold pulse
  rcases flows with state | state | state <;> rw [state, sale]

theorem pulse_of_other_state (out : (s.hose h).state ∉ [HoseState.fuelling, .slow, .closing]) :
    pulse h s = strayPulse h s := by
  unfold pulse
  split
  case h_1 state => simp [state] at out
  case h_2 state => simp [state] at out
  case h_3 state => simp [state] at out
  all_goals rfl

theorem salePulse_ownHose : OwnHose h s (salePulse h x s) := by
  rw [salePulse_eq]
  exact (OwnHose.setHose _).trans (.setSales _)

/-- R149: a stray pulse is counted, and reported once. -/
def strayHose (k : Hose) : Hose := { k with stray := min (k.stray + 1) 65535, strayReported := true }

theorem strayPulse_eq :
    strayPulse h s =
      if (s.hose h).strayReported then s.setHose h (strayHose (s.hose h))
      else (s.setHose h (strayHose (s.hose h))).raise (.hoseStray h (s.hose h).state (s.hose h).sale) := rfl

theorem strayPulse_ownHose : OwnHose h s (strayPulse h s) := by
  rw [strayPulse_eq]
  split
  · exact .setHose _
  · exact (OwnHose.setHose _).raise _

theorem strayPulse_fdc : (strayPulse h s).fdc = (s.setHose h (strayHose (s.hose h))).fdc := by
  rw [strayPulse_eq]
  split <;> rfl

theorem strayPulse_raises :
    Raises (if (s.hose h).strayReported then [] else [.hoseStray h (s.hose h).state (s.hose h).sale]) s
      (strayPulse h s) := by
  rw [strayPulse_eq]
  split
  · exact raises_of_hlc rfl
  · exact raises_raise _ rfl rfl

theorem pulse_ownHose : OwnHose h s (pulse h s) := by
  have taken : OwnHose h s (match s.hoseSale h with | some x => salePulse h x s | none => strayPulse h s) := by
    split
    · exact salePulse_ownHose
    · exact strayPulse_ownHose
  unfold pulse
  split
  case h_1 | h_2 | h_3 => exact taken
  all_goals exact strayPulse_ownHose

end

/-- Settles O46: a pulse of a sale is one write of its hose and its record; any other is one write of its hose. -/
theorem pulseIsCountedOrStray : Obligations.PulseIsCountedOrStray := by
  unfold Obligations.PulseIsCountedOrStray
  intro h s low high running k
  have left := (event_asLeft (f := pulse h) running).1
  refine ⟨_, rfl, ?_⟩
  generalize event _ _ = t at left
  have moved : OwnHose h s (pulse h s) := pulse_ownHose
  refine ⟨left.sameBut moved.parts, fun j other => ?_, fun x flows sale counts => ?_, fun out => ?_⟩
  · rw [State.hose, left.fdc]
    exact moved.others j other
  · rw [pulse_of_sale flows sale, salePulse_eq] at left
    have written := dockWritten_of_fdc left.fdc
    obtain ⟨state, held, since⟩ := pulsedHose_fields (s.hose h) (pulsedState h x s) s.uptime
    have counted : countPulse x.pulses = x.pulses + 1 := if_neg (Nat.not_le.2 counts)
    have volume_eq : pulsedVolume x = (x.pulses + 1) * 1000 / x.p10 := by rw [pulsedVolume, counted, volumeOf]
    have moves := pulseState_moves flows (pulsedVolume x) x.volLimit (s.hoseCfg h).slowDown
    have queue := written.queue
    rw [← pulsedState] at moves
    rw [counted] at queue
    rw [written.own, state, held, since, ← volume_eq]
    refine ⟨moves.1, moves.2, rfl, rfl, left.raises (raises_of_hlc rfl), fun stays => ?_, fun closes => ?_⟩
    · rw [queue, decide_eq_false stays]
      rfl
    · rw [queue, decide_eq_true closes]
      rfl
  · rw [pulse_of_other_state out] at left
    have written : DockWritten h (strayHose k) s.fdc.sales s t := dockWritten_of_fdc (left.fdc.trans strayPulse_fdc)
    exact ⟨written.own, written.queue, left.raises strayPulse_raises⟩

end Sys2Proof.Machine
end

section
/-! SUPPORT. The end of a sale (R59, R152): what its hand-over to the ACU leaves as it was, the events that end a sale (O43),
and the FDC's start processing (R155, O48). -/

namespace Sys2Proof.Machine

/-! ## The hand-over (R59) -/

section
variable (x : Sale) (charged : Nat) (s : State)

theorem handToAcu_account {a : Nat} (mode : x.mode = .account) (account : x.account = some a) :
    handToAcu x charged s =
      post a (-(charged : Int)) (s.setAccount a { s.account a with earmark := (s.account a).earmark - x.maxAmount }) := by
  unfold handToAcu
  rw [mode, account]

theorem handToAcu_house (mode : x.mode = .house) : handToAcu x charged s = post 0 (-(charged : Int)) s := by
  unfold handToAcu
  rw [mode]

theorem handToAcu_prepaid (mode : x.mode = .prepaid) : handToAcu x charged s = s := by
  unfold handToAcu
  rw [mode]

theorem handToAcu_sameBut : SameBut holdParts s (handToAcu x charged s) := by
  unfold handToAcu
  split
  · exact ((SameBut.refl _ s).setAccount (by decide) ..).trans (post_sameBut (fun _ h => h) ..)
  · exact post_sameBut (fun _ h => h) ..
  · exact .refl _ s

theorem handToAcu_speaks : Speaks s (handToAcu x charged s) := by
  unfold handToAcu
  split
  · exact (post_speaks ..).after rfl
  · exact post_speaks ..
  · exact .refl s

end

section
variable (x : Sale) (u : State)

theorem handedOver_sameBut : SameBut holdParts u (handedOver x u) := handToAcu_sameBut ..

theorem handedOver_fdc : (handedOver x u).fdc = u.fdc := (handedOver_sameBut x u).fuel.resolve_left (by decide)

theorem handedOver_hose (h : Nat) : (handedOver x u).hose h = u.hose h := by
  rw [State.hose, handedOver_fdc]
  rfl

theorem now_of_sameBut {parts : List Part} {s t : State} (h : SameBut parts s t)
    (out : Part.clock ∉ parts := by decide) : t.now = s.now := by
  rw [State.now, h.clock.resolve_left out]
  rfl

theorem handedOver_now : (handedOver x u).now = u.now := now_of_sameBut (handedOver_sameBut x u)

end

/-! ## A sale ends (R152) -/

section
variable {h : Nat} {x : Sale} {u : State}

/-- The queue with one record completed. -/
def completedSales (x : Sale) (reason : EndReason) (moment : Stamp) (l : List Sale) : List Sale :=
  l.map fun y => if y.number = x.number then finished x reason moment else y

/-- R152: the sale is handed over, its hose and its record are written, and SALE(DONE) is raised. -/
theorem endSale_eq (sale : u.hoseSale h = some x) (state : HoseState) (reason : EndReason) :
    endSale h state reason u =
      (((handedOver x u).setHose h ⟨state, (u.hose h).lifted, none, none, none, 0, false⟩).setSales
        (completedSales x (x.reason.getD reason) u.now u.fdc.sales)).raise
        (saleNotice (finished x (x.reason.getD reason) u.now)) := by
  unfold endSale
  rw [sale]
  dsimp only
  rw [← handedOver_hose x u h, ← handedOver_now x u, ← handedOver_fdc x u]
  rfl

theorem endSale_speaks (sale : u.hoseSale h = some x) (state : HoseState) (reason : EndReason) :
    Speaks u (endSale h state reason u) := by
  rw [endSale_eq sale]
  have written (k : Hose) (l : List Sale) : Speaks u (((handedOver x u).setHose h k).setSales l) :=
    (handToAcu_speaks ..).andThen rfl
  exact (written ..).raise _

/-- What ends a hose's sale leaves it ended. -/
theorem saleEnded_of_asLeft {t : State} {state : HoseState} {reason : EndReason} (sale : u.hoseSale h = some x)
    (left : AsLeft (endSale h state reason u) t) :
    t.sup = u.sup ∧ SaleEnded h x (x.reason.getD reason) state u t := by
  rw [endSale_eq sale] at left
  have parts : SameBut (.fuel :: holdParts) u t := left.sameBut
    ((((handedOver_sameBut x u).mono (by decide)).trans (hoseWritten_sameBut (by decide) ..)).raise _)
  have written := dockWritten_of_fdc left.fdc
  refine ⟨parts.supply.resolve_left (by decide), ?_⟩
  exact
    { sales := written.queue, ended := written.own, parts
      others := fun j other => (written.others j other).trans (handedOver_hose ..)
      rest := by rw [written.rest, handedOver_fdc]
      accounts := left.acu, feeders := left.far, line := left.pdl, gates := left.gtc
      notice := fun room => by
        have raised := raises_raise (s := handedOver x u)
          (t := ((handedOver x u).setHose h ⟨state, (u.hose h).lifted, none, none, none, 0, false⟩).setSales
            (completedSales x (x.reason.getD reason) u.now u.fdc.sales))
          (saleNotice (finished x (x.reason.getD reason) u.now)) rfl rfl
        rw [left.outgoing, raised room, handedOver_now]
        rfl }

/-- An event that ends a sale leaves the reply in the slot. -/
theorem event_endSale {f : State → State} {v : State} {state : HoseState} {reason : EndReason} (running : v.running = true)
    (ends : f v = endSale h state reason u) (sale : u.hoseSale h = some x) (hlc : u.hlc = v.hlc) :
    (event f v).reply = v.reply ∧ (event f v).sup = u.sup ∧ SaleEnded h x (x.reason.getD reason) state u (event f v) := by
  obtain ⟨left, reply⟩ := event_asLeft (f := f) running
  rw [ends] at left reply
  refine ⟨reply.trans ((endSale_speaks sale state reason).reply.trans ?_), saleEnded_of_asLeft sale left⟩
  rw [State.reply, hlc]
  rfl

end

/-! ## The events that end a sale (R146, R150, R151) -/

section
variable {h : Nat} {s : State}

theorem nozzleHang_ends (flows : (s.hose h).state ∈ [HoseState.fuelling, .slow, .closing]) :
    nozzleHang h s = endSale h .idle .nozzle (keepNozzle h false s) := by
  simp only [List.mem_cons, List.not_mem_nil, or_false] at flows
  unfold nozzleHang
  dsimp only
  rcases flows with state | state | state <;> rw [state]

theorem authTimeout_ends (authorised : (s.hose h).state = .authorised) :
    authTimeout h s = endSale h .idle .authTimeout s := if_pos authorised

theorem noFlow_ends (closing : (s.hose h).state = .closing) : noFlow h s = endSale h .hangWait .noFlow s := by
  unfold noFlow
  rw [closing]

theorem hoseStop_ends (ready : s.fdc.ready = true) (inside : within 1 4 h = true)
    (state : (s.hose h).state = .authorised ∨ (s.hose h).state = .closing) :
    hoseStop h s =
      (endSale h (if (s.hose h).state = .authorised then .idle else .hangWait) .stop s,
        ⟨.ok, 0, [⟨0x11, [optField 2 (s.hose h).sale]⟩]⟩) := by
  unfold hoseStop
  rw [ready, inside]
  rcases state with state | state <;> rw [state] <;> rfl

end

/-- Settles O43: each event ends the sale, and the hand-over is a posting of the charge behind the earmark given back. -/
theorem saleCompletesAndIsCharged : Obligations.SaleCompletesAndIsCharged := by
  unfold Obligations.SaleCompletesAndIsCharged
  refine ⟨?ends, fun x reason moment s => ⟨rfl, fun charged =>
    ⟨fun a mode account => handToAcu_account x charged s mode account, fun mode => handToAcu_house x charged s mode,
      fun mode => handToAcu_prepaid x charged s mode⟩⟩⟩
  intro h x s low high running ready sale ended st
  refine ⟨fun flows => ?hang, fun authorised => ?timeout, fun closing => ?noFlow, fun tag takes state => ?stop⟩
  case hang =>
    intro hung
    have kept : hung.hoseSale h = some x := (keepNozzle_hoseSale (s := s.setNozzle h false) false).trans sale
    refine ⟨_, rfl, event_endSale running ?_ kept rfl⟩
    exact (if_pos ready).trans (nozzleHang_ends (s := s.setNozzle h false) flows)
  case timeout => exact ⟨_, rfl, event_endSale running (authTimeout_ends authorised) sale rfl⟩
  case noFlow => exact ⟨_, rfl, event_endSale running (noFlow_ends closing) sale rfl⟩
  case stop =>
    obtain ⟨t, replies, left⟩ := request_answers (i := .hoseStop tag h) rfl rfl takes
      (hoseStop_ends ready (within_true low high) state)
    rw [number_of_hoseSale sale] at replies
    exact ⟨t, replies, saleEnded_of_asLeft sale left⟩

/-! ## The start processing (R155) -/

/-- R155 step 1: the hand-overs of a list of sales, each with its SALE(DONE), in order. -/
def powerEnded (moment : Stamp) (l : List Sale) (s : State) : State :=
  l.foldl (fun u x => (handedOver x u).raise (saleNotice (finished x .power moment))) s

theorem powerEnded_sameBut (moment : Stamp) (l : List Sale) (s : State) : SameBut holdParts s (powerEnded moment l s) :=
  .foldl _ (fun u x => (handedOver_sameBut x u).raise _) l s

/-- The clock stands still while the sales are completed. -/
theorem foldl_powerSale (l : List Sale) (s : State) :
    l.foldl (fun u x => powerSale x u) s = powerEnded s.now l s := by
  induction l generalizing s with
  | nil => rfl
  | cons x rest ih =>
    have now : (powerSale x s).now = s.now := now_of_sameBut ((handedOver_sameBut x s).raise _)
    rw [List.foldl_cons, ih, now]
    rfl

/-- The queue after the start processing. -/
def startedSales (moment : Stamp) (l : List Sale) : List Sale :=
  l.map fun x => if x.done then x else finished x .power moment

theorem startedSales_done (moment : Stamp) (l : List Sale) : ∀ x ∈ startedSales moment l, x.done = true := by
  intro y hy
  obtain ⟨x, -, rfl⟩ := List.mem_map.1 hy
  split
  · assumption
  · rfl

theorem startedSales_numbers (moment : Stamp) (l : List Sale) :
    (startedSales moment l).map (·.number) = l.map (·.number) := by
  rw [startedSales, List.map_map]
  refine List.map_congr_left fun x _ => ?_
  show (if x.done then x else _).number = _
  split <;> rfl

/-- R155: the OPEN sales are handed over, the queue is completed, each hose is read from its nozzle, and the dock is
ready. -/
theorem fdcStart_eq (s : State) :
    ∃ hoses,
      fdcStart s =
        (let after := powerEnded s.now (s.fdc.sales.filter fun x => !x.done) s
         { after with fdc := { s.fdc with sales := startedSales s.now s.fdc.sales, hoses, ready := true } }) ∧
      ∀ h ∈ [1, 2, 3, 4], tableGet startHose hoses h = if s.nozzle h then startHoseLifted else startHose := by
  let after := powerEnded s.now (s.fdc.sales.filter fun x => !x.done) s
  have parts : SameBut holdParts s after := powerEnded_sameBut ..
  have fdc : after.fdc = s.fdc := parts.fuel.resolve_left (by decide)
  have sup : after.sup = s.sup := parts.supply.resolve_left (by decide)
  obtain ⟨hoses, eq, reads⟩ := startHoses_eq [1, 2, 3, 4] (after.setSales (startedSales s.now s.fdc.sales))
  refine ⟨hoses, ?_, fun h listed => ?_⟩
  · unfold fdcStart
    dsimp only
    rw [foldl_powerSale, ← startedSales, eq]
    show { after with fdc := { after.fdc with sales := _, hoses, ready := true } } = _
    rw [fdc]
    rfl
  · rw [reads, if_pos listed]
    show (if tableGet false after.sup.nozzles h then _ else _) = _
    rw [sup]
    rfl

/-- Settles O48: the start processing is the hand-overs and one write of the dock. -/
theorem fdcStartCompletesOpenSales : Obligations.FdcStartCompletesOpenSales := by
  unfold Obligations.FdcStartCompletesOpenSales
  intro s running waits
  obtain ⟨hoses, eq, reads⟩ := fdcStart_eq s
  have left := (event_asLeft (f := fun s => if s.fdc.ready then s else fdcStart s) running).1
  refine ⟨_, rfl, ?_⟩
  generalize event _ _ = t at left
  rw [if_neg (by rw [waits]; decide), eq] at left
  have parts := left.sameBut (((powerEnded_sameBut ..).mono (by decide)).trans
    (SameBut.writeFdc (parts := .fuel :: holdParts) (by decide) _ _))
  have fdc := left.fdc
  have sales : t.fdc.sales = startedSales s.now s.fdc.sales := by rw [fdc]
  refine ⟨parts, by rw [fdc], ?_, ?_, sales, ⟨left.acu, left.far, left.pdl, left.gtc, left.outgoing⟩, by rw [fdc],
    by rw [fdc], by rw [fdc], fun h listed => ?_⟩
  · rw [sales]
    exact startedSales_done _ _
  · rw [sales]
    exact startedSales_numbers ..
  · rw [State.hose, fdc]
    exact reads h listed

end Sys2Proof.Machine
end

section
/-! SUPPORT. The gate controller written, and notices raised with it: a terminal with the fuel dock's own fields (R166), or a
gate (R163); and how an event leaves what was written. -/

namespace Sys2Proof.Machine

namespace AsLeft

variable {u t : State}

theorem sup (h : AsLeft u t) : t.sup = u.sup := by rw [h.blocks]
theorem cred (h : AsLeft u t) (i : Nat) : t.cred i = u.cred i := by rw [h.blocks]; rfl
theorem gateCfg (h : AsLeft u t) (i : Nat) : t.gateCfg i = u.gateCfg i := by rw [h.blocks]; rfl
theorem gate (h : AsLeft u t) (i : Nat) : t.gate i = u.gate i := by rw [h.blocks]; rfl
theorem terminal (h : AsLeft u t) (i : Nat) : t.terminal i = u.terminal i := by rw [h.blocks]; rfl

end AsLeft

/-! ## Writes of the gate controller with notices -/

/-- The gate controller alone is written, and notices are raised. -/
structure GateWork (l : List NoticeBody) (s t : State) : Prop where
  blocks : t = { l.foldl State.raise s with gtc := t.gtc }

namespace GateWork

variable {l : List NoticeBody} {s t : State}

theorem refl (s : State) : GateWork [] s s := ⟨rfl⟩

theorem write (h : GateWork l s t) (x : Gtc) : GateWork l s { t with gtc := x } :=
  ⟨congrArg (fun v : State => { v with gtc := x }) h.blocks⟩

theorem raise (h : GateWork l s t) (b : NoticeBody) : GateWork (l ++ [b]) s (t.raise b) := by
  refine ⟨?_⟩
  rw [List.foldl_append]
  exact congrArg (fun v : State => v.raise b) h.blocks

theorem sameBut (h : GateWork l s t) : SameBut [.gates] s t := by
  rw [h.blocks]
  exact ((raiseAll_sameBut l s).mono (by simp)).trans (.writeGtc (by decide) _ _)

theorem raises (h : GateWork l s t) : Raises l s t := by
  intro room
  rw [h.blocks, raiseAll_of_room room]
  exact outgoing_of_notices (h := s.hlc) (k := { s.hlc with notices := s.hlc.notices ++ _ }) rfl rfl

theorem uptime (h : GateWork l s t) : t.uptime = s.uptime := by
  rw [State.uptime, h.sameBut.clock.resolve_left (by decide)]
  rfl

end GateWork

/-! ## A terminal (R166) -/

/-- Of the gate controller one terminal is written, the fuel dock's own fields are as given, and no gate, no credential and
no configured field is touched; notices are raised. -/
structure TerminalWritten (n : Nat) (k : Terminal) (dock : FuelTerminal) (l : List NoticeBody) (s t : State) : Prop where
  work : GateWork l s t
  rest : t.gtc =
    { s.gtc with terminals := t.gtc.terminals, fuel := t.gtc.fuel, keyEvents := t.gtc.keyEvents }
  own : t.terminal n = k
  others : ∀ j, j ≠ n → t.terminal j = s.terminal j
  fuel : t.gtc.fuel = dock

/-- The same of a state in which an event leaves the part. -/
structure TerminalLeft (n : Nat) (k : Terminal) (dock : FuelTerminal) (l : List NoticeBody) (s t : State) : Prop where
  sameBut : SameBut [.gates] s t
  raises : Raises l s t
  gates : t.gtc.gates = s.gtc.gates
  creds : t.gtc.creds = s.gtc.creds
  own : t.terminal n = k
  others : ∀ j, j ≠ n → t.terminal j = s.terminal j
  fuel : t.gtc.fuel = dock

/-- The fuel dock's own fields once terminal `n`'s pending card is dropped (R182). -/
def windowShut (n : Nat) (dock : FuelTerminal) : FuelTerminal := if n = 7 then { dock with window := .none } else dock

/-- A terminal after a failed submission at a moment; the fifth locks it out (R169). -/
def failedTerminal (moment : Nat) (k : Terminal) : Terminal :=
  if k.failures + 1 < 5 then { k with failures := k.failures + 1 }
  else { k with buffer := [], keySince := none, card := none, failures := 0, lockoutSince := some moment }

namespace TerminalWritten

variable {n : Nat} {k : Terminal} {dock : FuelTerminal} {l : List NoticeBody} {s t : State}

theorem refl (n : Nat) (s : State) : TerminalWritten n (s.terminal n) s.gtc.fuel [] s s :=
  ⟨.refl s, rfl, rfl, fun _ _ => rfl, rfl⟩

theorem setTerminal (h : TerminalWritten n k dock l s t) (x : Terminal) :
    TerminalWritten n x dock l s (t.setTerminal n x) where
  work := h.work.write _
  rest := congrArg (fun g : Gtc => { g with terminals := tableSet startTerminal t.gtc.terminals n x }) h.rest
  own := (State.terminal_setTerminal ..).trans (if_pos rfl)
  others j other := ((State.terminal_setTerminal ..).trans (if_neg other)).trans (h.others j other)
  fuel := h.fuel

theorem setFuel (h : TerminalWritten n k dock l s t) (x : FuelTerminal) : TerminalWritten n k x l s (t.setFuel x) where
  work := h.work.write _
  rest := congrArg (fun g : Gtc => { g with fuel := x }) h.rest
  own := h.own
  others := h.others
  fuel := rfl

/-- The list of key events that wait is the scanners' (R167). -/
theorem setKeyEvents (h : TerminalWritten n k dock l s t) (x : List (Nat × Nat)) :
    TerminalWritten n k dock l s { t with gtc := { t.gtc with keyEvents := x } } where
  work := h.work.write _
  rest := congrArg (fun g : Gtc => { g with keyEvents := x }) h.rest
  own := h.own
  others := h.others
  fuel := h.fuel

theorem raise (h : TerminalWritten n k dock l s t) (b : NoticeBody) :
    TerminalWritten n k dock (l ++ [b]) s (t.raise b) where
  work := h.work.raise b
  rest := h.rest
  own := h.own
  others := h.others
  fuel := h.fuel

theorem forgetKey (h : TerminalWritten n k dock l s t) (key : Nat) :
    TerminalWritten n k dock l s (forgetKey n key t) := h.setKeyEvents _

theorem clearBuffer (h : TerminalWritten n k dock l s t) :
    TerminalWritten n { k with buffer := [], keySince := none } dock l s (clearBuffer n t) := by
  rw [← h.own]
  exact h.setTerminal _

theorem dropCard (h : TerminalWritten n k dock l s t) :
    TerminalWritten n { k with card := none } (windowShut n dock) l s (dropCard n t) := by
  rw [← h.own, ← h.fuel]
  unfold Machine.dropCard windowShut
  dsimp only
  split
  · exact (h.setTerminal _).setFuel _
  · exact { h.setTerminal _ with fuel := rfl }

theorem holdCard (h : TerminalWritten n k dock l s t) (c : Nat) :
    TerminalWritten n { k with card := some ⟨c, s.uptime⟩ } dock l s (holdCard n c t) := by
  rw [← h.own, ← h.work.uptime]
  exact h.setTerminal _

theorem clearFailures (h : TerminalWritten n k dock l s t) :
    TerminalWritten n { k with failures := 0 } dock l s (clearFailures n t) := by
  rw [← h.own]
  exact h.setTerminal _

theorem lampRed (h : TerminalWritten n k dock l s t) :
    TerminalWritten n k { dock with lamp := .red s.uptime } l s (lampRed t) := by
  rw [← h.fuel, ← h.work.uptime]
  exact h.setFuel _

theorem lockOut (h : TerminalWritten n k dock l s t) :
    TerminalWritten n
      { k with buffer := [], keySince := none, card := none, failures := 0, lockoutSince := some s.uptime }
      (windowShut n dock) l s (lockOut n t) := by
  have emptied := h.dropCard.clearBuffer
  unfold Machine.lockOut
  dsimp only
  rw [emptied.own, emptied.work.uptime]
  exact emptied.setTerminal _

/-- R169: the fifth failed submission in a row locks the terminal out. -/
theorem refuseSubmission (h : TerminalWritten n k dock l s t) (reader : Reader) (c : Option Nat) :
    TerminalWritten n (failedTerminal s.uptime k) (if k.failures + 1 < 5 then dock else windowShut n dock)
      (l ++ [.gateRefused n reader c .unknown (decide (5 ≤ k.failures + 1))]) s (refuseSubmission n reader c t) := by
  unfold Machine.refuseSubmission failSubmission failedTerminal
  dsimp only
  rw [h.own]
  by_cases few : k.failures + 1 < 5
  · rw [if_neg (not_le.2 few), if_pos few, if_pos few, decide_eq_false (not_le.2 few)]
    exact (h.setTerminal _).raise _
  · rw [if_pos (not_lt.1 few), if_neg few, if_neg few, decide_eq_true (not_lt.1 few)]
    exact h.lockOut.raise _

/-! What reads neither a terminal nor the fuel dock's own fields reads as before, where no notice was raised. -/

theorem blocks (h : TerminalWritten n k dock [] s t) :
    t = { s with gtc :=
      { s.gtc with terminals := t.gtc.terminals, fuel := t.gtc.fuel, keyEvents := t.gtc.keyEvents } } := by
  rw [← h.rest]
  exact h.work.blocks

theorem cred (h : TerminalWritten n k dock [] s t) (i : Nat) : t.cred i = s.cred i := by rw [h.blocks]; rfl
theorem gateCfg (h : TerminalWritten n k dock [] s t) (i : Nat) : t.gateCfg i = s.gateCfg i := by rw [h.blocks]; rfl
theorem gate (h : TerminalWritten n k dock [] s t) (i : Nat) : t.gate i = s.gate i := by rw [h.blocks]; rfl

theorem credByToken (h : TerminalWritten n k dock [] s t) (token : Nat) : t.credByToken token = s.credByToken token := by
  rw [h.blocks]; rfl

theorem credByPin (h : TerminalWritten n k dock [] s t) (pin : List Nat) : t.credByPin pin = s.credByPin pin := by
  rw [h.blocks]; rfl

theorem credAccount (h : TerminalWritten n k dock [] s t) (c : Cred) : t.credAccount c = s.credAccount c := by
  rw [h.blocks]; rfl

theorem entryRefusal (h : TerminalWritten n k dock [] s t) (g : Nat) (c : Cred) :
    t.entryRefusal g c = s.entryRefusal g c := by rw [h.blocks]; rfl

theorem dockRefusal (h : TerminalWritten n k dock [] s t) (c : Cred) : t.dockRefusal c = s.dockRefusal c := by
  rw [h.blocks]; rfl

theorem asLeft {u : State} (h : TerminalWritten n k dock l s u) (left : AsLeft u t) :
    TerminalLeft n k dock l s t where
  sameBut := left.sameBut h.work.sameBut
  raises := left.raises h.work.raises
  gates := by rw [left.gtc, h.rest]
  creds := by rw [left.gtc, h.rest]
  own := (left.terminal n).trans h.own
  others j other := (left.terminal j).trans (h.others j other)
  fuel := by rw [left.gtc, h.fuel]

theorem event {f : State → State} (h : TerminalWritten n k dock l s (f s)) (running : s.running = true) :
    TerminalLeft n k dock l s (event f s) := h.asLeft (event_asLeft running).1

end TerminalWritten

/-! ## A gate (R163) -/

/-- Of the gate controller one gate is written, and notices are raised. -/
structure GateWritten (g : Nat) (k : Gate) (l : List NoticeBody) (s t : State) : Prop where
  work : GateWork l s t
  rest : t.gtc = { s.gtc with gates := t.gtc.gates }
  own : t.gate g = k
  others : ∀ j, j ≠ g → t.gate j = s.gate j

/-- A door's record with no attribution and no timer (R176). -/
def settledGate (door : DoorState) (isOpen : Bool) : Gate := ⟨door, isOpen, none, none, none, none, false⟩

namespace GateWritten

variable {g : Nat} {k : Gate} {l : List NoticeBody} {s t : State}

theorem refl (g : Nat) (s : State) : GateWritten g (s.gate g) [] s s := ⟨.refl s, rfl, rfl, fun _ _ => rfl⟩

theorem setGate (h : GateWritten g k l s t) (x : Gate) : GateWritten g x l s (t.setGate g x) where
  work := h.work.write _
  rest := congrArg (fun c : Gtc => { c with gates := tableSet startGate t.gtc.gates g x }) h.rest
  own := (State.gate_setGate ..).trans (if_pos rfl)
  others j other := ((State.gate_setGate ..).trans (if_neg other)).trans (h.others j other)

theorem raise (h : GateWritten g k l s t) (b : NoticeBody) : GateWritten g k (l ++ [b]) s (t.raise b) where
  work := h.work.raise b
  rest := h.rest
  own := h.own
  others := h.others

theorem keepContact (h : GateWritten g k l s t) (isOpen : Bool) :
    GateWritten g { k with contactOpen := isOpen } l s (keepContact g isOpen t) := by
  rw [← h.own]
  exact h.setGate _

theorem settleDoor (h : GateWritten g k l s t) (door : DoorState) :
    GateWritten g (settledGate door k.contactOpen) l s (settleDoor g door t) := by
  rw [← h.own]
  exact h.setGate _

end GateWritten

end Sys2Proof.Machine
end

section
/-! SUPPORT. The terminals: their timers (R168 to R170, R182, R183; O57), their keys and failed submissions (R168, R169), and
the keypad scanner (R167; O55). -/

namespace Sys2Proof.Machine

/-! ## Timers -/

section
variable {n : Nat} {s : State}

theorem interKeyTimeout_written (started : (s.terminal n).keySince.isSome = true) :
    TerminalWritten n { s.terminal n with buffer := [], keySince := none } s.gtc.fuel [] s (interKeyTimeout n s) := by
  rw [interKeyTimeout, if_pos started]
  exact (TerminalWritten.refl n s).clearBuffer

theorem lockoutExpiry_written :
    TerminalWritten n { s.terminal n with lockoutSince := none } s.gtc.fuel [] s (lockoutExpiry n s) :=
  (TerminalWritten.refl n s).setTerminal _

theorem cardWindowExpiry_written (pending : (s.terminal n).card.isSome = true) :
    TerminalWritten n { s.terminal n with buffer := [], keySince := none, card := none } (windowShut n s.gtc.fuel) [] s
      (cardWindowExpiry n s) := by
  rw [cardWindowExpiry, if_pos pending]
  exact (TerminalWritten.refl n s).dropCard.clearBuffer

theorem fuelWindowExpiry_written (opened : s.gtc.fuel.window ≠ .none) :
    TerminalWritten 7 { s.terminal 7 with buffer := [], keySince := none, card := none }
      { s.gtc.fuel with window := .none } [] s (fuelWindowExpiry s) := by
  rw [fuelWindowExpiry, if_neg opened]
  exact (TerminalWritten.refl 7 s).dropCard.clearBuffer

end

/-- Terminal 7 alone has a window (R166). -/
theorem windowShut_of_gate {n : Nat} (gate : n ≠ 7) (dock : FuelTerminal) : windowShut n dock = dock := if_neg gate

/-- Settles O57: each timer's end is one write of its terminal, or of the lamp. -/
theorem terminalTimersEnd : Obligations.TerminalTimersEnd := by
  unfold Obligations.TerminalTimersEnd
  intro n s low high running k lone
  have alone {m : Nat} {x : Terminal} {dock : FuelTerminal} {t : State} (same : m = n)
      (left : TerminalLeft m x dock [] s t) : lone t :=
    ⟨left.sameBut, left.raises, fun j other => left.others j (same ▸ other), left.gates, left.creds⟩
  refine ⟨fun started => ?_, ?_, fun gate pending => ?_, fun dock opened => ?_, ?_⟩
  · have left := (interKeyTimeout_written started).event running
    exact ⟨_, rfl, alone rfl left, left.own, left.fuel⟩
  · have left := (lockoutExpiry_written (n := n)).event running
    exact ⟨_, rfl, alone rfl left, left.own, left.fuel⟩
  · have left := (cardWindowExpiry_written pending).event running
    exact ⟨_, rfl, alone rfl left, left.own, left.fuel.trans (windowShut_of_gate (by omega) _)⟩
  · have left := (fuelWindowExpiry_written opened).event running
    exact ⟨_, rfl, alone dock.symm left, by rw [left.own, ← dock], left.fuel⟩
  · have work : GateWork [] s (lampExpiry s) := (GateWork.refl s).write _
    have left := (event_asLeft (f := lampExpiry) running).1
    exact ⟨_, rfl, left.sameBut work.sameBut, left.raises work.raises, left.gtc⟩

/-! ## Keys (R168) -/

/-- A terminal takes its keys: it is not locked out, and terminal 7 has no offer pending (R169, R182). -/
structure TakesKeys (n : Nat) (s : State) : Prop where
  unlocked : (s.terminal n).lockoutSince = none
  unoffered : n = 7 → s.gtc.fuel.offer = none

section
variable {n : Nat} {s : State}

theorem keyEvent_locked_written (locked : (s.terminal n).lockoutSince.isSome = true) (key : Nat) :
    TerminalWritten n (s.terminal n) s.gtc.fuel [] s (keyEvent n key s) := by
  have discarded : keyEvent n key s = forgetKey n key s := if_pos locked
  rw [discarded]
  exact (TerminalWritten.refl n s).forgetKey key

theorem keyEvent_open (takes : TakesKeys n s) (key : Nat) :
    keyEvent n key s =
      if key < 10 then takeDigit n key (forgetKey n key s)
      else if key = 10 then clearBuffer n (dropCard n (forgetKey n key s))
      else submit n (forgetKey n key s) := by
  have unlocked : ¬((forgetKey n key s).terminal n).lockoutSince.isSome = true := by
    show ¬(s.terminal n).lockoutSince.isSome = true
    rw [takes.unlocked]
    decide
  have unoffered : ¬(n = 7 ∧ (forgetKey n key s).gtc.fuel.offer.isSome = true) := by
    rintro ⟨dock, offered⟩
    have offered : s.gtc.fuel.offer.isSome = true := offered
    rw [takes.unoffered dock] at offered
    exact absurd offered (by decide)
  rw [keyEvent, takeKey, if_neg unlocked, if_neg unoffered]

theorem keyEvent_digit_written (takes : TakesKeys n s) {d : Nat} (digit : d < 10) :
    TerminalWritten n
      { s.terminal n with
        buffer := if (s.terminal n).buffer.length < 8 then (s.terminal n).buffer ++ [d] else (s.terminal n).buffer,
        keySince := some s.uptime } s.gtc.fuel [] s (keyEvent n d s) := by
  rw [keyEvent_open takes, if_pos digit]
  exact ((TerminalWritten.refl n s).forgetKey d).setTerminal _

theorem keyEvent_star_written (takes : TakesKeys n s) :
    TerminalWritten n { s.terminal n with buffer := [], keySince := none, card := none } (windowShut n s.gtc.fuel) [] s
      (keyEvent n 10 s) := by
  rw [keyEvent_open takes, if_neg (by decide), if_pos rfl]
  exact ((TerminalWritten.refl n s).forgetKey 10).dropCard.clearBuffer

/-- The part as a submission is judged: the key is taken, and the buffer is emptied (R168). -/
def submitted (n : Nat) (s : State) : State := clearBuffer n (forgetKey n 11 s)

theorem submitted_written (n : Nat) (s : State) :
    TerminalWritten n { s.terminal n with buffer := [], keySince := none } s.gtc.fuel [] s (submitted n s) :=
  ((TerminalWritten.refl n s).forgetKey 11).clearBuffer

theorem keyEvent_hash (takes : TakesKeys n s) (entered : (s.terminal n).buffer ≠ []) :
    keyEvent n 11 s =
      if n = 7 then submitAtDock (s.terminal n).buffer (submitted n s)
      else submitAtGate n (s.terminal n).buffer (submitted n s) := by
  rw [keyEvent_open takes, if_neg (by decide), if_neg (by decide)]
  exact if_neg entered

theorem keyEvent_hash_gate (takes : TakesKeys n s) (entered : (s.terminal n).buffer ≠ []) (gate : n ≠ 7) :
    keyEvent n 11 s = submitAtGate n (s.terminal n).buffer (submitted n s) := by
  rw [keyEvent_hash takes entered, if_neg gate]

/-- A gate's terminal takes its keys while it is not locked out. -/
theorem takesKeys_of_gate (gate : n ≠ 7) (unlocked : (s.terminal n).lockoutSince = none) : TakesKeys n s :=
  ⟨unlocked, fun dock => absurd dock gate⟩

end

/-! ## Submissions at a gate (R171) -/

section
variable {g : Nat} {pin : List Nat} {s : State}

theorem submitAtGate_unknown (none : (s.terminal g).card = none) (unheld : s.credByPin pin = .none) :
    submitAtGate g pin s = refuseSubmission g .keypad .none s := by
  rw [submitAtGate, none]
  dsimp only
  rw [unheld]

theorem submitAtGate_known {n : Nat} (none : (s.terminal g).card = none) (held : s.credByPin pin = some n) :
    submitAtGate g pin s = present g n .keypad (clearFailures g s) := by
  rw [submitAtGate, none]
  dsimp only
  rw [held]

theorem submitAtGate_pending {c : PendingCard} (pending : (s.terminal g).card = some c) :
    submitAtGate g pin s =
      if (s.cred c.cred).pin = some pin then present g c.cred .entry (clearFailures g (dropCard g s))
      else refuseSubmission g .entry (some c.cred) (dropCard g s) := by
  have same : (dropCard g s).cred c.cred = s.cred c.cred := (TerminalWritten.refl g s).dropCard.cred _
  rw [submitAtGate, pending]
  dsimp only
  rw [same]

/-- R171: a PIN alone that no credential holds is a failed submission. -/
theorem keyEvent_unknownPin_written (gate : g ≠ 7) (unlocked : (s.terminal g).lockoutSince = none)
    (alone : (s.terminal g).card = none) (entered : (s.terminal g).buffer ≠ [])
    (unheld : s.credByPin (s.terminal g).buffer = none) :
    TerminalWritten g (failedTerminal s.uptime { s.terminal g with buffer := [], keySince := none })
      (if (s.terminal g).failures + 1 < 5 then s.gtc.fuel else windowShut g s.gtc.fuel)
      [.gateRefused g .keypad none .unknown (decide (5 ≤ (s.terminal g).failures + 1))] s (keyEvent g 11 s) := by
  have before := submitted_written g s
  rw [keyEvent_hash_gate (takesKeys_of_gate gate unlocked) entered gate,
    submitAtGate_unknown (by rw [before.own]; exact alone) (by rw [before.credByPin]; exact unheld)]
  exact before.refuseSubmission .keypad none

end

/-! ## The scanner (R167) -/

/-- The count of equal scans after a full scan (log entry 52). -/
def scansAfter (k : Terminal) (r : KeyReading) : Nat := if r = k.reading then min (k.equalScans + 1) 3 else 1

/-- The scanner after a full scan, and its key event: a reading moves it from its third equal scan on. -/
def scannerAfter (k : Terminal) (r : KeyReading) : Scanner × Option Nat :=
  if 3 ≤ scansAfter k r then scannerMove k.scanner r else (k.scanner, none)

section
variable (n : Nat) (r : KeyReading) (s : State)

theorem fullScan_eq :
    fullScan n r s =
      { s.setTerminal n
          { s.terminal n with
            reading := r, equalScans := scansAfter (s.terminal n) r, scanner := (scannerAfter (s.terminal n) r).1 } with
        gtc :=
          { (s.setTerminal n
              { s.terminal n with
                reading := r, equalScans := scansAfter (s.terminal n) r,
                scanner := (scannerAfter (s.terminal n) r).1 }).gtc with
            keyEvents :=
              s.gtc.keyEvents ++ (scannerAfter (s.terminal n) r).2.toList.map fun key => (n, key) } } := by
  show (match (scannerAfter (s.terminal n) r).2 with | some k => _ | none => _) = _
  cases (scannerAfter (s.terminal n) r).2 with
  | none => simp only [Option.toList_none, List.map_nil, List.append_nil]; rfl
  | some key => rfl

theorem fullScan_written :
    TerminalWritten n
      { s.terminal n with
        reading := r, equalScans := scansAfter (s.terminal n) r, scanner := (scannerAfter (s.terminal n) r).1 }
      s.gtc.fuel [] s (fullScan n r s) := by
  rw [fullScan_eq]
  exact ((TerminalWritten.refl n s).setTerminal _).setKeyEvents _

end

/-- A full scan leaves the terminal with its count and the scanner moved, and the key event behind those that wait. -/
theorem fullScan_event {n count : Nat} {r : KeyReading} {s : State} {next : Scanner} {key : Option Nat}
    (running : s.running = true) (counted : scansAfter (s.terminal n) r = count)
    (moved : scannerAfter (s.terminal n) r = (next, key)) :
    (event (fullScan n r) s).terminal n =
        { s.terminal n with reading := r, equalScans := count, scanner := next } ∧
      (event (fullScan n r) s).gtc.keyEvents = s.gtc.keyEvents ++ key.toList.map fun key => (n, key) := by
  have events : (event (fullScan n r) s).gtc.keyEvents = (fullScan n r s).gtc.keyEvents :=
    congrArg Gtc.keyEvents (event_asLeft running).1.gtc
  rw [((fullScan_written n r s).event running).own, events, fullScan_eq, counted, moved]
  exact ⟨rfl, rfl⟩

section
variable {k : Terminal} {r : KeyReading}

theorem scansAfter_other (other : r ≠ k.reading) : scansAfter k r = 1 := if_neg other

theorem scansAfter_third (same : r = k.reading) (twice : 2 ≤ k.equalScans) : scansAfter k r = 3 := by
  rw [scansAfter, if_pos same]
  omega

theorem scansAfter_second (same : r = k.reading) (once : k.equalScans < 2) : scansAfter k r = k.equalScans + 1 := by
  rw [scansAfter, if_pos same]
  omega

theorem scannerAfter_third (same : r = k.reading) (twice : 2 ≤ k.equalScans) :
    scannerAfter k r = scannerMove k.scanner r := by
  rw [scannerAfter, scansAfter_third same twice, if_pos (le_refl 3)]

theorem scannerAfter_early (early : scansAfter k r < 3) : scannerAfter k r = (k.scanner, none) := if_neg (not_le.2 early)

end

/-- R167's table for no key down: the scanner is IDLE, from every state. -/
theorem scannerMove_none (k : Scanner) : scannerMove k .none = (.idle, none) := by cases k <;> rfl

/-- R167's table for more than one key down: the scanner is MULTI, from every state. -/
theorem scannerMove_multi (k : Scanner) : scannerMove k .multi = (.multi, none) := by cases k <;> rfl

/-- Settles O55: keys, failed submissions and full scans each write their terminal alone, the scans with the key events. -/
theorem keypadTakesItsKeys : Obligations.KeypadTakesItsKeys := by
  unfold Obligations.KeypadTakesItsKeys
  intro n s low high running k lone
  have alone {x : Terminal} {dock : FuelTerminal} {l : List NoticeBody} {t : State}
      (left : TerminalLeft n x dock l s t) : lone t := ⟨left.sameBut, left.others, left.gates, left.creds⟩
  refine ⟨fun unlocked unoffered => ?_, fun locked key _ => ?_, fun reading => ?_⟩
  · have takes : TakesKeys n s := ⟨unlocked, unoffered⟩
    refine ⟨fun d digit => ?_, ?_, fun gate nocard entered unheld => ?_⟩
    · have left := (keyEvent_digit_written takes digit).event running
      exact ⟨_, rfl, alone left, left.raises, left.own⟩
    · have left := (keyEvent_star_written takes).event running
      refine ⟨_, rfl, alone left, left.raises, left.own, fun dock => ?_⟩
      rw [left.fuel, windowShut, if_pos dock]
    · have left := (keyEvent_unknownPin_written (by omega) unlocked nocard entered unheld).event running
      refine ⟨_, rfl, alone left, left.raises, left.own.trans ?_⟩
      rw [failedTerminal, ← nocard]
  · have left := (keyEvent_locked_written locked key).event running
    exact ⟨_, rfl, alone left, left.raises, left.own⟩
  · have left := (fullScan_written n reading s).event running
    refine ⟨_, rfl, alone left, left.raises, ?_⟩
    intro moves
    refine ⟨fun other => ?_, fun same once => ?_, fun same twice => ?_⟩
    · have count : scansAfter k reading = 1 := scansAfter_other other
      obtain ⟨own, events⟩ := fullScan_event running count (scannerAfter_early (count.trans_lt (by decide)))
      exact ⟨own, events.trans (List.append_nil _)⟩
    · have count : scansAfter k reading = k.equalScans + 1 := scansAfter_second same once
      obtain ⟨own, events⟩ := fullScan_event running count (scannerAfter_early (count.trans_lt (Nat.succ_lt_succ once)))
      exact ⟨own.trans (by rw [same]), events.trans (List.append_nil _)⟩
    · have moved {next : Scanner} (key : Option Nat) (move : scannerMove k.scanner reading = (next, key)) :
          moves next key.toList := by
        obtain ⟨own, events⟩ := fullScan_event running (scansAfter_third same twice)
          ((scannerAfter_third same twice).trans move)
        exact ⟨own.trans (by rw [same]), events⟩
      refine ⟨fun key one => ?_, fun released => ?_, fun several => ?_⟩
      · rw [one] at moved
        refine ⟨fun idle => moved (some key) (by rw [idle]; rfl), fun j held => ?_,
          fun silent => moved none (by rw [silent]; rfl)⟩
        rw [held] at moved
        by_cases again : key = j
        · rw [if_pos again]
          refine moved none ?_
          rw [← again]
          exact if_pos rfl
        · rw [if_neg again]
          exact moved (some key) (if_neg fun back => again back.symm)
      · exact moved none (by rw [released, scannerMove_none])
      · exact moved none (by rw [several, scannerMove_multi])

end Sys2Proof.Machine
end

section
/-! SUPPORT. The checks of a presentation (R172 to R174, R181) as lists of which the first that fails refuses. -/

namespace Sys2Proof.Machine

theorem firstFailed_cons {α : Type} (bad : Bool) (code : α) (rest : List (Bool × α)) :
    firstFailed ((bad, code) :: rest) = if bad = true then some code else firstFailed rest := by
  cases bad <;> rfl

theorem firstFailed_append {α : Type} (first rest : List (Bool × α)) :
    firstFailed (first ++ rest) = (firstFailed first).or (firstFailed rest) := by
  induction first with
  | nil => rfl
  | cons check more ih =>
    obtain ⟨bad, code⟩ := check
    rw [List.cons_append, firstFailed_cons, firstFailed_cons, ih]
    split <;> rfl

section
variable (s : State) (c : Cred)

/-- R173: a moment is past the end of a window when it is not before it. -/
theorem not_stampBefore (a b : Stamp) : (!stampBefore a b) = decide (b.day < a.day ∨ b.day = a.day ∧ b.sec ≤ a.sec) := by
  rw [Bool.eq_iff_iff]
  simp only [stampBefore, Bool.not_eq_true', Bool.or_eq_false_iff, Bool.and_eq_false_iff, decide_eq_false_iff_not,
    decide_eq_true_eq]
  omega

theorem stampBefore_eq (a b : Stamp) : stampBefore a b = decide (a.day < b.day ∨ a.day = b.day ∧ a.sec < b.sec) := by
  simp [stampBefore]

theorem windowRefusal_eq : s.windowRefusal c = firstFailed (windowChecks s c) := by
  have begins : (c.validFrom.map fun t => stampBefore s.now t).getD false =
      c.validFrom.any fun t => decide (s.clk.day < t.day ∨ s.clk.day = t.day ∧ s.clk.sec < t.sec) := by
    cases c.validFrom with
    | none => rfl
    | some t => exact stampBefore_eq ..
  have ends : (c.validUntil.map fun t => !stampBefore s.now t).getD false =
      c.validUntil.any fun t => decide (t.day < s.clk.day ∨ t.day = s.clk.day ∧ t.sec ≤ s.clk.sec) := by
    cases c.validUntil with
    | none => rfl
    | some t => exact not_stampBefore ..
  unfold State.windowRefusal windowChecks
  rw [firstFailed_cons, firstFailed_cons, firstFailed_cons, begins, ends]
  by_cases unbounded : c.validFrom = none ∧ c.validUntil = none
  · obtain ⟨unstarted, unended⟩ := unbounded
    simp [unstarted, unended, firstFailed]
  · have bounded : c.validFrom ≠ none ∨ c.validUntil ≠ none := Decidable.not_and_iff_not_or_not.1 unbounded
    rw [if_neg (by simpa only [Option.isNone_iff_eq_none] using unbounded), decide_eq_true bounded, Bool.true_and]
    rfl

/-- R173. -/
theorem validityRefusal_of_booking {b : Nat} (booked : c.booking = some b) :
    s.validityRefusal c = firstFailed (bookingChecks s (s.booking b)) := by
  unfold State.validityRefusal bookingChecks
  rw [booked]
  dsimp only
  cases (s.booking b).state with
  | confirmed => simp only [firstFailed_cons, decide_true, Bool.true_and, true_and, decide_eq_true_eq]; rfl
  | _ => rfl

/-- R173 for a credential with a booking, and for one without. -/
def validityChecks : List (Bool × GateRefusal) :=
  match c.booking with
  | some b => bookingChecks s (s.booking b)
  | none => windowChecks s c

theorem validityRefusal_eq : s.validityRefusal c = firstFailed (validityChecks s c) := by
  unfold validityChecks
  cases booked : c.booking with
  | some b => exact validityRefusal_of_booking s c booked
  | none =>
    unfold State.validityRefusal
    rw [booked]
    exact windowRefusal_eq s c

theorem onHold_eq : s.onHold c = heldAccount s c := by
  unfold State.onHold State.credAccount heldAccount
  cases c.booking with
  | some b => rfl
  | none => cases c.account <;> rfl

theorem gateAllowed_eq (g : Nat) :
    s.gateAllowed g c =
      (c.gateSet.testBit (g - 1) ||
        (c.berthGates && (c.booking.bind fun b => (s.booking b).berth).any fun berth =>
          decide ((s.gateCfg g).pontoon = (s.berth berth).pontoon))) := by
  unfold State.gateAllowed
  cases c.booking.bind fun b => (s.booking b).berth <;> rfl

theorem entryChecks_eq (g : Nat) :
    entryChecks s g c =
      (decide ((s.gate g).door ≠ .secure), .busy) :: (decide ((s.gateCfg g).mode = .lockdown), .lockdown) ::
        (decide (c.state = .suspended), .suspended) :: (validityChecks s c ++
      [(!s.gateAllowed g c, .gate),
       (s.onHold c, .held),
       (decide ((s.gateCfg g).antiPassback = .hard ∧ c.location = .pontoon), .passback)]) := by
  rw [gateAllowed_eq, onHold_eq]
  rfl

/-- R172: the refusal of a presentation at a gate is that of its first check that fails. -/
theorem entryRefusal_eq (g : Nat) : s.entryRefusal g c = firstFailed (entryChecks s g c) := by
  simp only [entryChecks_eq, firstFailed_cons, firstFailed_append, ← validityRefusal_eq, decide_eq_true_eq]
  unfold State.entryRefusal
  cases s.validityRefusal c <;> rfl

/-- R181: the refusal of a card at the dock is that of its first check that fails. -/
theorem dockRefusal_eq : s.dockRefusal c = firstFailed (dockChecks s c) := by
  have window : (if c.booking.isNone = true then s.windowRefusal c else none) =
      firstFailed (if c.booking = none then windowChecks s c else []) := by
    cases c.booking with
    | some b => rfl
    | none => exact windowRefusal_eq s c
  have account : (s.credAccount c).isNone = decide (c.booking = none ∧ c.account = none) := by
    unfold State.credAccount
    cases c.booking with
    | some b => rfl
    | none => cases c.account <;> rfl
  have checks : dockChecks s c =
      (decide (c.state = .suspended), .suspended) :: (!c.fuel || (s.credAccount c).isNone, .gate) ::
        ((if c.booking = none then windowChecks s c else []) ++ [(s.onHold c, .held)]) := by
    rw [account, onHold_eq]
    rfl
  simp only [checks, firstFailed_cons, firstFailed_append, ← window, Bool.or_eq_true, Bool.not_eq_true', decide_eq_true_eq]
  unfold State.dockRefusal
  cases (if c.booking.isNone = true then s.windowRefusal c else none) <;> rfl

end

end Sys2Proof.Machine
end

section
/-! SUPPORT. The fuel dock's terminal (R181, R182; O56): what a card and a submission write of it. -/

namespace Sys2Proof.Machine

/-! ## Cards at the dock (R181) -/

/-- R181: a refusal at the dock lights the lamp RED with its notice. -/
theorem TerminalWritten.refuseDock {k : Terminal} {dock : FuelTerminal} {l : List NoticeBody} {s t : State}
    (h : TerminalWritten 7 k dock l s t) (c : Option Nat) (reason : GateRefusal) :
    TerminalWritten 7 k { dock with lamp := .red s.uptime } (l ++ [.gateRefused 7 .entry c reason false]) s
      (refuseDock c reason t) := (h.raise _).lampRed

section
variable {token : Nat} {s : State}

theorem cardRead_dock (exitReader : Bool) : cardRead 7 exitReader token s = dockRead token (clearBuffer 7 s) := if_pos rfl

theorem dockRead_busy (busy : (s.terminal 7).lockoutSince.isSome = true ∨ s.gtc.fuel.offer.isSome = true) :
    dockRead token s = refuseDock (s.credByToken token) .busy s := if_pos busy

/-- A card at the dock is judged with the buffer emptied and the open window ended (R170, R181). -/
theorem dockCleared_written (s : State) :
    TerminalWritten 7 { s.terminal 7 with buffer := [], keySince := none, card := none }
      { s.gtc.fuel with window := .none } [] s (dropCard 7 (clearBuffer 7 s)) :=
  (TerminalWritten.refl 7 s).clearBuffer.dropCard

theorem cardRead_dock_busy_written
    (busy : (s.terminal 7).lockoutSince.isSome = true ∨ s.gtc.fuel.offer.isSome = true) :
    TerminalWritten 7 { s.terminal 7 with buffer := [], keySince := none } { s.gtc.fuel with lamp := .red s.uptime }
      [.gateRefused 7 .entry (s.credByToken token) .busy false] s (cardRead 7 false token s) := by
  have before := (TerminalWritten.refl 7 s).clearBuffer
  rw [cardRead_dock, dockRead_busy (by rw [before.own, before.fuel]; exact busy), before.credByToken]
  exact before.refuseDock _ _

variable (unlocked : (s.terminal 7).lockoutSince = none) (unoffered : s.gtc.fuel.offer = none)
include unlocked unoffered

theorem dock_free : ¬(((clearBuffer 7 s).terminal 7).lockoutSince.isSome = true ∨
    (clearBuffer 7 s).gtc.fuel.offer.isSome = true) := by
  have before := (TerminalWritten.refl 7 s).clearBuffer
  rw [before.own, before.fuel]
  dsimp only
  rw [unlocked, unoffered]
  decide

theorem cardRead_dock_unknown_written (unheld : s.credByToken token = none) :
    TerminalWritten 7 { s.terminal 7 with buffer := [], keySince := none, card := none }
      { s.gtc.fuel with window := .none, lamp := .red s.uptime } [.gateRefused 7 .entry none .unknown false] s
      (cardRead 7 false token s) := by
  have before := dockCleared_written s
  rw [cardRead_dock, dockRead, if_neg (dock_free unlocked unoffered)]
  dsimp only
  rw [before.credByToken, unheld]
  exact before.refuseDock none .unknown

theorem cardRead_dock_refused_written {n : Nat} {reason : GateRefusal} (held : s.credByToken token = some n)
    (refused : s.dockRefusal (s.cred n) = some reason) :
    TerminalWritten 7 { s.terminal 7 with buffer := [], keySince := none, card := none }
      { s.gtc.fuel with window := .none, lamp := .red s.uptime } [.gateRefused 7 .entry (some n) reason false] s
      (cardRead 7 false token s) := by
  have before := dockCleared_written s
  rw [cardRead_dock, dockRead, if_neg (dock_free unlocked unoffered)]
  dsimp only
  rw [before.credByToken, held]
  dsimp only
  rw [before.cred, before.dockRefusal, refused]
  exact before.refuseDock (some n) reason

theorem cardRead_dock_taken_written {n : Nat} (held : s.credByToken token = some n)
    (passes : s.dockRefusal (s.cred n) = none) :
    TerminalWritten 7 { s.terminal 7 with buffer := [], keySince := none, card := some ⟨n, s.uptime⟩ }
      { s.gtc.fuel with window := if (s.cred n).kind = .card then .hose else .pin } [] s (cardRead 7 false token s) := by
  have before := dockCleared_written s
  have holding := before.holdCard n
  rw [cardRead_dock, dockRead, if_neg (dock_free unlocked unoffered)]
  dsimp only
  rw [before.credByToken, held]
  dsimp only
  rw [before.cred, before.dockRefusal, passes, holding.fuel]
  exact holding.setFuel _

end

/-! ## Submissions at the dock (R182) -/

section
variable {c : PendingCard} {digits : List Nat} {s : State}

theorem submitAtDock_unopened (shut : s.gtc.fuel.window = .none) : submitAtDock digits s = s := by
  rw [submitAtDock, shut]

theorem submitAtDock_pin (opened : s.gtc.fuel.window = .pin) (pending : (s.terminal 7).card = some c) :
    submitAtDock digits s = submitPin c digits s := by
  rw [submitAtDock, opened, pending]

theorem submitAtDock_hose {hose : Nat} (opened : s.gtc.fuel.window = .hose) (pending : (s.terminal 7).card = some c)
    (named : hoseOf digits = some hose) : submitAtDock digits s = makeOffer c hose s := by
  rw [submitAtDock, opened, pending]
  dsimp only
  rw [named]

theorem submitAtDock_unnamed (opened : s.gtc.fuel.window = .hose) (unnamed : hoseOf digits = none) :
    submitAtDock digits s = s := by
  rw [submitAtDock, opened]
  cases (s.terminal 7).card with
  | none => rfl
  | some c =>
    dsimp only
    rw [unnamed]

theorem hoseOf_digit {d : Nat} (low : 1 ≤ d) (high : d ≤ 4) : hoseOf [d] = some d := if_pos (within_true low high)

theorem hoseOf_other (other : ∀ d, digits = [d] → d < 1 ∨ 4 < d) : hoseOf digits = none := by
  unfold hoseOf
  split
  · next d =>
    refine if_neg fun inside => ?_
    have := within_iff.1 inside
    have := other d rfl
    omega
  · rfl

end

section
variable {k : Terminal} {dock : FuelTerminal} {s t : State} (h : TerminalWritten 7 k dock [] s t) (c : PendingCard)
include h

theorem TerminalWritten.submitPin_right {pin : List Nat} (right : (s.cred c.cred).pin = some pin) :
    TerminalWritten 7 { k with failures := 0, card := some ⟨c.cred, s.uptime⟩ } { dock with window := .hose } [] s
      (submitPin c pin t) := by
  have cleared := h.clearFailures
  rw [submitPin, h.cred, if_pos right]
  dsimp only
  rw [cleared.own, cleared.work.uptime]
  exact h.fuel ▸ (cleared.setTerminal _).setFuel _

theorem TerminalWritten.submitPin_wrong {pin : List Nat} (wrong : (s.cred c.cred).pin ≠ some pin) :
    TerminalWritten 7 (failedTerminal s.uptime { k with card := none })
      { dock with window := .none, lamp := .red s.uptime }
      [.gateRefused 7 .entry (some c.cred) .unknown (decide (5 ≤ k.failures + 1))] s (submitPin c pin t) := by
  have refused := (h.dropCard.refuseSubmission .entry (some c.cred)).lampRed
  rw [submitPin, h.cred, if_neg wrong]
  exact { refused with fuel := by rw [refused.fuel]; split <;> rfl }

theorem TerminalWritten.makeOffer (hose : Nat) :
    TerminalWritten 7 { k with card := none }
      { dock with window := .none, offer := some ⟨c.cred, hose, s.credAccount (s.cred c.cred)⟩ } [] s
      (makeOffer c hose t) := by
  have dropped := h.dropCard
  unfold Machine.makeOffer
  dsimp only
  rw [h.cred, h.credAccount, dropped.fuel]
  exact dropped.setFuel _

end

section
variable {s : State}

theorem takesKeys_of_dock (unlocked : (s.terminal 7).lockoutSince = none) (unoffered : s.gtc.fuel.offer = none) :
    TakesKeys 7 s := ⟨unlocked, fun _ => unoffered⟩

theorem keyEvent_hash_dock (takes : TakesKeys 7 s) (entered : (s.terminal 7).buffer ≠ []) :
    keyEvent 7 11 s = submitAtDock (s.terminal 7).buffer (submitted 7 s) := by
  rw [keyEvent_hash takes entered, if_pos rfl]

end

/-- Settles O56: a card and a submission at the dock each write terminal 7 alone, as its window and the checks say. -/
theorem dockTerminalOpensItsWindows : Obligations.DockTerminalOpensItsWindows := by
  unfold Obligations.DockTerminalOpensItsWindows
  refine ⟨fun c s => dockRefusal_eq s c, fun token s running busy => ?_,
    fun s running unlocked unoffered => ⟨fun token unheld => ?_, fun shut entered => ?_, fun token n held => ?_,
      fun c pending entered => ?_⟩⟩
  · have left := (cardRead_dock_busy_written (token := token) busy).event running
    exact ⟨_, rfl, left.sameBut, left.creds, left.own, left.fuel, left.raises⟩
  · have left := (cardRead_dock_unknown_written unlocked unoffered unheld).event running
    exact ⟨_, rfl, left.sameBut, left.creds, left.own, left.fuel, left.raises⟩
  · have before := submitted_written 7 s
    have hash := keyEvent_hash_dock (takesKeys_of_dock unlocked unoffered) entered
    rw [submitAtDock_unopened (by rw [before.fuel]; exact shut)] at hash
    have left := (hash ▸ before).event running
    exact ⟨_, rfl, left.sameBut, left.creds, left.own, left.fuel, left.raises⟩
  · cases refusal : s.dockRefusal (s.cred n) with
    | none =>
      have left := (cardRead_dock_taken_written unlocked unoffered held refusal).event running
      exact ⟨_, rfl, left.sameBut, by rw [left.own], left.creds, fun _ => ⟨by rw [left.own], left.fuel, left.raises⟩,
        nofun⟩
    | some reason =>
      have left := (cardRead_dock_refused_written unlocked unoffered held refusal).event running
      refine ⟨_, rfl, left.sameBut, by rw [left.own], left.creds, nofun, fun _ same => ?_⟩
      cases same
      exact ⟨by rw [left.own], left.fuel, left.raises⟩
  · have before := submitted_written 7 s
    have hash := keyEvent_hash_dock (takesKeys_of_dock unlocked unoffered) entered
    have holding : ((submitted 7 s).terminal 7).card = some c := by rw [before.own]; exact pending
    have opened : (submitted 7 s).gtc.fuel.window = s.gtc.fuel.window := by rw [before.fuel]
    cases window : s.gtc.fuel.window with
    | none =>
      rw [submitAtDock_unopened (opened.trans window)] at hash
      have left := (hash ▸ before).event running
      exact ⟨_, rfl, left.sameBut, by rw [left.own], left.creds, nofun, nofun, nofun, nofun⟩
    | pin =>
      rw [submitAtDock_pin (opened.trans window) holding] at hash
      by_cases right : (s.cred c.cred).pin = some (s.terminal 7).buffer
      · have left := (hash ▸ before.submitPin_right c right).event running
        exact ⟨_, rfl, left.sameBut, by rw [left.own], left.creds,
          fun _ _ => ⟨by rw [left.own], by rw [left.own], left.fuel, left.raises⟩,
          fun _ wrong => absurd right wrong, nofun, nofun⟩
      · have left := (hash ▸ before.submitPin_wrong c right).event running
        refine ⟨_, rfl, left.sameBut, ?_, left.creds, fun _ same => absurd same right,
          fun _ _ => ⟨left.own, left.fuel, left.raises⟩, nofun, nofun⟩
        rw [left.own, failedTerminal]
        split <;> rfl
    | hose =>
      cases digit : hoseOf (s.terminal 7).buffer with
      | some hose =>
        rw [submitAtDock_hose (opened.trans window) holding digit] at hash
        have left := (hash ▸ before.makeOffer c hose).event running
        refine ⟨_, rfl, left.sameBut, by rw [left.own], left.creds, nofun, nofun, fun d _ single low high => ?_,
          fun _ other => ?_⟩
        · rw [single, hoseOf_digit low high] at digit
          cases digit
          exact ⟨by rw [left.own], left.fuel, left.raises⟩
        · rw [hoseOf_other other] at digit
          cases digit
      | none =>
        rw [submitAtDock_unnamed (opened.trans window) digit] at hash
        have left := (hash ▸ before).event running
        refine ⟨_, rfl, left.sameBut, by rw [left.own], left.creds, nofun, nofun, fun d _ single low high => ?_,
          fun _ _ => ⟨by rw [left.own]; exact pending, left.fuel, left.raises⟩⟩
        rw [single, hoseOf_digit low high] at digit
        cases digit

end Sys2Proof.Machine
end

section
/-! SUPPORT. The doors: a change of mode (R164; O51), and the contact and the two timers (R176, R177, R179; O53). -/

namespace Sys2Proof.Machine

/-- What an event or a request leaves of a gate's write. -/
structure GateLeft (g : Nat) (k : Gate) (l : List NoticeBody) (s t : State) : Prop where
  sameBut : SameBut [.gates] s t
  raises : Raises l s t
  creds : t.gtc.creds = s.gtc.creds
  terminals : t.gtc.terminals = s.gtc.terminals
  gateCfg : ∀ j, t.gateCfg j = s.gateCfg j
  own : t.gate g = k
  others : ∀ j, j ≠ g → t.gate j = s.gate j

theorem GateWritten.asLeft {g : Nat} {k : Gate} {l : List NoticeBody} {s t u : State} (h : GateWritten g k l s u)
    (left : AsLeft u t) : GateLeft g k l s t where
  sameBut := left.sameBut h.work.sameBut
  raises := left.raises h.work.raises
  creds := by rw [left.gtc, h.rest]
  terminals := by rw [left.gtc, h.rest]
  gateCfg j := by rw [State.gateCfg, left.gtc, h.rest]; rfl
  own := (left.gate g).trans h.own
  others j other := (left.gate j).trans (h.others j other)

/-- R163: the relay of a running part is driven in OPEN_HOLD and while the door is RELEASED. -/
theorem relayOut_of_gate {g : Nat} {s t : State} (running : s.running = true) (sup : t.sup = s.sup)
    (cfg : t.gateCfg g = s.gateCfg g) :
    t.relayOut g = (decide ((s.gateCfg g).mode = .openHold) || decide ((t.gate g).door = .released)) := by
  have running : t.running = true := by rw [State.running, sup]; exact running
  rw [State.relayOut, running, Bool.true_and, State.relay, cfg]

/-! ## A change of mode (R164) -/

/-- The notices of an alarm that ends (R164, R176). -/
def alarmCleared (g : Nat) (door : DoorState) : List NoticeBody :=
  if door = .heldAlarm ∨ door = .forcedAlarm then [.gateCleared g door] else []

section
variable {g : Nat} {old new : GateMode} {s : State}

theorem changeMode_kept (kept : old = new ∨ (old ≠ .openHold ∧ new ≠ .openHold)) : changeMode g old new s = s := by
  unfold changeMode
  rcases kept with same | ⟨closed, closes⟩
  · exact if_pos same
  · dsimp only
    rw [if_neg closes, if_neg closed, ite_self]

theorem changeMode_toOpen_written (closed : old ≠ .openHold) :
    GateWritten g (settledGate (if (s.gate g).contactOpen then .opened else .secure) (s.gate g).contactOpen)
      (alarmCleared g (s.gate g).door) s (changeMode g old .openHold s) := by
  have settled := (GateWritten.refl g s).settleDoor (if (s.gate g).contactOpen then .opened else .secure)
  unfold changeMode alarmCleared
  dsimp only
  rw [if_neg closed, if_pos rfl]
  cases (s.gate g).door with
  | heldAlarm => exact settled.raise _
  | forcedAlarm => exact settled.raise _
  | secure => exact settled
  | released => exact settled
  | opened => exact settled

theorem changeMode_fromOpen_written (closes : new ≠ .openHold) :
    GateWritten g
      { settledGate (if (s.gate g).contactOpen then .opened else .secure) (s.gate g).contactOpen with
        heldTimer := if (s.gate g).contactOpen then some ⟨s.uptime, (s.gateCfg g).heldTime⟩ else none } [] s
      (changeMode g .openHold new s) := by
  unfold changeMode
  dsimp only
  rw [if_neg closes.symm, if_neg closes, if_pos rfl]
  cases isOpen : (s.gate g).contactOpen with
  | false =>
    have settled := (GateWritten.refl g s).settleDoor .secure
    rw [isOpen] at settled
    exact settled
  | true =>
    have settled := (GateWritten.refl g s).settleDoor .opened
    rw [isOpen] at settled
    rw [if_pos rfl, settled.own]
    exact settled.setGate _

end

/-- The part with a gate's mode written (R164). -/
def modeWritten (g : Nat) (mode : GateMode) (s : State) : State := s.setGateCfg g { s.gateCfg g with mode }

theorem gateMode_accepted {g code : Nat} {mode : GateMode} {s : State} (low : 1 ≤ g) (high : g ≤ 6)
    (decoded : valueOf gateModes code = some mode) :
    gateMode g code s =
      (changeMode g (s.gateCfg g).mode mode (modeWritten g mode s),
        ⟨.ok, 0, [⟨0x11, [enumField doorStates
          ((changeMode g (s.gateCfg g).mode mode (modeWritten g mode s)).gate g).door]⟩]⟩) := by
  rw [gateMode, decoded]
  dsimp only
  rw [if_pos (within_true low high)]
  rfl

/-- Settles O51: the mode is written, and each kind of change is one write of the gate. -/
theorem gateModeMovesTheDoor : Obligations.GateModeMovesTheDoor := by
  unfold Obligations.GateModeMovesTheDoor
  intro tag g code mode s takes low high decoded old k
  have answer := gateMode_accepted (s := s) low high decoded
  obtain ⟨t, replies, left⟩ := request_answers (tag := tag) (i := .gateMode tag g code) rfl rfl takes answer
  rw [← left.gate g] at replies
  have cfg (j : Nat) : (modeWritten g mode s).gateCfg j = if j = g then { s.gateCfg g with mode } else s.gateCfg j :=
    State.gateCfg_setGateCfg ..
  have frame {x : Gate} {l : List NoticeBody} (w : GateLeft g x l (modeWritten g mode s) t) : SameBut [.gates] s t :=
    ((SameBut.refl _ s).setGateCfg (by decide) g { s.gateCfg g with mode }).trans w.sameBut
  by_cases kept : old = mode ∨ (old ≠ .openHold ∧ mode ≠ .openHold)
  · rw [changeMode_kept kept] at left
    have w := (GateWritten.refl g _).asLeft left
    refine ⟨t, replies, frame w, fun j => (w.gateCfg j).trans (cfg j), w.others, w.creds, w.terminals,
      fun _ => ⟨w.own, w.raises⟩, fun closed opens => absurd kept ?_, fun held closes => absurd kept ?_⟩
    · exact not_or.2 ⟨fun same => closed (same.trans opens), fun both => both.2 opens⟩
    · exact not_or.2 ⟨fun same => closes (same.symm.trans held), fun both => both.1 held⟩
  · by_cases opens : mode = .openHold
    · have closed : old ≠ .openHold := fun held => kept (.inl (held.trans opens.symm))
      subst opens
      have w := (changeMode_toOpen_written closed).asLeft left
      exact ⟨t, replies, frame w, fun j => (w.gateCfg j).trans (cfg j), w.others, w.creds, w.terminals,
        fun keeps => absurd keeps kept, fun _ _ => ⟨w.own, w.raises⟩, fun _ closes => absurd rfl closes⟩
    · have held : (s.gateCfg g).mode = .openHold := by_contra fun closed => kept (.inr ⟨closed, opens⟩)
      rw [held] at left
      have w := (changeMode_fromOpen_written opens).asLeft left
      have heldTime : ((modeWritten g mode s).gateCfg g).heldTime = (s.gateCfg g).heldTime := by rw [cfg, if_pos rfl]
      refine ⟨t, replies, frame w, fun j => (w.gateCfg j).trans (cfg j), w.others, w.creds, w.terminals,
        fun keeps => absurd keeps kept, fun closed => absurd held closed, fun _ _ => ⟨?_, w.raises⟩⟩
      rw [w.own, heldTime]
      rfl

/-! ## The contact opens (R176, R177, R179) -/

/-- The credentials alone are written. -/
structure CredsOnly (s t : State) : Prop where
  blocks : t = { s with gtc := { s.gtc with creds := t.gtc.creds } }

theorem setCred_credsOnly (c : Nat) (x : Cred) (s : State) : CredsOnly s (s.setCred c x) := ⟨rfl⟩

theorem writeLocation_credsOnly (c : Option Nat) (dir : Direction) (s : State) : CredsOnly s (writeLocation c dir s) := by
  unfold writeLocation
  split
  · exact ⟨rfl⟩
  · split
    · exact ⟨rfl⟩
    · cases dir with
      | entry => exact setCred_credsOnly ..
      | exit => exact setCred_credsOnly ..
      | none => exact ⟨rfl⟩

/-- Where a passage in a direction leaves its credential (R177). -/
def sideOf (dir : Direction) (before : Location) : Location :=
  match dir with
  | .entry => .pontoon
  | .exit => .land
  | .none => before

theorem writeLocation_cred {c : Nat} {dir : Direction} {s : State} (held : (s.cred c).state ≠ .free) :
    (writeLocation (some c) dir s).cred c = { s.cred c with location := sideOf dir (s.cred c).location } := by
  unfold writeLocation
  dsimp only
  rw [if_neg held]
  cases dir with
  | entry => exact (State.cred_setCred ..).trans (if_pos rfl)
  | exit => exact (State.cred_setCred ..).trans (if_pos rfl)
  | none => rfl

/-- An arrival request is handed to the berth allocator, or none is (R177 step 3). -/
theorem requestArrival_arrivals (g : Nat) (c : Option Nat) (dir : Direction) (s : State) :
    ∃ l, requestArrival g c dir s = s.setArrivals l := by
  unfold requestArrival
  split
  · exact ⟨_, rfl⟩
  · split
    · exact ⟨_, rfl⟩
    · split
      · exact ⟨_, rfl⟩
      · exact ⟨_, rfl⟩

theorem requestArrival_due {g c b : Nat} {dir : Direction} {s : State} (booked : (s.cred c).booking = some b)
    (entry : dir = .entry) (auto : (s.cred c).autoArrive = true) (confirmed : (s.booking b).state = .confirmed) :
    requestArrival g (some c) dir s = s.setArrivals (s.bal.arrivals ++ [⟨b, c, g⟩]) := by
  unfold requestArrival
  dsimp only
  rw [booked]
  exact if_pos ⟨entry, auto, confirmed⟩

section
variable (g : Nat) (s : State)

/-- The gate as a passage leaves it (R176). -/
def passedGate (k : Gate) : Gate :=
  { k with door := .opened, releaseTimer := none, heldTimer := some ⟨s.uptime, (s.gateCfg g).heldTime⟩ }

/-- The part once the location of a passage is written (R177 step 1). -/
def passageLocated : State :=
  writeLocation (s.gate g).attributed ((s.gate g).direction.getD .none) (s.setGate g (passedGate g s (s.gate g)))

/-- The notice of a passage (R177 step 2). -/
def passageNotice : NoticeBody :=
  .gatePassage g ((s.gate g).direction.getD .none) (s.gate g).attributed (s.gate g).passback

theorem passage_eq :
    passage g s =
      requestArrival g (s.gate g).attributed ((s.gate g).direction.getD .none)
        ((passageLocated g s).raise (passageNotice g s)) := rfl

theorem passageLocated_work : GateWork [] s (passageLocated g s) := by
  rw [passageLocated, (writeLocation_credsOnly ..).blocks]
  exact ((GateWork.refl s).write _).write _

theorem passage_work : GateWork [passageNotice g s] s ((passageLocated g s).raise (passageNotice g s)) :=
  (passageLocated_work g s).raise _

/-- Of the berth allocator a passage writes the arrival requests alone (R177 step 3). -/
theorem passage_handed : ∃ l, passage g s = ((passageLocated g s).raise (passageNotice g s)).setArrivals l :=
  requestArrival_arrivals ..

theorem passage_sameBut : SameBut [.gates, .berths] s (passage g s) := by
  obtain ⟨l, handed⟩ := passage_handed g s
  rw [handed]
  exact ((passage_work g s).sameBut.mono (by decide)).setArrivals (by decide) l

theorem passage_raises : Raises [passageNotice g s] s (passage g s) := by
  obtain ⟨l, handed⟩ := passage_handed g s
  rw [handed]
  exact (passage_work g s).raises

theorem passage_gtc : (passage g s).gtc = (passageLocated g s).gtc := by
  obtain ⟨l, handed⟩ := passage_handed g s
  rw [handed]
  rfl

theorem passage_gate (j : Nat) : (passage g s).gate j = if j = g then passedGate g s (s.gate g) else s.gate j := by
  rw [State.gate, passage_gtc, passageLocated, (writeLocation_credsOnly ..).blocks]
  exact State.gate_setGate s g j (passedGate g s (s.gate g))

theorem passage_terminals : (passage g s).gtc.terminals = s.gtc.terminals := by
  rw [passage_gtc, passageLocated, (writeLocation_credsOnly ..).blocks]
  rfl

variable {g s} {c : Nat} (through : (s.gate g).attributed = some c)
include through

theorem passageLocated_cred (held : (s.cred c).state ≠ .free) :
    (passageLocated g s).cred c =
      { s.cred c with location := sideOf ((s.gate g).direction.getD .none) (s.cred c).location } := by
  rw [passageLocated, through]
  exact writeLocation_cred held

theorem passage_cred (held : (s.cred c).state ≠ .free) :
    (passage g s).cred c =
      { s.cred c with location := sideOf ((s.gate g).direction.getD .none) (s.cred c).location } := by
  rw [State.cred, passage_gtc]
  exact passageLocated_cred through held

/-- R177 step 3: the entry of a credential whose booking is CONFIRMED asks for the booking's arrival. -/
theorem passage_arrivals {b : Nat} (held : (s.cred c).state ≠ .free) (booked : (s.cred c).booking = some b)
    (entry : (s.gate g).direction.getD .none = .entry) (auto : (s.cred c).autoArrive = true)
    (confirmed : (s.booking b).state = .confirmed) :
    (passage g s).bal.arrivals = s.bal.arrivals ++ [⟨b, c, g⟩] := by
  have bal : (passageLocated g s).bal = s.bal := (passageLocated_work g s).sameBut.berths.resolve_left (by decide)
  have located := passageLocated_cred through held
  have kept : ((passageLocated g s).raise (passageNotice g s)).cred c = (passageLocated g s).cred c := rfl
  rw [passage_eq, through, requestArrival_due (by rw [kept, located]; exact booked) entry (by rw [kept, located]; exact auto)
    (by rw [State.booking, raise_bal, bal]; exact confirmed)]
  exact congrArg (fun x : Bal => x.arrivals ++ [⟨b, c, g⟩]) bal

end

section
variable {g : Nat} {s : State}

theorem doorOpens_held_written (held : (s.gateCfg g).mode = .openHold) :
    GateWritten g (settledGate .opened true) [.gatePassage g .none none false] s (doorOpens g s) := by
  rw [doorOpens, if_pos held]
  exact (((GateWritten.refl g s).keepContact true).settleDoor .opened).raise _

theorem doorOpens_secure_written (closed : (s.gateCfg g).mode ≠ .openHold) (secure : (s.gate g).door = .secure) :
    GateWritten g (settledGate .forcedAlarm true) [.gateForced g] s (doorOpens g s) := by
  rw [doorOpens, if_neg closed, secure]
  exact (((GateWritten.refl g s).keepContact true).settleDoor .forcedAlarm).raise _

theorem doorOpens_released (closed : (s.gateCfg g).mode ≠ .openHold) (released : (s.gate g).door = .released) :
    doorOpens g s = passage g (keepContact g true s) := by
  rw [doorOpens, if_neg closed, released]

/-- R176: a door that is open already, or whose alarm stands, only keeps the contact. -/
theorem doorOpens_open_written (closed : (s.gateCfg g).mode ≠ .openHold) (secured : (s.gate g).door ≠ .secure)
    (unreleased : (s.gate g).door ≠ .released) :
    GateWritten g { s.gate g with contactOpen := true } [] s (doorOpens g s) := by
  have kept := (GateWritten.refl g s).keepContact true
  rw [doorOpens, if_neg closed]
  dsimp only
  cases door : (s.gate g).door with
  | secure => exact absurd door secured
  | released => exact absurd door unreleased
  | opened => rw [door] at kept; exact kept
  | heldAlarm => rw [door] at kept; exact kept
  | forcedAlarm => rw [door] at kept; exact kept

/-! ## The contact closes (R176, R179), and the timers (R176) -/

theorem doorShut_iff (d : DoorState) :
    d ∈ [DoorState.secure, .released] ↔ d ∉ [DoorState.opened, .heldAlarm, .forcedAlarm] := by
  cases d <;> decide

theorem doorCloses_open_written (isOpen : (s.gate g).door ∈ [DoorState.opened, .heldAlarm, .forcedAlarm]) :
    GateWritten g (settledGate .secure false)
      (if (s.gate g).door = .opened then [] else [.gateCleared g (s.gate g).door]) s (doorCloses g s) := by
  have settled := ((GateWritten.refl g s).keepContact false).settleDoor .secure
  unfold doorCloses
  dsimp only
  cases door : (s.gate g).door with
  | opened => exact settled
  | heldAlarm => exact settled.raise _
  | forcedAlarm => exact settled.raise _
  | secure => rw [door] at isOpen; exact absurd isOpen (by decide)
  | released => rw [door] at isOpen; exact absurd isOpen (by decide)

theorem doorCloses_shut_written (shut : (s.gate g).door ∈ [DoorState.secure, .released]) :
    GateWritten g { s.gate g with contactOpen := false } [] s (doorCloses g s) := by
  have kept := (GateWritten.refl g s).keepContact false
  unfold doorCloses
  dsimp only
  cases door : (s.gate g).door with
  | secure => rw [door] at kept; exact kept
  | released => rw [door] at kept; exact kept
  | opened => rw [door] at shut; exact absurd shut (by decide)
  | heldAlarm => rw [door] at shut; exact absurd shut (by decide)
  | forcedAlarm => rw [door] at shut; exact absurd shut (by decide)

theorem releaseTimeout_written (released : (s.gate g).door = .released) :
    GateWritten g (settledGate .secure (s.gate g).contactOpen) [] s (releaseTimeout g s) := by
  rw [releaseTimeout, if_pos released]
  exact (GateWritten.refl g s).settleDoor .secure

theorem heldTimeout_written (isOpen : (s.gate g).door = .opened) (started : (s.gate g).heldTimer.isSome = true) :
    GateWritten g { s.gate g with door := .heldAlarm, heldTimer := none } [.gateHeld g] s (heldTimeout g s) := by
  unfold heldTimeout
  dsimp only
  rw [if_pos ⟨isOpen, started⟩]
  exact ((GateWritten.refl g s).setGate _).raise _

end

/-! ## The events -/

/-- An event of a door's contact of a running part acts on the contact's new reading (R163). -/
theorem doorContact_opens {g : Nat} {s : State} (running : s.running = true) :
    ∃ t, exec (.doorContact g true) s = .next t ∧ AsLeft (doorOpens g (s.setContact g true)) t :=
  ⟨_, rfl, (event_asLeft (s := s.setContact g true) running).1⟩

theorem doorContact_closes {g : Nat} {s : State} (running : s.running = true) :
    ∃ t, exec (.doorContact g false) s = .next t ∧ AsLeft (doorCloses g (s.setContact g false)) t :=
  ⟨_, rfl, (event_asLeft (s := s.setContact g false) running).1⟩

/-- What leaves the supply as it was keeps the contact's reading. -/
theorem contact_kept {parts more : List Part} {g : Nat} {isOpen : Bool} {s t : State}
    (same : SameBut parts (s.setContact g isOpen) t) (apart : .supply ∉ parts) (supply : .supply ∈ more)
    (sub : ∀ p ∈ parts, p ∈ more) : SameBut more s t ∧ t.contact g = isOpen := by
  refine ⟨((SameBut.refl _ s).setContact supply g isOpen).trans (same.mono sub), ?_⟩
  rw [State.contact, same.supply.resolve_left apart]
  exact (State.contact_setContact ..).trans (if_pos rfl)

/-- Settles O53: each move of the door is one write of the gate, a passage with its credential's location and its arrival
request. -/
theorem doorFollowsItsContact : Obligations.DoorFollowsItsContact := by
  unfold Obligations.DoorFollowsItsContact
  intro g s low high running k dir rest settled
  refine ⟨?_, ?_, fun released => ?_, fun isOpen started => ?_⟩
  · obtain ⟨t, ran, left⟩ := doorContact_opens (g := g) running
    have moved {parts : List Part} (same : SameBut parts (s.setContact g true) t) (apart : .supply ∉ parts)
        (sub : ∀ p ∈ parts, p ∈ [Part.supply, .gates, .berths]) := contact_kept same apart (by decide) sub
    by_cases held : (s.gateCfg g).mode = .openHold
    · have w := (doorOpens_held_written (s := s.setContact g true) held).asLeft left
      obtain ⟨frame, contact⟩ := moved w.sameBut (by decide) (by decide)
      exact ⟨t, ran, frame, ⟨w.others, w.terminals⟩, contact, fun _ => ⟨w.own, w.raises, w.creds⟩,
        fun closed => absurd held closed, fun closed => absurd held closed⟩
    by_cases secure : k.door = .secure
    · have w := (doorOpens_secure_written (s := s.setContact g true) held secure).asLeft left
      obtain ⟨frame, contact⟩ := moved w.sameBut (by decide) (by decide)
      exact ⟨t, ran, frame, ⟨w.others, w.terminals⟩, contact, fun opens => absurd opens held,
        fun _ _ => ⟨w.own, w.raises, w.creds⟩, fun _ released => absurd (secure.symm.trans released) (by decide)⟩
    by_cases released : k.door = .released
    · rw [doorOpens_released (s := s.setContact g true) held released] at left
      have kept := (GateWritten.refl g (s.setContact g true)).keepContact true
      have same := left.sameBut ((kept.work.sameBut.mono (by decide)).trans (passage_sameBut ..))
      obtain ⟨frame, contact⟩ := moved same (by decide) (by decide)
      have gate (j : Nat) := (left.gate j).trans (passage_gate ..)
      have raised := left.raises (passage_raises g (keepContact g true (s.setContact g true)))
      rw [passageNotice, kept.own] at raised
      refine ⟨t, ran, frame, ⟨fun j other => ((gate j).trans (if_neg other)).trans (kept.others j other), ?_⟩, contact,
        fun opens => absurd opens held, fun _ secured => absurd secured secure, fun _ _ => ⟨?_, raised, ?_⟩⟩
      · rw [left.gtc, passage_terminals]
        rfl
      · rw [gate, if_pos rfl, kept.own]
        rfl
      · intro c attributed used
        have through : ((keepContact g true (s.setContact g true)).gate g).attributed = some c := by
          rw [kept.own]
          exact attributed
        refine ⟨?_, fun b booked entry auto confirmed => ?_⟩
        · rw [left.cred, passage_cred through used, kept.own]
          rfl
        · rw [left.bal, passage_arrivals through used booked (by rw [kept.own]; exact entry) auto confirmed]
          rfl
    · have w := (doorOpens_open_written (s := s.setContact g true) held secure released).asLeft left
      obtain ⟨frame, contact⟩ := moved w.sameBut (by decide) (by decide)
      exact ⟨t, ran, frame, ⟨w.others, w.terminals⟩, contact, fun opens => absurd opens held,
        fun _ shut => absurd shut secure, fun _ shut => absurd shut released⟩
  · obtain ⟨t, ran, left⟩ := doorContact_closes (g := g) running
    by_cases isOpen : k.door ∈ [DoorState.opened, .heldAlarm, .forcedAlarm]
    · have w := (doorCloses_open_written (s := s.setContact g false) isOpen).asLeft left
      obtain ⟨frame, contact⟩ := contact_kept (more := [.supply, .gates]) w.sameBut (by decide) (by decide) (by decide)
      exact ⟨t, ran, frame, ⟨w.others, w.terminals⟩, contact, w.creds, fun _ => ⟨w.own, w.raises⟩,
        fun shut => absurd isOpen ((doorShut_iff _).1 shut)⟩
    · have shut : k.door ∈ [DoorState.secure, .released] := (doorShut_iff _).2 isOpen
      have w := (doorCloses_shut_written (s := s.setContact g false) shut).asLeft left
      obtain ⟨frame, contact⟩ := contact_kept (more := [.supply, .gates]) w.sameBut (by decide) (by decide) (by decide)
      exact ⟨t, ran, frame, ⟨w.others, w.terminals⟩, contact, w.creds, fun opens => absurd opens isOpen,
        fun _ => ⟨w.own, w.raises⟩⟩
  · have left := (event_asLeft (f := releaseTimeout g) running).1
    have w := (releaseTimeout_written released).asLeft left
    refine ⟨_, rfl, w.sameBut, ⟨w.others, w.terminals⟩, w.raises, w.own, ?_⟩
    rw [relayOut_of_gate running (w.sameBut.supply.resolve_left (by decide)) (w.gateCfg g), w.own]
    exact Bool.or_false _
  · have w := (heldTimeout_written isOpen started).asLeft (event_asLeft running).1
    exact ⟨_, rfl, w.sameBut, ⟨w.others, w.terminals⟩, w.raises, w.own⟩

end Sys2Proof.Machine
end

section
/-! SUPPORT. The releases of a door: GATE_PULSE, the exit button and the exit reader (R178; O52). -/

namespace Sys2Proof.Machine

/-! ## A release (R175, R176, R178) -/

theorem touchCred_credsOnly (c : Nat) (s : State) : CredsOnly s (touchCred c s) := by
  unfold touchCred
  split
  · exact ⟨rfl⟩
  · exact setCred_credsOnly ..

theorem CredsOnly.gate {s t : State} (h : CredsOnly s t) (j : Nat) : t.gate j = s.gate j := by rw [h.blocks]; rfl

theorem CredsOnly.work {l : List NoticeBody} {s t u : State} (h : CredsOnly t u) (work : GateWork l s t) :
    GateWork l s u := by
  rw [h.blocks]
  exact work.write _

/-- A gate with its door released (R176). -/
def releasedGate (g : Nat) (c : Option Nat) (dir : Direction) (passback : Bool) (s : State) : Gate :=
  { s.gate g with
    door := .released, attributed := c, direction := some dir,
    releaseTimer := some ⟨s.uptime, (s.gateCfg g).releaseTime⟩, passback }

/-- A gate's door has been released, its relay is driven, and no other gate has changed. -/
structure DoorReleased (g : Nat) (c : Option Nat) (dir : Direction) (passback : Bool) (s t : State) : Prop where
  sameBut : SameBut [.gates] s t
  raises : Raises [] s t
  others : ∀ j, j ≠ g → t.gate j = s.gate j
  own : t.gate g = releasedGate g c dir passback s
  relay : t.relayOut g = true

section
variable {g : Nat} {k : Terminal} {dock : FuelTerminal} {s u v t : State} (running : s.running = true)
  (before : TerminalWritten g k dock [] s u)
include running before

/-- A release behind the writes of a terminal, and before a credential's, leaves the gate's door released. -/
theorem doorReleased_of_asLeft {c : Option Nat} {dir : Direction} {passback : Bool}
    (used : CredsOnly (releaseDoor g c dir passback u) v) (left : AsLeft v t) : DoorReleased g c dir passback s t := by
  have work : GateWork [] s v := used.work (before.work.write _)
  have gate (j : Nat) : t.gate j = if j = g then releasedGate g c dir passback s else s.gate j := by
    rw [left.gate, used.gate]
    refine (State.gate_setGate ..).trans (if_congr Iff.rfl ?_ (before.gate j))
    rw [before.gate, before.gateCfg, before.work.uptime]
    rfl
  have cfg : t.gateCfg g = s.gateCfg g := by
    rw [left.gateCfg, used.blocks]
    exact before.gateCfg g
  have sup : t.sup = s.sup := by rw [left.sup, work.sameBut.supply.resolve_left (by decide)]
  refine ⟨left.sameBut work.sameBut, left.raises work.raises, fun j other => (gate j).trans (if_neg other),
    (gate g).trans (if_pos rfl), ?_⟩
  rw [relayOut_of_gate running sup cfg, gate, if_pos rfl]
  exact Bool.or_true _

omit running in
/-- A credential that is not FREE is stamped by its use, and no other credential changes (R175, R178). -/
theorem cred_of_use {n : Nat} {dir : Direction} {passback : Bool} (used : (s.cred n).state ≠ .free)
    (left : AsLeft (touchCred n (releaseDoor g (some n) dir passback u)) t) (j : Nat) :
    t.cred j = if j = n then { s.cred n with lastUse := some s.now } else s.cred j := by
  have cred : (releaseDoor g (some n) dir passback u).cred j = s.cred j := before.cred j
  have now : (releaseDoor g (some n) dir passback u).now = s.now := by
    show u.now = s.now
    rw [before.blocks]
    rfl
  rw [left.cred, touchCred_cred, cred, now]
  by_cases same : j = n
  · rw [if_pos same, same, if_pos ⟨rfl, used⟩]
  · rw [if_neg same, if_neg fun both => same both.1]

end

/-! ## Exits (R178) -/

section
variable {g : Nat} {s : State} (closed : (s.gateCfg g).mode ≠ .openHold) (secure : (s.gate g).door = .secure)
include closed secure

theorem gatePulse_releases (low : 1 ≤ g) (high : g ≤ 6) :
    gatePulse g s = (releaseDoor g none .none false s, okAnswer) := by
  refine checked_pass fun c listed => ?_
  simp only [List.mem_cons, List.not_mem_nil, or_false] at listed
  rcases listed with rfl | rfl | rfl
  · rw [within_true low high]
    rfl
  · exact decide_eq_false closed
  · exact decide_eq_false (not_not.2 secure)

theorem exitButton_releases : exitButton g s = releaseDoor g none .exit false s := if_pos ⟨closed, secure⟩

theorem exitRead_unknown {token : Nat} (unheld : s.credByToken token = none) :
    exitRead g token s = s.raise (.gateRefused g .exit none .unknown false) := by
  rw [exitRead, if_neg closed, if_neg (not_not.2 secure), unheld]

theorem exitRead_known {token n : Nat} (held : s.credByToken token = some n) :
    exitRead g token s =
      if (s.cred n).state = .suspended then s.raise (.gateRefused g .exit (some n) .suspended false)
      else touchCred n (releaseDoor g (some n) .exit false s) := by
  rw [exitRead, if_neg closed, if_neg (not_not.2 secure), held]

omit closed in
/-- R170 rule 1: no read is a repeat at a SECURE door. -/
theorem isRepeat_of_secure (token : Nat) : s.isRepeat g token = false := by
  rw [State.isRepeat, secure]
  rfl

omit closed in
theorem cardRead_exit (gate : g ≠ 7) (fitted : (s.gateCfg g).exitReader = true) (token : Nat) :
    cardRead g true token s = exitRead g token (clearBuffer g s) := by
  have fresh : ¬(clearBuffer g s).isRepeat g token = true := by
    have secure : ((clearBuffer g s).gate g).door = .secure := secure
    rw [isRepeat_of_secure secure]
    decide
  rw [cardRead, if_neg gate, if_neg (by rw [fitted]; decide), if_neg fresh, if_pos rfl]

end

/-- Settles O52: each of the three is one release of the door, behind the checks it makes. -/
theorem exitsReleaseTheDoor : Obligations.ExitsReleaseTheDoor := by
  unfold Obligations.ExitsReleaseTheDoor
  intro g s low high closed secure released
  have gate : g ≠ 7 := by omega
  refine ⟨fun tag takes => ?_, fun running => ?_, fun token running fitted => ?_⟩
  · have running : s.running = true := by
      simp only [State.takes, Bool.and_eq_true] at takes
      exact takes.1.1
    obtain ⟨t, replies, left⟩ := request_answers (tag := tag) (i := .gatePulse tag g) rfl rfl takes
      (gatePulse_releases closed secure low high)
    have d := doorReleased_of_asLeft running (.refl g s) ⟨rfl⟩ left
    exact ⟨t, replies, d.sameBut, d.raises, d.others, d.own, d.relay⟩
  · have left := (event_asLeft (f := exitButton g) running).1
    have d := doorReleased_of_asLeft running (.refl g s) ⟨rfl⟩ (exitButton_releases closed secure ▸ left)
    exact ⟨_, rfl, d.sameBut, d.raises, d.others, d.own, d.relay⟩
  · intro refused
    have before := (TerminalWritten.refl g s).clearBuffer
    have read := cardRead_exit secure gate fitted token
    have notice {c : Option Nat} {reason : GateRefusal}
        (raised : cardRead g true token s = (clearBuffer g s).raise (.gateRefused g .exit c reason false)) :
        refused c reason := by
      have left := TerminalWritten.event (f := cardRead g true token) (raised ▸ before.raise _) running
      exact ⟨_, rfl, left.sameBut, left.gates, left.creds, left.raises⟩
    refine ⟨fun unheld => notice (read.trans (exitRead_unknown (s := clearBuffer g s) closed secure unheld)), fun n held => ?_⟩
    have known := read.trans (exitRead_known (s := clearBuffer g s) closed secure held)
    refine ⟨fun active => ?_, fun suspended => notice (known.trans (if_pos suspended))⟩
    have unsuspended : ¬((clearBuffer g s).cred n).state = .suspended := by
      show ¬(s.cred n).state = .suspended
      rw [active]
      decide
    rw [if_neg unsuspended] at known
    have left := known ▸ (event_asLeft (f := cardRead g true token) running).1
    have d := doorReleased_of_asLeft running before (touchCred_credsOnly ..) left
    have cred := cred_of_use before (by rw [active]; decide) left
    exact ⟨_, rfl, ⟨d.sameBut, d.raises, d.others, d.own, d.relay⟩, (cred n).trans (if_pos rfl),
      fun j other => (cred j).trans (if_neg other)⟩

end Sys2Proof.Machine
end

section
/-! SUPPORT. The presentations at a gate (R170 to R175; O54). -/

namespace Sys2Proof.Machine

/-! ## A presentation is judged (R171, R172, R175) -/

section
variable {g n : Nat} {reader : Reader} {s : State}

theorem present_discarded (opens : (s.gateCfg g).mode = .openHold) : present g n reader s = s := if_pos opens

theorem present_refused {reason : GateRefusal} (closed : (s.gateCfg g).mode ≠ .openHold)
    (refused : s.entryRefusal g (s.cred n) = some reason) :
    present g n reader s = s.raise (.gateRefused g reader (some n) reason false) := by
  rw [present, if_neg closed, refused]

theorem present_granted (closed : (s.gateCfg g).mode ≠ .openHold) (passes : s.entryRefusal g (s.cred n) = none) :
    present g n reader s = grantEntry g n s := by
  rw [present, if_neg closed, passes]

end

/-- R175: the entry of a credential is granted, in the words of O54. -/
def EntryGranted (g n : Nat) (s t : State) : Prop :=
  SameBut [.gates] s t ∧ Raises [] s t ∧ t.relayOut g = true ∧ (∀ j, j ≠ g → t.gate j = s.gate j) ∧
  t.gate g =
    releasedGate g (some n) .entry
      (decide ((s.gateCfg g).antiPassback = .soft ∧ (s.cred n).location = .pontoon)) s ∧
  t.cred n = { s.cred n with lastUse := some s.now } ∧ ∀ j, j ≠ n → t.cred j = s.cred j

/-- R175: the entry of a credential is refused, in the words of O54. -/
def EntryRefused (g n : Nat) (reader : Reader) (reason : GateRefusal) (s t : State) : Prop :=
  SameBut [.gates] s t ∧ Raises [.gateRefused g reader (some n) reason false] s t ∧ t.gtc.gates = s.gtc.gates ∧
  t.gtc.creds = s.gtc.creds

/-- R172, R175: an identified presentation behind the writes of its terminal is granted or refused as its checks say, and the
terminal stays as written. -/
theorem presented {g n : Nat} {reader : Reader} {k : Terminal} {dock : FuelTerminal} {s u t : State}
    (before : TerminalWritten g k dock [] s u) (running : s.running = true) (closed : (s.gateCfg g).mode ≠ .openHold)
    (used : (s.cred n).state ≠ .free) (left : AsLeft (present g n reader u) t) :
    t.terminal g = k ∧ (s.entryRefusal g (s.cred n) = none → EntryGranted g n s t) ∧
      ∀ reason, s.entryRefusal g (s.cred n) = some reason → EntryRefused g n reader reason s t := by
  have closed' : (u.gateCfg g).mode ≠ .openHold := by rw [before.gateCfg]; exact closed
  have judged : u.entryRefusal g (u.cred n) = s.entryRefusal g (s.cred n) := by rw [before.cred, before.entryRefusal]
  cases refusal : s.entryRefusal g (s.cred n) with
  | some reason =>
    rw [present_refused closed' (judged.trans refusal)] at left
    have w := (before.raise _).asLeft left
    refine ⟨w.own, nofun, fun _ same => ?_⟩
    cases same
    exact ⟨w.sameBut, w.raises, w.gates, w.creds⟩
  | none =>
    rw [present_granted closed' (judged.trans refusal), grantEntry] at left
    rw [← Bool.decide_and, before.cred, before.gateCfg] at left
    have d := doorReleased_of_asLeft running before (touchCred_credsOnly ..) left
    have cred := cred_of_use before used left
    refine ⟨?_, fun _ => ⟨d.sameBut, d.raises, d.relay, d.others, d.own, (cred n).trans (if_pos rfl),
      fun j other => (cred j).trans (if_neg other)⟩, nofun⟩
    rw [left.terminal, (touchCred_credsOnly ..).blocks]
    exact before.own

/-! ## Cards at an entry reader (R170) -/

section
variable {g token : Nat} {s : State} (gate : g ≠ 7) (fresh : s.isRepeat g token = false)
include gate fresh

theorem cardRead_entry : cardRead g false token s = entryRead g token (clearBuffer g s) := by
  have fresh : ¬(clearBuffer g s).isRepeat g token = true := by
    rw [show (clearBuffer g s).isRepeat g token = false from fresh]
    decide
  rw [cardRead, if_neg gate, if_neg fun both => absurd both.1 (by decide), if_neg fresh, if_neg (by decide)]

theorem cardRead_entry_unknown_written (unheld : s.credByToken token = none) :
    TerminalWritten g { s.terminal g with buffer := [], keySince := none } s.gtc.fuel
      [.gateRefused g .entry none .unknown false] s (cardRead g false token s) := by
  have before := (TerminalWritten.refl g s).clearBuffer
  rw [cardRead_entry gate fresh, entryRead, before.credByToken, unheld]
  exact before.raise _

theorem cardRead_entry_card {n : Nat} (held : s.credByToken token = some n) (card : (s.cred n).kind = .card) :
    cardRead g false token s = present g n .entry (clearBuffer g s) := by
  have before := (TerminalWritten.refl g s).clearBuffer
  rw [cardRead_entry gate fresh, entryRead, before.credByToken, held]
  exact if_pos card

theorem cardRead_entry_cardPin {n : Nat} (held : s.credByToken token = some n) (kind : (s.cred n).kind = .cardPin) :
    cardRead g false token s =
      if (s.terminal g).lockoutSince.isSome then
        (clearBuffer g s).raise (.gateRefused g .entry (some n) .busy false)
      else holdCard g n (clearBuffer g s) := by
  have before := (TerminalWritten.refl g s).clearBuffer
  have other : ¬((clearBuffer g s).cred n).kind = .card := by
    rw [before.cred, kind]
    decide
  rw [cardRead_entry gate fresh, entryRead, before.credByToken, held]
  dsimp only
  rw [if_neg other, before.own]

end

/-! ## Submissions at a gate (R169, R171) -/

section
variable {g : Nat} {s : State} (gate : g ≠ 7) (unlocked : (s.terminal g).lockoutSince = none)
  (entered : (s.terminal g).buffer ≠ [])
include gate unlocked entered

theorem keyEvent_pending {c : PendingCard} (pending : (s.terminal g).card = some c) :
    keyEvent g 11 s =
      if (s.cred c.cred).pin = some (s.terminal g).buffer then
        present g c.cred .entry (clearFailures g (dropCard g (submitted g s)))
      else refuseSubmission g .entry (some c.cred) (dropCard g (submitted g s)) := by
  have before := submitted_written g s
  rw [keyEvent_hash_gate (takesKeys_of_gate gate unlocked) entered gate,
    submitAtGate_pending (by rw [before.own]; exact pending), before.cred]

theorem keyEvent_alone {n : Nat} (alone : (s.terminal g).card = none)
    (held : s.credByPin (s.terminal g).buffer = some n) :
    keyEvent g 11 s = present g n .keypad (clearFailures g (submitted g s)) := by
  have before := submitted_written g s
  rw [keyEvent_hash_gate (takesKeys_of_gate gate unlocked) entered gate,
    submitAtGate_known (by rw [before.own]; exact alone) (by rw [before.credByPin]; exact held)]

end

/-- The terminal's writes before a PIN alone, and before a card with its PIN, is judged (R169, R171). -/
theorem aloneJudged_written (g : Nat) (s : State) :
    TerminalWritten g { s.terminal g with buffer := [], keySince := none, failures := 0 } s.gtc.fuel [] s
      (clearFailures g (submitted g s)) := (submitted_written g s).clearFailures

theorem pendingJudged_written (g : Nat) (s : State) :
    TerminalWritten g { s.terminal g with buffer := [], keySince := none, card := none, failures := 0 }
      (windowShut g s.gtc.fuel) [] s (clearFailures g (dropCard g (submitted g s))) :=
  (submitted_written g s).dropCard.clearFailures

/-- Settles O54: a presentation is judged behind the writes of its terminal, which are all that is left where it is discarded,
refused or waits for a PIN. -/
theorem entryIsGrantedOrRefused : Obligations.EntryIsGrantedOrRefused := by
  unfold Obligations.EntryIsGrantedOrRefused
  refine ⟨fun g c s => entryRefusal_eq s c g, fun g s low high running => ?_,
    fun g n s low high running closed used => ?_⟩
  · have gate : g ≠ 7 := by omega
    intro k discarded
    have alone {x : Terminal} {dock : FuelTerminal} {l : List NoticeBody} {t : State}
        (left : TerminalLeft g x dock l s t) : discarded x t :=
      ⟨left.sameBut, left.gates, left.creds, left.own, left.others⟩
    refine ⟨fun token fresh => ⟨fun unheld => ?_, fun n held => ⟨fun kind locked => ?_, fun card opens => ?_⟩⟩,
      fun c pending entered unlocked => ?_, fun n nocard entered unlocked held opens => ?_⟩
    · have left := (cardRead_entry_unknown_written gate fresh unheld).event running
      exact ⟨_, rfl, alone left, left.raises⟩
    · have read := cardRead_entry_cardPin gate fresh held kind
      rw [if_pos locked] at read
      have left := (read ▸ (TerminalWritten.refl g s).clearBuffer.raise _).event running
      exact ⟨_, rfl, alone left, left.raises⟩
    · have read := cardRead_entry_card gate fresh held card
      rw [present_discarded (s := clearBuffer g s) opens] at read
      have left := (read ▸ (TerminalWritten.refl g s).clearBuffer).event running
      exact ⟨_, rfl, alone left, left.raises⟩
    · intro emptied
      have judged := keyEvent_pending gate unlocked entered pending
      refine ⟨fun wrong => ?_, fun right opens => ?_⟩
      · rw [if_neg wrong] at judged
        have left := (judged ▸ (submitted_written g s).dropCard.refuseSubmission .entry (some c.cred)).event running
        exact ⟨_, rfl, left.raises, alone left⟩
      · have before := pendingJudged_written g s
        rw [if_pos right, present_discarded (by rw [before.gateCfg]; exact opens)] at judged
        have left := (judged ▸ before).event running
        exact ⟨_, rfl, alone left, left.raises⟩
    · have before := aloneJudged_written g s
      have judged := keyEvent_alone gate unlocked entered nocard held
      rw [present_discarded (by rw [before.gateCfg]; exact opens)] at judged
      have left := (judged ▸ before).event running
      exact ⟨_, rfl, alone left, left.raises⟩
  · have gate : g ≠ 7 := by omega
    intro c granted refused
    refine ⟨fun token held fresh => ⟨fun card => ?_, fun kind unlocked => ?_⟩,
      fun pin entered same nocard unlocked held => ?_, fun since right entered pending unlocked => ?_⟩
    · have left := (event_asLeft (f := cardRead g false token) running).1
      rw [cardRead_entry_card gate fresh held card] at left
      obtain ⟨own, outcome⟩ := presented (TerminalWritten.refl g s).clearBuffer running closed used left
      exact ⟨_, rfl, by rw [own], outcome⟩
    · have read := cardRead_entry_cardPin gate fresh held kind
      rw [if_neg (by rw [unlocked]; decide)] at read
      have left := (read ▸ (TerminalWritten.refl g s).clearBuffer.holdCard n).event running
      exact ⟨_, rfl, left.sameBut, left.raises, left.gates, left.creds, left.own⟩
    · rw [← same] at entered held
      have left := (event_asLeft (f := keyEvent g 11) running).1
      rw [keyEvent_alone gate unlocked entered nocard held] at left
      obtain ⟨own, outcome⟩ := presented (aloneJudged_written g s) running closed used left
      exact ⟨_, rfl, by rw [own], by rw [own], outcome⟩
    · have left := (event_asLeft (f := keyEvent g 11) running).1
      rw [keyEvent_pending gate unlocked entered pending, if_pos right] at left
      obtain ⟨own, outcome⟩ := presented (pendingJudged_written g s) running closed used left
      exact ⟨_, rfl, own, outcome⟩

end Sys2Proof.Machine
end

section
/-! SUPPORT. The credential records (R158, R160; O50): a row written, the uses it ends, and the change of a record's state. -/

namespace Sys2Proof.Machine

/-! ## The uses of a credential end (R158) -/

/-- A run of writes at listed places, each of which changes what is read there alone and as a second write would leave it,
changes what is read at the listed places. -/
theorem foldl_reads {β : Type} {write : State → Nat → State} {read : State → Nat → β} {change : β → β}
    (again : ∀ x, change (change x) = change x)
    (each : ∀ s i j, read (write s i) j = if j = i then change (read s j) else read s j) (l : List Nat) (s : State)
    (j : Nat) : read (l.foldl write s) j = if j ∈ l then change (read s j) else read s j := by
  induction l generalizing s with
  | nil => rfl
  | cons i rest ih =>
    rw [List.foldl_cons, ih, each]
    by_cases here : j = i
    · rw [if_pos here, if_pos (List.mem_cons.2 (.inl here)), again, ite_self]
    · rw [if_neg here]
      exact if_congr (by rw [List.mem_cons, or_iff_right here]) rfl rfl

/-- A gate whose release goes on without the attribution to a credential. -/
def unattributed (c : Nat) (k : Gate) : Gate := if k.attributed = some c then { k with attributed := none } else k

/-- A terminal without the pending card of a credential. -/
def withoutCard (c : Nat) (k : Terminal) : Terminal :=
  if k.card.map (·.cred) = some c then { k with buffer := [], keySince := none, card := none } else k

theorem unattributed_attributed (c : Nat) (k : Gate) : (unattributed c k).attributed ≠ some c := by
  unfold unattributed
  split
  · exact nofun
  · assumption

theorem unattributed_door (c : Nat) (k : Gate) : (unattributed c k).door = k.door := by
  unfold unattributed
  split <;> rfl

theorem withoutCard_card (c : Nat) (k : Terminal) : (withoutCard c k).card.map (·.cred) ≠ some c := by
  unfold withoutCard
  split
  · exact nofun
  · assumption

section
variable (c : Nat) (s : State)

theorem endAttribution_gate (i j : Nat) :
    (endAttribution c i s).gate j = if j = i then unattributed c (s.gate j) else s.gate j := by
  unfold endAttribution unattributed
  by_cases here : j = i
  · subst here
    rw [if_pos rfl]
    split
    · exact (State.gate_setGate ..).trans (if_pos rfl)
    · rfl
  · rw [if_neg here]
    split
    · exact (State.gate_setGate ..).trans (if_neg here)
    · rfl

theorem endCard_eq (i : Nat) :
    endCard c i s =
      if (s.terminal i).card.map (·.cred) = some c then clearBuffer i (dropCard i s) else s := by
  unfold endCard
  cases (s.terminal i).card with
  | none => rfl
  | some pending => exact if_congr (Option.some_inj.symm) rfl rfl

theorem endCard_terminal (i j : Nat) :
    (endCard c i s).terminal j = if j = i then withoutCard c (s.terminal j) else s.terminal j := by
  have w := (TerminalWritten.refl i s).dropCard.clearBuffer
  rw [endCard_eq, withoutCard]
  by_cases here : j = i
  · subst here
    rw [if_pos rfl]
    split
    · exact w.own
    · rfl
  · rw [if_neg here]
    split
    · exact w.others j here
    · rfl

theorem endCard_gates (i : Nat) : (endCard c i s).gtc.gates = s.gtc.gates := by
  rw [endCard_eq]
  split
  · rw [(TerminalWritten.refl i s).dropCard.clearBuffer.rest]
  · rfl

theorem endCredUse_gate {g : Nat} (listed : g ∈ [1, 2, 3, 4, 5, 6]) :
    (endCredUse c s).gate g = unattributed c (s.gate g) := by
  have again (k : Gate) : unattributed c (unattributed c k) = unattributed c k := if_neg (unattributed_attributed c k)
  have cards (l : List Nat) (u : State) : (l.foldl (fun t n => endCard c n t) u).gtc.gates = u.gtc.gates :=
    foldl_keeps (kept := fun s t : State => t.gtc.gates = s.gtc.gates) (fun _ => rfl) (fun first next => next.trans first)
      (fun t n => endCard c n t) (fun t n => endCard_gates c t n) l u
  rw [endCredUse, State.gate, cards]
  exact (foldl_reads again (fun t i j => endAttribution_gate c t i j) _ s g).trans (if_pos listed)

theorem endCredUse_terminal {n : Nat} (listed : n ∈ [1, 2, 3, 4, 5, 6, 7]) :
    ((endCredUse c s).terminal n).card.map (·.cred) ≠ some c := by
  have again (k : Terminal) : withoutCard c (withoutCard c k) = withoutCard c k := if_neg (withoutCard_card c k)
  rw [endCredUse, foldl_reads again (fun t i j => endCard_terminal c t i j), if_pos listed]
  exact withoutCard_card c _

/-- No gate and no terminal uses a credential any longer, and the doors are as they were. -/
def Unused (s t : State) : Prop :=
  (∀ g ∈ [1, 2, 3, 4, 5, 6], (t.gate g).attributed ≠ some c ∧ (t.gate g).door = (s.gate g).door) ∧
  ∀ n ∈ [1, 2, 3, 4, 5, 6, 7], (t.terminal n).card.map (·.cred) ≠ some c

theorem endCredUse_unused : Unused c s (endCredUse c s) := by
  refine ⟨fun g listed => ?_, fun n listed => endCredUse_terminal c s listed⟩
  rw [endCredUse_gate c s listed]
  exact ⟨unattributed_attributed c _, unattributed_door c _⟩

variable {c s}

theorem unused_of_asLeft {u t : State} (h : Unused c s u) (left : AsLeft u t) : Unused c s t := by
  unfold Unused
  simp only [left.gate, left.terminal]
  exact h

end

/-! ## One record written -/

/-- Of the credentials one alone is written, and of the part the gate controller. -/
structure CredWritten (c : Nat) (x : Cred) (s t : State) : Prop where
  work : GateWork [] s t
  own : t.cred c = x
  others : ∀ j, j ≠ c → t.cred j = s.cred j

section
variable {c : Nat} {s t u : State}

theorem setCred_written (used : CredUsesOnly s u) (x : Cred) : CredWritten c x s (u.setCred c x) where
  work := (⟨used.gatesOnly.blocks⟩ : GateWork [] s u).write _
  own := (State.cred_setCred ..).trans (if_pos rfl)
  others j other := by
    rw [State.cred_setCred, if_neg other, State.cred, used.creds]
    rfl

theorem freeCred_written : CredWritten c coldCred s (freeCred c s) := by
  have cred (j : Nat) : (freeCred c s).cred j = if j = c then coldCred else s.cred j := by
    rw [State.cred, freeCred_creds]
    exact tableGet_tableErase ..
  exact ⟨⟨(freeCred_gatesOnly c s).blocks⟩, (cred c).trans (if_pos rfl), fun j other => (cred j).trans (if_neg other)⟩

theorem setCred_unused (h : Unused c s u) (x : Cred) : Unused c s (u.setCred c x) := h

theorem freeCred_unused : Unused c s (freeCred c s) := endCredUse_unused c (s.setCred c coldCred)

/-- The frame of O50's commands. -/
theorem CredWritten.frame {x : Cred} (h : CredWritten c x s u) (left : AsLeft u t) :
    (SameBut [.gates] s t ∧ Raises [] s t ∧ ∀ j, j ≠ c → t.cred j = s.cred j) ∧ t.cred c = x :=
  ⟨⟨left.sameBut h.work.sameBut, left.raises h.work.raises, fun j other => (left.cred j).trans (h.others j other)⟩,
    (left.cred c).trans h.own⟩

end

/-! ## The requests -/

section
variable {i : Nat} {r : CredRow} {s : State} {state : CredState} {kind : CredKind} {location : Option Location}

theorem credRow_accepted (decoded : valueOf credStates r.state = some state) (used : state ≠ .free)
    (kinded : valueOf credKinds r.kind = some kind) (located : locationOf r.location = some location)
    (inRange : credInRange i kind r = true)
    (booked : ∀ b, r.booking = some b → (s.booking b).state ≠ .free ∧ (s.booking b).isClosed = false)
    (apart : s.credConflict i kind r = false) :
    credRow i r s = .ok ((endCredUse i s).setCred i (credRecord (s.cred i) state kind location r)) := by
  have valid : ¬(state = .free ∨ (!credInRange i kind r) = true) := by
    rw [inRange]
    exact not_or.2 ⟨used, by decide⟩
  have held : ¬((r.booking.map fun b => s.booking b).map fun k => decide (k.state = .free)).getD false = true := by
    cases booking : r.booking with
    | none => exact nofun
    | some b => exact fun free => (booked b booking).1 (of_decide_eq_true free)
  have opened : ¬((r.booking.map fun b => s.booking b).map fun k => k.isClosed).getD false = true := by
    cases booking : r.booking with
    | none => exact nofun
    | some b => exact fun closed => absurd closed (by rw [Bool.not_eq_true]; exact (booked b booking).2)
  rw [credRow, decoded, kinded, located]
  dsimp only
  rw [if_neg valid, if_neg held, if_neg opened, if_neg (by rw [apart]; decide)]

variable (low : i ≤ 1023)
include low

/-- R160: the checks of a suspension and of a resumption, which the state refused tells apart. -/
theorem stateChecks_pass {old refused : CredState} (used : old ≠ .free) (other : old ≠ refused) :
    ∀ c ∈ [(!within 0 1023 i, Status.range), (decide (old = .free), .noSuch), (decide (old = refused), .state)],
      c.1 = false := by
  intro c listed
  simp only [List.mem_cons, List.not_mem_nil, or_false] at listed
  rcases listed with rfl | rfl | rfl
  · rw [within_true (Nat.zero_le i) low]
    rfl
  · exact decide_eq_false used
  · exact decide_eq_false other

omit low in
theorem credReply_written (x : Cred) :
    credReply i (s.setCred i x) = (s.setCred i x, ⟨.ok, 0, [⟨0x11, [enumField credStates x.state]⟩]⟩) := by
  have written : (s.setCred i x).cred i = x := (State.cred_setCred ..).trans (if_pos rfl)
  rw [credReply, written]
  rfl

theorem credSuspend_accepted (active : (s.cred i).state = .active) :
    credSuspend i s =
      (s.setCred i { s.cred i with state := .suspended },
        ⟨.ok, 0, [⟨0x11, [enumField credStates CredState.suspended]⟩]⟩) :=
  (checked_pass (stateChecks_pass low (by rw [active]; decide) (by rw [active]; decide))).trans (credReply_written _)

theorem credResume_accepted (suspended : (s.cred i).state = .suspended) :
    credResume i s =
      (s.setCred i { s.cred i with state := .active },
        ⟨.ok, 0, [⟨0x11, [enumField credStates CredState.active]⟩]⟩) :=
  (checked_pass (stateChecks_pass low (by rw [suspended]; decide) (by rw [suspended]; decide))).trans
    (credReply_written _)

theorem credFree_accepted (used : (s.cred i).state ≠ .free) :
    credFree i s = (freeCred i s, ⟨.ok, 0, [⟨0x11, [enumField credStates CredState.free]⟩]⟩) := by
  refine (checked_pass fun c listed => ?_).trans ?_
  · rw [List.mem_singleton] at listed
    rw [listed, within_true (Nat.zero_le i) low]
    rfl
  · rw [if_neg used, credReply, freeCred_written.own]
    rfl

end

/-- Settles O50: each accepted request is one write of the record, behind the end of its uses where the rule ends them. -/
theorem credentialRecordsAreWritten : Obligations.CredentialRecordsAreWritten := by
  unfold Obligations.CredentialRecordsAreWritten
  intro tag i s takes low old lone unused
  refine ⟨fun r state kind location decoded used kinded located inRange booked apart => ?_, fun active => ?_,
    fun suspended => ?_, fun used => ?_⟩
  · obtain ⟨t, replies, left⟩ := request_answers (tag := tag) (i := .credPut tag i [.row r]) rfl rfl takes
      (multiPut_one (most := 15) (by decide)
        (credRow_accepted decoded used kinded located inRange booked apart))
    obtain ⟨frame, own⟩ := (setCred_written (endCredUse_credUsesOnly i s) _).frame left
    exact ⟨t, replies, frame, unused_of_asLeft (setCred_unused (endCredUse_unused i s) _) left, own⟩
  · obtain ⟨t, replies, left⟩ := request_answers (tag := tag) (i := .credSuspend tag i) rfl rfl takes
      (credSuspend_accepted low active)
    exact ⟨t, replies, (setCred_written (.refl s) _).frame left⟩
  · obtain ⟨t, replies, left⟩ := request_answers (tag := tag) (i := .credResume tag i) rfl rfl takes
      (credResume_accepted low suspended)
    exact ⟨t, replies, (setCred_written (.refl s) _).frame left⟩
  · obtain ⟨t, replies, left⟩ := request_answers (tag := tag) (i := .credFree tag i) rfl rfl takes
      (credFree_accepted low used)
    obtain ⟨frame, own⟩ := freeCred_written.frame left
    exact ⟨t, replies, frame, unused_of_asLeft freeCred_unused left, own⟩

end Sys2Proof.Machine
end

section
/-! SUPPORT. A step's command (O1), the transmit path's next frame (R193, R195, R196, O7), the link's own requests (R190,
R197, R199, O11), and the cold start (R200, R201, O8). -/

namespace Sys2Proof.Machine

/-- Settles O1: a queue that is not empty gives its first command. -/
theorem stepTakesTheFrontCommand : Obligations.StepTakesTheFrontCommand := by
  unfold Obligations.StepTakesTheFrontCommand
  exact fun _ _ => rfl

/-! ## The transmit path -/

/-- The oldest notice of the queue, as the transmit path sends it (R195, R196). -/
def oldestNotice (h : Hlc) : Option Sending := h.notices.head?.map fun n => .notice n h.dropped

/-- R195: what the transmit path sends next, with a slot's content and no frame on the line. -/
def nextSending (slot : Option Slot) (h : Hlc) : Option Sending :=
  match slot with
  | some x => if x.behind = 0 then some (.reply x.reply) else oldestNotice h
  | none => if h.restart.isSome then none else oldestNotice h

theorem sendNotice_tx {h : Hlc} (free : h.tx = none) : (sendNotice h).tx = oldestNotice h := by
  unfold sendNotice oldestNotice
  cases queue : h.notices with
  | nil => exact free
  | cons n rest => rfl

theorem chooseFrame_tx {h : Hlc} (free : h.tx = none) : (chooseFrame h).tx = nextSending h.slot h := by
  unfold chooseFrame nextSending
  cases h.slot with
  | some x =>
    dsimp only
    split
    · rfl
    · exact sendNotice_tx free
  | none =>
    dsimp only
    split
    · exact free
    · exact sendNotice_tx free

/-- R193, R195: what a running part's transmit path, with no frame on the line, begins. -/
theorem pump_tx {s : State} (running : s.running = true) (free : s.hlc.tx = none) :
    (pump s).hlc.tx = if s.sup.hostCts then nextSending s.hlc.slot s.hlc else none := by
  unfold pump
  by_cases cts : s.sup.hostCts = true
  · rw [if_pos cts, if_pos (by simp [running, cts, free])]
    exact chooseFrame_tx free
  · rw [if_neg cts, if_neg (by simp [cts])]
    exact free

theorem pump_of_closed {s : State} (closed : s.sup.hostCts = false ∨ s.hlc.tx.isSome = true) : pump s = s := by
  unfold pump
  refine if_neg fun begins => ?_
  simp only [Bool.and_eq_true, Option.isNone_iff_eq_none] at begins
  obtain ⟨⟨-, cts⟩, free⟩ := begins
  rcases closed with shut | busy
  · rw [cts] at shut
    cases shut
  · rw [free] at busy
    cases busy

/-- R195: a frame that has left takes nothing from the notices that wait. -/
theorem frameSent_outgoing (h : Hlc) : (frameSent h).outgoing = h.notices := by
  unfold frameSent
  split
  · rename_i free
    simp [Hlc.outgoing, free]
  · rfl
  · rfl

/-- R193, R195: a frame's end, and what the path begins then. -/
theorem transmitFrameDone_sends {s : State} (running : s.running = true) :
    ∃ t, exec .transmitFrameDone s = .next t ∧ SameBut [] s t ∧ t.hlc.outgoing = s.hlc.notices ∧
      (∀ r, s.hlc.tx = some (.reply r) →
        t.hlc.slot = none ∧ t.hlc.tx = if s.sup.hostCts then nextSending none s.hlc else none) ∧
      (∀ n d, s.hlc.tx = some (.notice n d) →
        t.reply = s.reply ∧ t.hlc.tx = if s.sup.hostCts then nextSending s.hlc.slot s.hlc else none) := by
  have ends : exec .transmitFrameDone s = .next (pump (s.setHlc (frameSent s.hlc))) :=
    congrArg Host.Outcome.next (event_running running)
  have stays : SameBut [] s (s.setHlc (frameSent s.hlc)) := .writeHlc _ _ (frameSent_linkKept _)
  refine ⟨_, ends, stays.trans (pump_sameBut _), (pump_outgoing _).trans (frameSent_outgoing _),
    fun r sent => ?_, fun n d sent => ?_⟩
  · have left : frameSent s.hlc = { s.hlc with tx := none, slot := none } := by rw [frameSent, sent]
    rw [left]
    refine ⟨?_, pump_tx (s := s.setHlc _) running rfl⟩
    have empty := pump_reply (s.setHlc { s.hlc with tx := none, slot := none })
    exact Option.map_eq_none_iff.1 empty
  · have left : frameSent s.hlc = { s.hlc with tx := none } := by rw [frameSent, sent]
    rw [left]
    exact ⟨pump_reply _, pump_tx (s := s.setHlc _) running rfl⟩

/-- R193: the host's clear-to-send moves, and what the path begins then. -/
theorem hostCtsChange_sends {s : State} (a : Bool) (running : s.running = true) :
    ∃ t, exec (.hostCtsChange a) s = .next t ∧ SameBut [.supply] s t ∧ t.sup = { s.sup with hostCts := a } ∧
      t.reply = s.reply ∧ t.hlc.outgoing = s.hlc.outgoing ∧ (a = false ∨ s.hlc.tx.isSome → t.hlc = s.hlc) ∧
      (a = true → s.hlc.tx = none → t.hlc.tx = nextSending s.hlc.slot s.hlc) := by
  let read : State := { s with sup := { s.sup with hostCts := a } }
  have moves : exec (.hostCtsChange a) s = .next (pump read) :=
    congrArg Host.Outcome.next (event_running (s := read) running)
  have stays : SameBut [.supply] s read := .writeSup (by decide) _ _
  refine ⟨_, moves, stays.trans (pump_sameBut _), pump_sup _, pump_reply _, pump_outgoing _, fun closed => ?_,
    fun asserted free => ?_⟩
  · rw [pump_of_closed (s := read) closed]
  · exact (pump_tx (s := read) running free).trans (if_pos asserted)

/-- Settles O7: the path's choice after each of the two events that free it, and the queue's two ends. -/
theorem transmitPathAndNoticeQueue : Obligations.TransmitPathAndNoticeQueue := by
  unfold Obligations.TransmitPathAndNoticeQueue
  refine ⟨⟨fun _ => transmitFrameDone_sends, fun a _ => hostCtsChange_sends a⟩, fun b s => ⟨fun room => ?_,
    fun full => if_pos full, fun n rest running cts free slot restart queue => ?_⟩⟩
  · rw [raise_of_room room]
    rfl
  · exact (pump_begins_notice running free slot restart queue).trans (if_pos cts)

/-! ## The link's own requests -/

/-- R197: what STATUS reads, its flags as numbers. -/
theorem statusRead_eq (s : State) :
    statusRead s = (s, ⟨.ok, 0, [⟨0x11, [enumField causes s.hlc.cause, .u 1 (if s.clk.isSet then 1 else 0),
      .u 1 s.hlc.notices.length, .u 1 (if s.hlc.dropped then 1 else 0), .u 2 (freeSpace s.hlc),
      enumField speeds s.hlc.speed, .u 1 (if s.sup.backup then 1 else 0)]⟩]⟩) := rfl

/-- Settles O11: the two reads leave the part as it is, and RESTART writes the moment alone. -/
theorem linkRequestsAnswer : Obligations.LinkRequestsAnswer := by
  unfold Obligations.LinkRequestsAnswer
  intro tag s takes
  refine ⟨?_, fun kind => ?_, ?_⟩
  · obtain ⟨t, replies, left⟩ := request_answers (i := .status tag) rfl rfl takes (statusRead_eq s)
    exact ⟨t, replies, left.sameBut (.refl _ _), left.raises (raises_of_hlc rfl)⟩
  · obtain ⟨t, replies, left⟩ := request_answers (i := .requestUnknownKind kind tag) rfl rfl takes
      (rfl : unknownKind s = _)
    exact ⟨t, replies, left.sameBut (.refl _ _), left.raises (raises_of_hlc rfl)⟩
  · obtain ⟨t, replies, left⟩ := request_answers (i := .restart tag) rfl rfl takes (rfl : restartArm s = _)
    have awaited : t.hlc.restart = some s.uptime := left.link.restart
    have empty : s.hlc.waiting = [] := by
      simp only [State.takes, Bool.and_eq_true] at takes
      exact List.isEmpty_iff.1 takes.2
    exact ⟨t, replies, left.sameBut (.writeLink (by decide) _ _), awaited, left.link.waiting.trans empty,
      by simp [mayTake, awaited], left.raises (raises_nil rfl)⟩

/-! ## The cold start -/

/-- Writing the cold-start entry into an empty table lists nothing (log entry 3). -/
theorem tableSet_nil_cold {α : Type} [DecidableEq α] (d : α) (i : Nat) : tableSet d [] i d = [] := if_pos rfl

/-- R134: a hose whose nozzle hangs is at its start value, which the table does not list. -/
theorem startHoseNow_of_hung {s : State} (hung : s.sup.nozzles = []) (unlisted : s.fdc.hoses = []) (h : Nat) :
    startHoseNow h s = s := by
  have down : s.nozzle h = false := by rw [State.nozzle, hung]; rfl
  rw [startHoseNow, if_neg (by rw [down]; decide), State.setHose, unlisted, tableSet_nil_cold]
  exact congrArg (fun hoses => { s with fdc := { s.fdc with hoses } }) unlisted.symm

/-- R163, R185: a gate whose contact reads CLOSED is at its start value, which the table does not list. -/
theorem startGateNow_of_shut {s : State} (shut : s.sup.contacts = []) (unlisted : s.gtc.gates = []) (g : Nat) :
    startGateNow g s = s := by
  have closed : s.contact g = false := by rw [State.contact, shut]; rfl
  rw [startGateNow, if_neg (by rw [closed]; decide), State.setGate, unlisted, tableSet_nil_cold]
  exact congrArg (fun gates => { s with gtc := { s.gtc with gates } }) unlisted.symm

theorem startFdc_of_hung {s : State} (hung : s.sup.nozzles = []) :
    startFdc .cold s = { s with fdc := { s.fdc with hoses := [], ready := true } } := by
  have kept := List.foldl_fixed' (f := fun t h => startHoseNow h t)
    (startHoseNow_of_hung (s := { s with fdc := { s.fdc with hoses := [] } }) hung rfl) [1, 2, 3, 4]
  unfold startFdc
  rw [kept]
  rfl

theorem startGtc_of_shut {s : State} (shut : s.sup.contacts = []) :
    startGtc s =
      { s with gtc := { s.gtc with gates := [], terminals := [], fuel := startFuelTerminal, keyEvents := [] } } :=
  List.foldl_fixed' (f := fun t g => startGateNow g t)
    (a := { s with gtc := { s.gtc with gates := [], terminals := [], fuel := startFuelTerminal, keyEvents := [] } })
    (startGateNow_of_shut (by exact shut) rfl) [1, 2, 3, 4, 5, 6]

/-- The reset state before the transmit path begins STARTED, of a part whose volatile and retained fields a cold start has
overwritten: the queue of commands and the readings of the backup supply are its own (R200, R201). -/
def coldState (s : State) : State :=
  { State.reset with
    pending := s.pending
    sup := { State.reset.sup with backupReads := s.sup.backupReads }
    hlc := { State.reset.hlc with
      tx := none, notices := [⟨⟨0, 0⟩, .started .cold .b19200 false ⟨0, 0⟩ true⟩] } }

/-- R200, R201: what a cold start with the straps open leaves of a part with both supplies. -/
theorem start_cold_eq {s : State} (main : s.sup.main = true) (backup : s.sup.backup = true)
    (free : s.sup.resetHeld = false) (hung : s.sup.nozzles = []) (shut : s.sup.contacts = []) (cts : s.sup.hostCts = true) :
    start .cold false false s = coldState s := by
  unfold start
  dsimp only
  rw [startFdc_of_hung (by exact hung), startGtc_of_shut (by exact shut)]
  simp only [if_true, coldRetained, startHlc, startClk, startLine, beginScan, State.setPoll, State.setClk, coldState,
    main, backup, free, hung, shut, cts]
  rfl

/-- Settles O8: the start overwrites every field, and the transmit path begins STARTED. -/
theorem coldStartGivesTheResetState : Obligations.ColdStartGivesTheResetState := by
  unfold Obligations.ColdStartGivesTheResetState
  intro s off lost free hung shut cts
  let supplied : State := { s with sup := { s.sup with main := true, backup := true } }
  have begins : powerOn false false true s = start .cold false false supplied := by
    rw [powerOn, if_neg (by simp [off]), if_neg (by simp [free]), State.powerCause, if_neg (by simp [lost])]
  have started : start .cold false false supplied = coldState s := start_cold_eq rfl rfl free hung shut cts
  show Host.Outcome.next (pump (powerOn false false true s)) = _
  rw [begins, started]
  rfl

end Sys2Proof.Machine
end

section
/-! SUPPORT. The receiver (R186 to R189, R192): what an event that writes it leaves, the frames that it begins and abandons
(O4), a good frame byte by byte (O3), and the requests that wait (O6). -/

namespace Sys2Proof.Machine

/-- R194: every command that travels as a frame has an owner. -/
theorem owner_of_encodeRequest {i : Instr} {r : RawRequest} (sent : encodeRequest i = some r) :
    ∃ o, owner i = some o := by
  cases i with
  | powerOn | powerFail | resetPinAssert | resetPinRelease | restartBegin | restartTimeout | catchUp | fdcStart
  | hostByteReceived | frameGapTimeout | hostCtsChange | transmitFrameDone | rollover | settlementInterval
  | bandBoundary | clockStop | pollSlotEnd | pollReply | holdOffExpiry | tapRunLimit | tapNoFlow | nozzleLift
  | nozzleHang | pulse | authTimeout | noFlow | keyEvent | interKeyTimeout | lockoutExpiry | cardRead
  | cardWindowExpiry | doorContact | releaseTimeout | heldTimeout | exitButton | autoArrive | fuelWindowExpiry
  | selfServeOffer | lampExpiry | keypadFullScan | backupSupplyFail => cases sent
  | _ => exact ⟨_, rfl⟩

/-! ## An event that writes the receiver -/

/-- From one state to another the receiver has come to a state, to bytes and to frames that wait; nothing else but the
transmit path has moved, and no notice and no reply has come or gone. -/
structure Receives (state : RxState) (bytes : List Byte) (waiting : List Frame) (s t : State) : Prop where
  frame : SameBut [.link] s t
  rxState : t.hlc.rxState = state
  rxBytes : t.hlc.rxBytes = bytes
  waiting : t.hlc.waiting = waiting
  restart : t.hlc.restart = s.hlc.restart
  reply : t.reply = s.reply
  outgoing : t.hlc.outgoing = s.hlc.outgoing

/-- The link with its receiver written. -/
def received (state : RxState) (bytes : List Byte) (waiting : List Frame) (h : Hlc) : Hlc :=
  { h with rxState := state, rxBytes := bytes, waiting }

section
variable {state state' : RxState} {bytes bytes' : List Byte} {waiting waiting' : List Frame} {s t u : State}

theorem Receives.trans (h : Receives state bytes waiting s t) (k : Receives state' bytes' waiting' t u) :
    Receives state' bytes' waiting' s u where
  frame := h.frame.trans k.frame
  rxState := k.rxState
  rxBytes := k.rxBytes
  waiting := k.waiting
  restart := k.restart.trans h.restart
  reply := k.reply.trans h.reply
  outgoing := k.outgoing.trans h.outgoing

theorem Receives.running (h : Receives state bytes waiting s t) : t.running = s.running := by
  have supply := h.frame.supply.resolve_left (by decide)
  rw [State.running, supply]
  rfl

/-- An event of a running part that writes the receiver alone. -/
theorem event_receives {f : State → State} (running : s.running = true)
    (writes : f s = s.setHlc (received state bytes waiting s.hlc)) : Receives state bytes waiting s (event f s) := by
  obtain ⟨left, reply⟩ := event_asLeft (f := f) running
  rw [writes] at left reply
  exact
    { frame := left.sameBut (.writeLink (by decide) _ _), rxState := left.link.rxState, rxBytes := left.link.rxBytes
      waiting := left.link.waiting, restart := left.link.restart, reply, outgoing := left.outgoing }

end

/-! ## One byte -/

section
variable {b : Byte} {h k : Hlc} {s : State}

/-- R188, R192: with room in the buffer, a byte after which nothing is to be scanned again. -/
theorem hostByte_of_taken (room : 0 < freeSpace h) (taken : receiveByte b h = (k, [])) : hostByte b false h = k := by
  have rest (fuel : Nat) : receiveAll fuel [] k = k := by cases fuel <;> rfl
  obtain ⟨fuel, enough⟩ : ∃ fuel, (h.rxBytes.length + 2) * (h.rxBytes.length + 2) = fuel + 1 :=
    Nat.exists_eq_succ_of_ne_zero (Nat.mul_pos (Nat.succ_pos _) (Nat.succ_pos _)).ne'
  rw [hostByte, if_neg Bool.false_ne_true, if_neg room.ne', enough, receiveAll, taken]
  exact rest _

/-- R188, R192: a byte that moves the receiver of a running part. -/
theorem hostByteReceived_receives {state : RxState} {bytes : List Byte} {waiting : List Frame} (running : s.running = true)
    (room : 0 < freeSpace s.hlc) (taken : receiveByte b s.hlc = (received state bytes waiting s.hlc, [])) :
    ∃ t, exec (.hostByteReceived b false) s = .next t ∧ Receives state bytes waiting s t :=
  ⟨_, rfl, event_receives running (by rw [hostByte_of_taken room taken])⟩

/-- R186, R189: the frame in reception is abandoned. -/
theorem abandon_receives {i : Instr} (abandons : i = .frameGapTimeout ∨ ∃ b, i = .hostByteReceived b true)
    (running : s.running = true) : ∃ t, exec i s = .next t ∧ Receives .hunt [] s.hlc.waiting s t := by
  rcases abandons with rfl | ⟨b, rfl⟩
  · exact ⟨_, rfl, event_receives running rfl⟩
  · exact ⟨_, rfl, event_receives running rfl⟩

/-- R188, HUNT: a byte that begins no frame is discarded. -/
theorem receiveByte_hunting (hunting : h.rxState = .hunt) :
    receiveByte b h = if b = 0x7B#8 then (received .header [] h.waiting h, []) else (h, []) := by
  rw [receiveByte, hunting]
  rfl

variable {l done : List Byte}

/-- R188, HEADER, but for the fourth byte. -/
theorem receiveByte_inHeader (state : h.rxState = .header) (bytes : h.rxBytes = done) (short : (done ++ [b]).length < 4)
    (fits : (done ++ [b]).length = 2 → beValue ((done ++ [b]).take 2) ≤ 1024) :
    receiveByte b h = (received .header (done ++ [b]) h.waiting h, []) := by
  rw [receiveByte, bytes, state]
  dsimp only
  rw [if_neg fun long => absurd (fits long.1) (Nat.not_le.2 long.2), if_pos short, received, ← state]

/-- R188, HEADER: the fourth byte. -/
theorem receiveByte_endsHeader (state : h.rxState = .header) (bytes : h.rxBytes = done)
    (full : (done ++ [b]).length = 4) :
    receiveByte b h =
      (received (if beValue ((done ++ [b]).take 2) = 0 then .check else .body) (done ++ [b]) h.waiting h, []) := by
  rw [receiveByte, bytes, state]
  dsimp only
  rw [if_neg (by omega), if_neg (by omega), received]

/-- R188, BODY. -/
theorem receiveByte_inBody (state : h.rxState = .body) (bytes : h.rxBytes = done) :
    receiveByte b h =
      (received (if (done ++ [b]).length < 4 + beValue ((done ++ [b]).take 2) then .body else .check) (done ++ [b])
        h.waiting h, []) := by
  rw [receiveByte, bytes, state]
  rfl

/-- R188, CHECK, but for the last byte. -/
theorem receiveByte_inCheck (state : h.rxState = .check) (bytes : h.rxBytes = done)
    (short : (done ++ [b]).length < 6 + beValue ((done ++ [b]).take 2)) :
    receiveByte b h = (received .check (done ++ [b]) h.waiting h, []) := by
  rw [receiveByte, bytes, state]
  dsimp only
  rw [if_pos short, received, ← state]

/-- R188, R189, CHECK: the last byte of a frame whose check sequence agrees. -/
theorem receiveByte_endsCheck {len : Nat} (state : h.rxState = .check) (bytes : h.rxBytes ++ [b] = l)
    (size : beValue (l.take 2) = len) (full : l.length = 6 + len)
    (agrees : crc16 (l.take (4 + len)) = beValue (l.drop (4 + len))) :
    receiveByte b h =
      (received .hunt [] (h.waiting ++ [⟨beValue ((l.drop 2).take 1), beValue ((l.drop 3).take 1),
        (l.take (4 + len)).drop 4⟩]) h, []) := by
  rw [receiveByte, bytes, state]
  dsimp only
  rw [size, if_neg (by omega), if_pos agrees]
  rfl

end

/-- Settles O4: each case writes the receiver alone. -/
theorem receiverBeginsAndAbandonsFrames : Obligations.ReceiverBeginsAndAbandonsFrames := by
  unfold Obligations.ReceiverBeginsAndAbandonsFrames
  refine ⟨fun b s running hunting room => ?_, fun i s abandons running => ?_⟩
  · by_cases sync : b = 0x7B#8
    · obtain ⟨t, runs, r⟩ := hostByteReceived_receives running room ((receiveByte_hunting hunting).trans (if_pos sync))
      exact ⟨t, runs, r.frame, r.waiting, r.reply, r.outgoing, fun _ => ⟨r.rxState, r.rxBytes⟩,
        fun other => absurd sync other⟩
    · obtain ⟨t, runs, r⟩ := hostByteReceived_receives (state := s.hlc.rxState) (bytes := s.hlc.rxBytes)
        (waiting := s.hlc.waiting) running room ((receiveByte_hunting hunting).trans (if_neg sync))
      exact ⟨t, runs, r.frame, r.waiting, r.reply, r.outgoing, fun same => absurd same sync,
        fun _ => ⟨r.rxState.trans hunting, r.rxBytes⟩⟩
  · obtain ⟨t, runs, r⟩ := abandon_receives abandons running
    exact ⟨t, runs, r.frame, r.rxState, r.rxBytes, r.waiting, r.restart, r.reply, r.outgoing⟩

/-! ## Numbers as bytes -/

theorem beBytes_length (size v : Nat) : (beBytes size v).length = size := by
  induction size with
  | zero => rfl
  | succ size ih => rw [beBytes, List.length_cons, ih]

/-- The digits to the base 256, behind those already read. -/
theorem foldl_beBytes (size v a : Nat) :
    (beBytes size v).foldl (fun a b => a * 256 + b.toNat) a = a * 256 ^ size + v % 256 ^ size := by
  induction size generalizing a with
  | zero => rw [beBytes, List.foldl_nil, pow_zero, Nat.mod_one, Nat.mul_one, Nat.add_zero]
  | succ size ih =>
    rw [beBytes, List.foldl_cons, ih, BitVec.toNat_ofNat, Nat.mod_pow_succ (b := 256), pow_succ 256,
      show 2 ^ 8 = 256 from rfl]
    ring

/-- R202: a number is read back from its bytes. -/
theorem beValue_beBytes {size v : Nat} (fits : v < 256 ^ size) : beValue (beBytes size v) = v := by
  rw [beValue, foldl_beBytes, Nat.zero_mul, Nat.zero_add, Nat.mod_eq_of_lt fits]

/-! ## The check sequence -/

theorem crcBit_lt {c : Nat} (h : c < 65536) : crcBit c < 65536 := by
  unfold crcBit
  split
  · omega
  · exact Nat.xor_lt_two_pow (n := 16) (by omega) (by decide)

theorem crcByte_lt {c : Nat} (h : c < 65536) (b : Byte) : crcByte c b < 65536 := by
  have start : c.xor (b.toNat * 256) < 65536 := Nat.xor_lt_two_pow (n := 16) h (by omega)
  exact crcBit_lt (crcBit_lt (crcBit_lt (crcBit_lt (crcBit_lt (crcBit_lt (crcBit_lt (crcBit_lt start)))))))

/-- R189: the check sequence fits its two bytes. -/
theorem crc16_lt (l : List Byte) : crc16 l < 65536 :=
  l.foldlRecOn crcByte (motive := (· < 65536)) (by decide) fun _ h b _ => crcByte_lt h b

/-! ## The bytes of a frame -/

section
variable (kind tag : Nat) (body : List Byte)

/-- The bytes of a frame that its check sequence covers (R187, R189). -/
def coveredBytes : List Byte := beBytes 2 body.length ++ [BitVec.ofNat 8 kind, BitVec.ofNat 8 tag] ++ body

/-- The bytes of a frame after its sync byte (R187). -/
def bytesAfterSync : List Byte := coveredBytes kind tag body ++ beBytes 2 (crc16 (coveredBytes kind tag body))

theorem frameBytes_eq : frameBytes kind tag body = 0x7B#8 :: bytesAfterSync kind tag body := rfl

theorem coveredBytes_length : (coveredBytes kind tag body).length = 4 + body.length := by
  simp only [coveredBytes, List.length_append, beBytes_length, List.length_cons, List.length_nil]

theorem bytesAfterSync_length : (bytesAfterSync kind tag body).length = 6 + body.length := by
  rw [bytesAfterSync, List.length_append, coveredBytes_length, beBytes_length]
  omega

/-- R188: the receiver's state with a number of bytes received after the sync byte, in a frame with a body of a size. -/
def receptionState (size received : Nat) : RxState :=
  if received < 4 then .header else if received < 4 + size then .body else .check

variable {kind tag body} {done rest : List Byte} {b c : Byte} {h : Hlc}

/-- R187: the body's length is known from the first two bytes on. -/
theorem beValue_length (small : body.length ≤ 1024) (split : bytesAfterSync kind tag body = done ++ rest)
    (two : 2 ≤ done.length) : beValue (done.take 2) = body.length := by
  have first : (done ++ rest).take 2 = beBytes 2 body.length := by
    rw [← split, bytesAfterSync, coveredBytes, List.append_assoc, List.append_assoc]
    exact List.take_left' (beBytes_length ..)
  rw [← List.take_append_of_le_length two (l₂ := rest), first]
  exact beValue_beBytes (by omega)

/-- R188: a byte of a frame that is not its last one takes the reception on. -/
theorem receiveByte_within (small : body.length ≤ 1024)
    (split : bytesAfterSync kind tag body = done ++ b :: c :: rest)
    (state : h.rxState = receptionState body.length done.length) (bytes : h.rxBytes = done) :
    receiveByte b h =
      (received (receptionState body.length (done.length + 1)) (done ++ [b]) h.waiting h, []) := by
  have total := congrArg List.length split
  rw [bytesAfterSync_length] at total
  simp only [List.length_append, List.length_cons] at total
  have size (two : 1 ≤ done.length) : beValue ((done ++ [b]).take 2) = body.length :=
    beValue_length (rest := c :: rest) small (by rw [split, List.append_assoc]; rfl)
      (by rw [List.length_append]; exact Nat.succ_le_succ two)
  have count : (done ++ [b]).length = done.length + 1 := List.length_append
  rcases Nat.lt_or_ge done.length 3 with start | started
  · have next : receptionState body.length (done.length + 1) = .header := if_pos (by omega)
    rw [next]
    refine receiveByte_inHeader (state.trans (if_pos (by omega))) bytes (by omega) fun two => ?_
    rw [size (by omega)]
    exact small
  have known := size (by omega)
  rcases Nat.lt_or_ge done.length 4 with fourth | past
  · refine (receiveByte_endsHeader (state.trans (if_pos fourth)) bytes (by omega)).trans ?_
    have next : receptionState body.length (done.length + 1) = if body.length = 0 then .check else .body := by
      rw [receptionState, if_neg (by omega)]
      by_cases empty : body.length = 0
      · rw [if_pos empty, if_neg (by omega)]
      · rw [if_neg empty, if_pos (by omega)]
    rw [known, next]
  rcases Nat.lt_or_ge done.length (4 + body.length) with inBody | read
  · refine (receiveByte_inBody (state.trans ((if_neg (by omega)).trans (if_pos inBody))) bytes).trans ?_
    have next : receptionState body.length (done.length + 1) =
        if done.length + 1 < 4 + body.length then .body else .check := if_neg (by omega)
    rw [known, count, next]
  · have next : receptionState body.length (done.length + 1) = .check :=
      (if_neg (by omega)).trans (if_neg (by omega))
    rw [next]
    exact receiveByte_inCheck (state.trans ((if_neg (by omega)).trans (if_neg (by omega)))) bytes (by omega)

/-- R188, R189: the last byte of a frame puts it behind those that wait, and the receiver hunts again. -/
theorem receiveByte_last (kindFits : kind < 256) (tagFits : tag < 256) (small : body.length ≤ 1024)
    (split : bytesAfterSync kind tag body = done ++ [b])
    (state : h.rxState = receptionState body.length done.length) (bytes : h.rxBytes = done) :
    receiveByte b h = (received .hunt [] (h.waiting ++ [⟨kind, tag, body⟩]) h, []) := by
  have total : 6 + body.length = done.length + 1 := by
    rw [← bytesAfterSync_length kind tag body, split, List.length_append]
    rfl
  have check : h.rxState = .check := by
    rw [state, receptionState, if_neg (by omega), if_neg (by omega)]
  have size : beValue ((bytesAfterSync kind tag body).take 2) = body.length :=
    beValue_length (rest := []) small (List.append_nil _).symm (by rw [bytesAfterSync_length]; omega)
  have covered : (bytesAfterSync kind tag body).take (4 + body.length) = coveredBytes kind tag body :=
    List.take_left' (coveredBytes_length ..)
  have sequence : (bytesAfterSync kind tag body).drop (4 + body.length) =
      beBytes 2 (crc16 (coveredBytes kind tag body)) := List.drop_left' (coveredBytes_length ..)
  have byte {v : Nat} (fits : v < 256) : beValue [BitVec.ofNat 8 v] = v := by
    simp [beValue, Nat.mod_eq_of_lt fits]
  have kindByte : ((bytesAfterSync kind tag body).drop 2).take 1 = [BitVec.ofNat 8 kind] := rfl
  have tagByte : ((bytesAfterSync kind tag body).drop 3).take 1 = [BitVec.ofNat 8 tag] := rfl
  have content : (coveredBytes kind tag body).drop 4 = body := rfl
  have agrees := (beValue_beBytes (size := 2) (crc16_lt (coveredBytes kind tag body))).symm
  rw [receiveByte_endsCheck check (by rw [bytes, split]) size (bytesAfterSync_length ..)
      (by rw [covered, sequence]; exact agrees), covered, kindByte, tagByte, content, byte kindFits, byte tagFits]

/-! ## The frame byte by byte -/

variable {s t : State}

/-- R192: while a frame that had room is received, its next byte has room. -/
theorem freeSpace_within (hunting : s.hlc.rxState = .hunt)
    (room : 7 + body.length ≤ freeSpace s.hlc) (inFrame : done.length < 6 + body.length)
    (r : Receives (receptionState body.length done.length) done s.hlc.waiting s t) : 0 < freeSpace t.hlc := by
  have bytes : receptionSize t.hlc ≤ done.length + 1 := by
    unfold receptionSize
    rw [r.rxBytes]
    split <;> omega
  have none : receptionSize s.hlc = 0 := if_pos hunting
  unfold freeSpace at room ⊢
  rw [none] at room
  rw [r.waiting]
  omega

/-- R188, R189: from within a frame, the bytes that remain complete it. -/
theorem runAll_completes (kindFits : kind < 256) (tagFits : tag < 256) (small : body.length ≤ 1024)
    (running : s.running = true) (hunting : s.hlc.rxState = .hunt) (room : 7 + body.length ≤ freeSpace s.hlc)
    (split : bytesAfterSync kind tag body = done ++ b :: rest)
    (r : Receives (receptionState body.length done.length) done s.hlc.waiting s t) :
    Receives .hunt [] (s.hlc.waiting ++ [⟨kind, tag, body⟩]) s
      (runAll ((b :: rest).map fun b => .hostByteReceived b false) t) := by
  induction rest generalizing done b t with
  | nil =>
    have total := congrArg List.length split
    rw [bytesAfterSync_length, List.length_append, List.length_singleton] at total
    obtain ⟨u, runs, last⟩ := hostByteReceived_receives (r.running.trans running) (freeSpace_within hunting room (by omega) r)
      (receiveByte_last kindFits tagFits small split r.rxState r.rxBytes)
    rw [r.waiting] at last
    rw [List.map_singleton, runAll, runs]
    exact r.trans last
  | cons c rest ih =>
    have total := congrArg List.length split
    rw [bytesAfterSync_length, List.length_append, List.length_cons] at total
    obtain ⟨u, runs, next⟩ := hostByteReceived_receives (r.running.trans running) (freeSpace_within hunting room (by omega) r)
      (receiveByte_within small split r.rxState r.rxBytes)
    rw [r.waiting] at next
    have grown : Receives (receptionState body.length (done ++ [b]).length) (done ++ [b]) s.hlc.waiting s u := by
      rw [List.length_append]
      exact r.trans next
    rw [List.map_cons, runAll, runs]
    exact ih (by rw [split, List.append_assoc]; rfl) grown

end

/-- Settles O3: the sync byte begins the frame, and the bytes after it complete it. -/
theorem goodFrameJoinsTheReceiveBuffer : Obligations.GoodFrameJoinsTheReceiveBuffer := by
  unfold Obligations.GoodFrameJoinsTheReceiveBuffer
  intro kind tag body s kindFits tagFits small running hunting _ room t
  obtain ⟨u, runs, begun⟩ := hostByteReceived_receives running (by omega) ((receiveByte_hunting hunting).trans (if_pos rfl))
  obtain ⟨b, rest, split⟩ := List.exists_cons_of_length_pos (l := bytesAfterSync kind tag body)
    (by rw [bytesAfterSync_length]; omega)
  have r := runAll_completes (done := []) kindFits tagFits small running hunting room split begun
  have all : t = runAll ((b :: rest).map fun b => .hostByteReceived b false) u := by
    show runAll ((frameBytes kind tag body).map _) s = _
    rw [frameBytes_eq, List.map_cons, runAll, runs, split]
  rw [all]
  exact ⟨r.rxState, r.rxBytes, r.waiting, r.reply, r.outgoing, r.frame⟩

/-! ## A request that waits -/

/-- Settles O6: the frame joins the others, and nothing else of the receiver is written. -/
theorem requestWaitsForTheSlot : Obligations.RequestWaitsForTheSlot := by
  unfold Obligations.RequestWaitsForTheSlot
  intro i r s sent running taken room
  obtain ⟨o, owned⟩ := owner_of_encodeRequest sent
  let f : Frame := ⟨r.kind, r.tag, itemBytes r.items⟩
  have waits : exec i s = .next (event (joinWaiting f) s) := by
    rw [exec_of_owner owned, request, sent]
    simp only [event, taken, Bool.false_and, Bool.false_eq_true, if_false]
    rfl
  have w := event_receives (f := joinWaiting f) (state := s.hlc.rxState) (bytes := s.hlc.rxBytes)
    (waiting := s.hlc.waiting ++ [f]) running (if_pos room)
  exact ⟨_, waits, w.frame, w.rxState, w.rxBytes, w.waiting, w.reply, w.restart, w.outgoing⟩

end Sys2Proof.Machine
end

section
/-! SUPPORT. The fields, the items and the bodies of requests on the line (R190, R202 to R204): each is read back as it was
sent. -/

namespace Sys2Proof.Machine

/-! ## Fields -/

/-- The bytes a field takes (R202). -/
def fieldSize : Field → Nat
  | .u size _ => size
  | .i size _ => size

/-- The unsigned number that a field's bytes spell (R202, R203). -/
def fieldCode : Field → Nat
  | .u _ v => v
  | .i size v => toTwos size v

/-- The number that a field sends fits its bytes (R202). -/
def FieldFits (x : Field) : Prop := fieldCode x < 256 ^ fieldSize x

theorem fieldBytes_eq (x : Field) : x.bytes = beBytes (fieldSize x) (fieldCode x) := by cases x <;> rfl

theorem toTwos_lt (size : Nat) (v : Int) : toTwos size v < 256 ^ size := by
  have positive : (0 : Int) < ((256 ^ size : Nat) : Int) := by exact_mod_cast Nat.pow_pos (by decide)
  have below := Int.emod_lt_of_pos v positive
  have above := Int.emod_nonneg v positive.ne'
  unfold toTwos
  omega

/-- R202, R203: a signed number that its field can carry is read back from its two's complement. -/
theorem ofTwos_toTwos {size : Nat} {v : Int} (fits : fitsSigned size v = true) : ofTwos size (toTwos size v) = v := by
  simp only [fitsSigned, Bool.and_eq_true, decide_eq_true_eq] at fits
  obtain ⟨low, high⟩ := fits
  unfold ofTwos toTwos
  generalize 256 ^ size = m at low high ⊢
  rcases lt_or_ge v 0 with negative | positive
  · have wrapped : v % (m : Int) = v + m := by
      rw [← Int.add_emod_right, Int.emod_eq_of_lt (by omega) (by omega)]
    rw [wrapped, if_neg (by omega)]
    omega
  · rw [Int.emod_eq_of_lt positive (by omega), if_pos (by omega)]
    omega

/-- Contents read as fields of the sizes they were sent in give the numbers that were sent. -/
theorem splitSizes_fieldBytes {l : List Field} (fits : ∀ x ∈ l, FieldFits x) :
    splitSizes (l.map fieldSize) (fieldBytes l) = some (l.map fieldCode) := by
  induction l with
  | nil => rfl
  | cons x rest ih =>
    obtain ⟨first, others⟩ := List.forall_mem_cons.1 fits
    have bytes : fieldBytes (x :: rest) = beBytes (fieldSize x) (fieldCode x) ++ fieldBytes rest := by
      rw [fieldBytes, List.flatMap_cons, fieldBytes_eq]
      rfl
    have long : ¬(fieldBytes (x :: rest)).length < fieldSize x := by
      rw [bytes, List.length_append, beBytes_length]
      omega
    rw [List.map_cons, splitSizes, if_neg long, bytes, List.drop_left' (beBytes_length ..),
      List.take_left' (beBytes_length ..), beValue_beBytes first, ih others]
    rfl

theorem fieldBytes_length (l : List Field) : (fieldBytes l).length = (l.map fieldSize).sum := by
  induction l with
  | nil => rfl
  | cons x rest ih =>
    rw [fieldBytes, List.flatMap_cons, List.length_append, fieldBytes_eq, beBytes_length, List.map_cons,
      List.sum_cons, ← ih]
    rfl

theorem fits_iff_lt {size v : Nat} : fits size v = true ↔ v < 256 ^ size := decide_eq_true_iff

theorem fieldFits_u {size v : Nat} : FieldFits (.u size v) ↔ v < 256 ^ size := Iff.rfl

theorem fieldFits_i (size : Nat) (v : Int) : FieldFits (.i size v) := toTwos_lt size v

/-- An optional number that fits its field when present fits it when absent too (R203). -/
theorem getD_lt_of_optFits {size : Nat} {v : Option Nat} (h : optFits size v = true) : v.getD 0 < 256 ^ size := by
  cases v with
  | none => exact Nat.pow_pos (by decide)
  | some n => exact fits_iff_lt.1 h

/-! ## Flags and presence fields -/

theorem flagBit_eq (b : Bool) (k : Nat) : flagBit b k = b.toNat * 2 ^ k := by
  cases b
  · exact (Nat.zero_mul _).symm
  · exact (Nat.one_mul _).symm

theorem bitField_cons (b : Bool) (rest : List Bool) : bitField (b :: rest) = b.toNat + 2 * bitField rest := by
  cases b <;> rfl

theorem bitField_nil : bitField [] = 0 := rfl

theorem bitField_lt (l : List Bool) : bitField l < 2 ^ l.length := by
  induction l with
  | nil => decide
  | cons b rest ih =>
    have bit := b.toNat_le
    rw [bitField_cons, List.length_cons, pow_succ]
    omega

/-- R203: bit k of a flags or presence field is the k-th flag. -/
theorem testBit_bitField (l : List Bool) (k : Nat) : (bitField l).testBit k = l.getD k false := by
  induction l generalizing k with
  | nil => exact Nat.zero_testBit k
  | cons b rest ih =>
    rw [bitField_cons]
    cases k with
    | zero => cases b <;> simp [Nat.testBit_zero, Nat.add_mod]
    | succ k =>
      have half : (b.toNat + 2 * bitField rest) / 2 = bitField rest := by
        have bit := b.toNat_le
        omega
      rw [Nat.testBit_succ, half, ih]
      rfl

/-- An optional field is read back as it was sent: by its presence bit, and when present by its value (R203). -/
theorem optional_eq {α : Type} {presence k : Nat} {v : α} {x : Option α} (bit : presence.testBit k = x.isSome)
    (value : ∀ a, x = some a → v = a) : optional presence k v = x := by
  rw [optional, bit]
  cases x with
  | none => rfl
  | some a => exact congrArg some (value a rfl)

/-- An optional number is read back as it was sent. -/
theorem optional_getD {presence k : Nat} {x : Option Nat} (bit : presence.testBit k = x.isSome) :
    optional presence k (x.getD 0) = x := optional_eq bit fun _ h => by rw [h]; rfl

/-- An optional value that its bytes spell is read back as it was sent. -/
theorem optional_decoded {α : Type} {presence k : Nat} {x : Option α} {code : α → Nat} {value : Nat → α}
    (bit : presence.testBit k = x.isSome) (read : ∀ a, x = some a → value (code a) = a) :
    optional presence k (value ((x.map code).getD 0)) = x := optional_eq bit fun a h => by rw [h]; exact read a h

/-! ## Times and PINs -/

/-- R202: a time is read back from its five bytes. -/
theorem stampOf_stampValue {t : Stamp} (h : stampFits t = true) : stampOf (stampValue t) = t := by
  obtain ⟨day, sec⟩ := t
  simp only [stampFits, Bool.and_eq_true, fits_iff_lt] at h
  simp only [stampOf, stampValue, Stamp.mk.injEq]
  omega

theorem stampValue_lt {t : Stamp} (h : stampFits t = true) : stampValue t < 256 ^ 5 := by
  simp only [stampFits, Bool.and_eq_true, fits_iff_lt] at h
  unfold stampValue
  omega

/-- Half bytes in their order, behind those already packed. -/
def packDigits (start : Nat) (l : List Nat) : Nat := l.foldl (fun a d => a * 16 + d) start

theorem packDigits_eq (start : Nat) (l : List Nat) : packDigits start l = start * 16 ^ l.length + packDigits 0 l := by
  induction l generalizing start with
  | nil => simp [packDigits]
  | cons d rest ih =>
    have step (a : Nat) : packDigits a (d :: rest) = packDigits (a * 16 + d) rest := rfl
    rw [step, step, ih, ih (0 * 16 + d), List.length_cons, pow_succ]
    ring

theorem packDigits_lt {l : List Nat} (digits : ∀ d ∈ l, d < 16) : packDigits 0 l < 16 ^ l.length := by
  induction l with
  | nil => decide
  | cons d rest ih =>
    obtain ⟨first, others⟩ := List.forall_mem_cons.1 digits
    have step : packDigits 0 (d :: rest) = packDigits (0 * 16 + d) rest := rfl
    have room : d * 16 ^ rest.length ≤ 15 * 16 ^ rest.length := Nat.mul_le_mul_right _ (by omega)
    have tail := ih others
    rw [step, packDigits_eq, Nat.zero_mul, Nat.zero_add, List.length_cons, pow_succ]
    omega

/-- The half bytes of packed digits are the digits, whatever stands before them. -/
theorem map_packDigits (start : Nat) {l : List Nat} (digits : ∀ d ∈ l, d < 16) :
    ((List.range l.length).map fun k => packDigits start l / 16 ^ (l.length - 1 - k) % 16) = l := by
  induction l generalizing start with
  | nil => rfl
  | cons d rest ih =>
    obtain ⟨first, others⟩ := List.forall_mem_cons.1 digits
    have step : packDigits start (d :: rest) = packDigits (start * 16 + d) rest := rfl
    have head : packDigits (start * 16 + d) rest / 16 ^ rest.length % 16 = d := by
      rw [packDigits_eq, Nat.mul_comm, Nat.mul_add_div (Nat.pow_pos (by decide)),
        Nat.div_eq_of_lt (packDigits_lt others)]
      omega
    rw [step, List.length_cons, List.range_succ_eq_map, List.map_cons, List.map_map]
    refine congrArg₂ List.cons head ((List.map_congr_left fun k _ => ?_).trans (ih (start * 16 + d) others))
    show _ / 16 ^ (rest.length + 1 - 1 - (k + 1)) % 16 = _
    rw [Nat.add_sub_cancel, Nat.sub_sub, Nat.add_comm 1 k]

/-- The eight half bytes that carry a PIN's digits (R202). -/
def paddedPin (p : List Nat) : List Nat := (p ++ List.replicate 8 0).take 8

theorem paddedPin_length (p : List Nat) : (paddedPin p).length = 8 := by
  simp [paddedPin]

theorem paddedPin_digits {p : List Nat} (digits : ∀ d ∈ p, d < 16) : ∀ d ∈ paddedPin p, d < 16 := by
  intro d listed
  rcases List.mem_append.1 (List.mem_of_mem_take listed) with own | zero
  · exact digits d own
  · rw [(List.mem_replicate.1 zero).2]
    decide

theorem pinFits_iff {p : List Nat} : pinFits p = true ↔ p.length ≤ 8 ∧ ∀ d ∈ p, d < 16 := by
  simp [pinFits]

theorem pinValue_eq (p : List Nat) : pinValue p = packDigits p.length (paddedPin p) := by
  rw [packDigits_eq, paddedPin_length]
  rfl

theorem pinValue_lt {p : List Nat} (h : pinFits p = true) : pinValue p < 256 ^ 5 := by
  obtain ⟨short, digits⟩ := pinFits_iff.1 h
  have packed := packDigits_lt (paddedPin_digits digits)
  rw [paddedPin_length] at packed
  rw [pinValue_eq, packDigits_eq, paddedPin_length]
  omega

/-- R202: a PIN is read back from its count and its packed digits. -/
theorem pinOf_pinValue {p : List Nat} (h : pinFits p = true) : pinOf (pinValue p) = p := by
  obtain ⟨short, digits⟩ := pinFits_iff.1 h
  have packed := packDigits_lt (paddedPin_digits digits)
  have halves := map_packDigits p.length (paddedPin_digits digits)
  rw [paddedPin_length] at packed halves
  have count : pinValue p / 4294967296 = p.length := by
    rw [pinValue_eq, packDigits_eq, paddedPin_length]
    omega
  have padded : pinHalves (pinValue p) = paddedPin p := by
    rw [pinValue_eq]
    exact halves
  rw [pinOf, count, padded, List.take_append_of_le_length (by rw [paddedPin_length]; exact short), paddedPin,
    List.take_take, Nat.min_eq_left short, List.take_left']
  rfl

/-! ## Items -/

/-- An item that leaves the more-follows flag free, and of a size of which a body holds as many items as it may have (R190,
R204). -/
structure Carried (x : RawItem) : Prop where
  code : x.code < 128
  size : x.contents.length ≤ 61

/-- R204: an item's head: its code, with the more-follows flag or without, and its contents' size. -/
theorem splitItems_head {room head size : Nat} {rest : List Byte} (code : head < 256) (small : size < 65536) :
    splitItems (room + 1) (BitVec.ofNat 8 head :: beBytes 2 size ++ rest) =
      if rest.length < size then none
      else if head ≥ 128 then (splitItems room (rest.drop size)).map (⟨head % 128, rest.take size⟩ :: ·)
      else if rest.drop size = [] then some [⟨head % 128, rest.take size⟩]
      else none := by
  have length : (BitVec.ofNat 8 (size / 256 ^ 1)).toNat * 256 + (BitVec.ofNat 8 (size / 256 ^ 0)).toNat = size := by
    simp only [BitVec.toNat_ofNat]
    omega
  have byte : (BitVec.ofNat 8 head).toNat = head := by
    rw [BitVec.toNat_ofNat]
    omega
  show splitItems (room + 1) (BitVec.ofNat 8 head :: BitVec.ofNat 8 (size / 256 ^ 1) ::
    BitVec.ofNat 8 (size / 256 ^ 0) :: rest) = _
  rw [splitItems, length, byte]

theorem itemBytes_ne_nil (x : RawItem) (rest : List RawItem) : itemBytes (x :: rest) ≠ [] := by
  cases rest <;> exact List.cons_ne_nil _ _

/-- R190: the items of a body that is not empty are read back from its bytes. -/
theorem splitItems_itemBytes {room : Nat} {x : RawItem} {rest : List RawItem} (few : rest.length < room)
    (carried : ∀ y ∈ x :: rest, Carried y) : splitItems room (itemBytes (x :: rest)) = some (x :: rest) := by
  induction rest generalizing room x with
  | nil =>
    obtain ⟨code, size⟩ := carried x (List.mem_singleton.2 rfl)
    obtain ⟨room, rfl⟩ := Nat.exists_eq_add_of_lt few
    rw [itemBytes, splitItems_head (by omega) (by omega), if_neg (lt_irrefl _), if_neg (by omega), List.drop_length,
      if_pos rfl, List.take_length, Nat.mod_eq_of_lt code]
  | cons y rest ih =>
    obtain ⟨⟨code, size⟩, others⟩ := List.forall_mem_cons.1 carried
    obtain ⟨room, rfl⟩ : ∃ n, room = n + 1 := ⟨room - 1, by rw [List.length_cons] at few; omega⟩
    have long : ¬(x.contents ++ itemBytes (y :: rest)).length < x.contents.length := by
      rw [List.length_append]
      omega
    have head : (x.code + 128) % 128 = x.code := by omega
    rw [itemBytes, List.append_assoc, splitItems_head (by omega) (by omega), if_neg long, if_pos (by omega),
      List.drop_left' rfl, List.take_left' rfl, head, ih (by rw [List.length_cons] at few; omega) others]
    rfl

theorem bodyItems_itemBytes {l : List RawItem} (few : l.length ≤ 16) (carried : ∀ x ∈ l, Carried x) :
    bodyItems (itemBytes l) = some l := by
  cases l with
  | nil => rfl
  | cons x rest =>
    rw [bodyItems, if_neg (itemBytes_ne_nil x rest)]
    exact splitItems_itemBytes (by rw [List.length_cons] at few; omega) carried

theorem itemBytes_length_le {l : List RawItem} (carried : ∀ x ∈ l, Carried x) :
    (itemBytes l).length ≤ 64 * l.length := by
  induction l with
  | nil => exact Nat.zero_le _
  | cons x rest ih =>
    obtain ⟨⟨-, size⟩, others⟩ := List.forall_mem_cons.1 carried
    have tail := ih others
    have own : (beBytes 2 x.contents.length).length = 2 := beBytes_length ..
    cases rest with
    | nil =>
      simp only [itemBytes, List.length_append, List.length_cons, List.length_nil, own]
      omega
    | cons y rest =>
      simp only [itemBytes, List.length_append, List.length_cons, own] at tail ⊢
      omega

end Sys2Proof.Machine
end

section
/-! SUPPORT. The rows of the multi-row puts on the line (R191, R198, R209): each row item is read back as it was sent. -/

namespace Sys2Proof.Machine

/-- The fields of an item fit their bytes, and the item is of a size of which a body holds sixteen. -/
structure FieldsFit (l : List Field) : Prop where
  fits : ∀ x ∈ l, FieldFits x
  size : (l.map fieldSize).sum ≤ 61

theorem FieldsFit.read {l : List Field} (h : FieldsFit l) :
    splitSizes (l.map fieldSize) (fieldBytes l) = some (l.map fieldCode) := splitSizes_fieldBytes h.fits

theorem FieldsFit.carried {l : List Field} (h : FieldsFit l) {code : Nat} (low : code < 128) :
    Carried ⟨code, fieldBytes l⟩ := ⟨low, (fieldBytes_length l).trans_le h.size⟩

theorem forall_of_map_getD {α : Type} {p : α → Bool} {x : Option α} (h : (x.map p).getD true = true) :
    ∀ a, x = some a → p a = true := by
  rintro a rfl
  exact h

/-- An optional value whose code fits its field when present fits it when absent too (R203). -/
theorem map_getD_lt {α : Type} {size : Nat} {x : Option α} {code : α → Nat} (h : ∀ a, x = some a → code a < 256 ^ size) :
    (x.map code).getD 0 < 256 ^ size := by
  cases x with
  | none => exact Nat.pow_pos (by decide)
  | some a => exact h a rfl

/-! ## One flag -/

theorem flagBit_lt_two (b : Bool) : flagBit b 0 < 2 := by cases b <;> decide

theorem flagBit_fits (b : Bool) : FieldFits (.u 1 (flagBit b 0)) :=
  Nat.lt_trans (flagBit_lt_two b) (show 2 < 256 ^ 1 by decide)

theorem testBit_flagBit (b : Bool) : (flagBit b 0).testBit 0 = b := by cases b <;> rfl

/-! ## The rows -/

/-- A row's fields fit their item, and the row is read back from it. -/
structure RowReads {α : Type} (row : List Byte → Option α) (fields : α → List Field) (r : α) : Prop where
  fit : FieldsFit (fields r)
  back : row (fieldBytes (fields r)) = some r

/-- A row is read back when it is from the numbers of its fields. -/
theorem RowReads.of_fields {α : Type} {row : List Byte → Option α} {fields : α → List Field} {r : α}
    (fits : ∀ x ∈ fields r, FieldFits x) (size : ((fields r).map fieldSize).sum ≤ 61)
    (back : splitSizes ((fields r).map fieldSize) (fieldBytes (fields r)) = some ((fields r).map fieldCode) →
      row (fieldBytes (fields r)) = some r) : RowReads row fields r :=
  have fit : FieldsFit (fields r) := ⟨fits, size⟩
  ⟨fit, back fit.read⟩

theorem berthRow_reads {r : BerthRow} (h : r.wf = true) : RowReads berthRowOf berthRowFields r := by
  simp only [BerthRow.wf, Bool.and_eq_true, fits_iff_lt] at h
  obtain ⟨⟨⟨⟨⟨⟨pontoon, cls⟩, state⟩, maxLoa⟩, maxBeam⟩, depth⟩, fee⟩ := h
  refine .of_fields ?_ (Nat.le_of_ble_eq_true rfl) fun read => ?_
  · simp only [berthRowFields, List.forall_mem_cons]
    exact ⟨pontoon, cls, flagBit_fits _, state, maxLoa, maxBeam, depth, fee, nofun⟩
  · rw [berthRowOf, show splitSizes [1, 1, 1, 1, 2, 2, 2, 4] _ = _ from read]
    dsimp only [berthRowFields, List.map, fieldCode]
    rw [if_pos (flagBit_lt_two _), testBit_flagBit]

theorem tideRow_reads {r : TideRow} (h : r.wf = true) : RowReads tideRowOf tideRowFields r := by
  simp only [TideRow.wf, Bool.and_eq_true, fits_iff_lt] at h
  obtain ⟨day, height⟩ := h
  refine .of_fields ?_ (Nat.le_of_ble_eq_true rfl) fun read => ?_
  · simp only [tideRowFields, List.forall_mem_cons]
    exact ⟨day, flagBit_fits _, fieldFits_i .., nofun⟩
  · have value (a : Int) (present : r.height = some a) : ofTwos 2 (toTwos 2 (r.height.getD 0)) = a := by
      rw [present]
      exact ofTwos_toTwos (forall_of_map_getD height a present)
    rw [tideRowOf, show splitSizes [2, 1, 2] _ = _ from read]
    dsimp only [tideRowFields, List.map, fieldCode]
    rw [if_pos (flagBit_lt_two _), optional_eq (testBit_flagBit _) value]

theorem tariffRow_reads {r : TariffRow} (h : r.wf = true) : RowReads tariffRowOf tariffRowFields r := by
  simp only [TariffRow.wf, Bool.and_eq_true, fits_iff_lt] at h
  obtain ⟨⟨dayRate, nightRate⟩, waterRate⟩ := h
  refine .of_fields ?_ (Nat.le_of_ble_eq_true rfl) fun read => ?_
  · simp only [tariffRowFields, List.forall_mem_cons]
    exact ⟨dayRate, nightRate, waterRate, nofun⟩
  · rw [tariffRowOf, show splitSizes [2, 2, 2] _ = _ from read]
    rfl

theorem pedestalRow_reads {r : PedestalRow} (h : r.wf = true) : RowReads pedestalRowOf pedestalRowFields r := by
  simp only [PedestalRow.wf, fits_iff_lt] at h
  refine .of_fields ?_ (Nat.le_of_ble_eq_true rfl) fun read => ?_
  · simp only [pedestalRowFields, List.forall_mem_cons]
    exact ⟨flagBit_fits _, h, nofun⟩
  · rw [pedestalRowOf, show splitSizes [1, 1] _ = _ from read]
    dsimp only [pedestalRowFields, List.map, fieldCode]
    rw [if_pos (flagBit_lt_two _), testBit_flagBit]

theorem socketRow_reads {r : SocketRow} (h : r.wf = true) : RowReads socketRowOf socketRowFields r := by
  simp only [SocketRow.wf, Bool.and_eq_true, fits_iff_lt] at h
  obtain ⟨⟨⟨berth, rating⟩, cls⟩, tariff⟩ := h
  refine .of_fields ?_ (Nat.le_of_ble_eq_true rfl) fun read => ?_
  · simp only [socketRowFields, List.forall_mem_cons]
    exact ⟨flagBit_fits _, getD_lt_of_optFits berth, rating, cls, tariff, nofun⟩
  · rw [socketRowOf, show splitSizes [1, 1, 1, 1, 1] _ = _ from read]
    dsimp only [socketRowFields, List.map, fieldCode]
    rw [if_pos (flagBit_lt_two _), optional_getD (testBit_flagBit _)]

theorem tapRow_reads {r : TapRow} (h : r.wf = true) : RowReads tapRowOf tapRowFields r := by
  simp only [TapRow.wf, Bool.and_eq_true, fits_iff_lt] at h
  obtain ⟨⟨berth, tariff⟩, runLimit⟩ := h
  refine .of_fields ?_ (Nat.le_of_ble_eq_true rfl) fun read => ?_
  · simp only [tapRowFields, List.forall_mem_cons]
    exact ⟨flagBit_fits _, getD_lt_of_optFits berth, tariff, runLimit, nofun⟩
  · rw [tapRowOf, show splitSizes [1, 1, 1, 1] _ = _ from read]
    dsimp only [tapRowFields, List.map, fieldCode]
    rw [if_pos (flagBit_lt_two _), optional_getD (testBit_flagBit _)]

theorem feederRow_reads {r : FeederRow} (h : r.wf = true) : RowReads feederRowOf feederRowFields r := by
  simp only [FeederRow.wf, Bool.and_eq_true, fits_iff_lt] at h
  obtain ⟨⟨⟨⟨⟨limit, diversity⟩, tripCount⟩, bypassLimit⟩, retry⟩, holdOff⟩ := h
  refine .of_fields ?_ (Nat.le_of_ble_eq_true rfl) fun read => ?_
  · simp only [feederRowFields, List.forall_mem_cons]
    exact ⟨limit, diversity, tripCount, bypassLimit, retry, holdOff, nofun⟩
  · rw [feederRowOf, show splitSizes [2, 1, 1, 1, 1, 1] _ = _ from read]
    rfl

theorem hoseRow_reads {r : HoseRow} (h : r.wf = true) : RowReads hoseRowOf hoseRowFields r := by
  simp only [HoseRow.wf, Bool.and_eq_true, fits_iff_lt] at h
  obtain ⟨⟨⟨⟨⟨grade, p10⟩, slowDown⟩, authTimeout⟩, noFlowTimeout⟩, volumeCap⟩ := h
  refine .of_fields ?_ (Nat.le_of_ble_eq_true rfl) fun read => ?_
  · simp only [hoseRowFields, List.forall_mem_cons]
    exact ⟨grade, p10, slowDown, authTimeout, noFlowTimeout, volumeCap, nofun⟩
  · rw [hoseRowOf, show splitSizes [1, 2, 4, 2, 2, 4] _ = _ from read]
    rfl

theorem priceRow_reads {price : Nat} (h : fits 4 price = true) : RowReads priceRowOf (fun p => [.u 4 p]) price := by
  refine .of_fields ?_ (Nat.le_of_ble_eq_true rfl) fun read => ?_
  · simp only [List.forall_mem_cons]
    exact ⟨fits_iff_lt.1 h, nofun⟩
  · rw [priceRowOf, show splitSizes [4] _ = _ from read]
    rfl

theorem gateRow_reads {r : GateRow} (h : r.wf = true) : RowReads gateRowOf gateRowFields r := by
  simp only [GateRow.wf, Bool.and_eq_true, fits_iff_lt] at h
  obtain ⟨⟨⟨pontoon, antiPassback⟩, releaseTime⟩, heldTime⟩ := h
  refine .of_fields ?_ (Nat.le_of_ble_eq_true rfl) fun read => ?_
  · simp only [gateRowFields, List.forall_mem_cons]
    exact ⟨pontoon, antiPassback, flagBit_fits _, releaseTime, heldTime, nofun⟩
  · rw [gateRowOf, show splitSizes [1, 1, 1, 1, 2] _ = _ from read]
    dsimp only [gateRowFields, List.map, fieldCode]
    rw [if_pos (flagBit_lt_two _), testBit_flagBit]

theorem siteItem_reads {r : SiteItem} (h : r.wf = true) : RowReads siteItemOf siteItemFields r := by
  simp only [SiteItem.wf, Bool.and_eq_true, within_iff] at h
  obtain ⟨⟨-, param⟩, value⟩ := h
  refine .of_fields ?_ (Nat.le_of_ble_eq_true rfl) fun read => ?_
  · simp only [siteItemFields, List.forall_mem_cons]
    exact ⟨fieldFits_u.2 (by omega), fieldFits_i .., nofun⟩
  · rw [siteItemOf, show splitSizes [1, 4] _ = _ from read]
    dsimp only [siteItemFields, List.map, fieldCode]
    rw [if_pos param, ofTwos_toTwos value]

/-- The presence field of a credential's row (R203, R209). -/
theorem credPresence_eq (r : CredRow) :
    flagBit r.token.isSome 0 + flagBit r.pin.isSome 1 + flagBit r.booking.isSome 2 + flagBit r.account.isSome 3 +
        flagBit r.validFrom.isSome 4 + flagBit r.validUntil.isSome 5 + flagBit r.location.isSome 6 =
      bitField [r.token.isSome, r.pin.isSome, r.booking.isSome, r.account.isSome, r.validFrom.isSome,
        r.validUntil.isSome, r.location.isSome] := by
  simp only [flagBit_eq, bitField_cons, bitField_nil]
  omega

theorem credFlags_eq (r : CredRow) :
    flagBit r.berthGates 0 + flagBit r.fuel 1 + flagBit r.autoArrive 2 =
      bitField [r.berthGates, r.fuel, r.autoArrive] := by
  simp only [flagBit_eq, bitField_cons, bitField_nil]
  omega

theorem credRow_reads {r : CredRow} (h : r.wf = true) : RowReads credRowOf credRowFields r := by
  simp only [CredRow.wf, Bool.and_eq_true, fits_iff_lt] at h
  obtain ⟨⟨⟨⟨⟨⟨⟨⟨⟨state, kind⟩, token⟩, pin⟩, booking⟩, account⟩, gateSet⟩, validFrom⟩, validUntil⟩, location⟩ := h
  have pin := forall_of_map_getD pin
  have validFrom := forall_of_map_getD validFrom
  have validUntil := forall_of_map_getD validUntil
  have presence : bitField [r.token.isSome, r.pin.isSome, r.booking.isSome, r.account.isSome, r.validFrom.isSome,
    r.validUntil.isSome, r.location.isSome] < 128 := bitField_lt _
  have flags : bitField [r.berthGates, r.fuel, r.autoArrive] < 8 := bitField_lt _
  refine .of_fields ?_ (Nat.le_of_ble_eq_true rfl) fun read => ?_
  · simp only [credRowFields, List.forall_mem_cons, credPresence_eq, credFlags_eq]
    exact ⟨Nat.lt_trans presence (show 128 < 256 ^ 2 by decide), state, kind, getD_lt_of_optFits token,
      map_getD_lt fun p h => pinValue_lt (pin p h), getD_lt_of_optFits booking,
      Nat.lt_trans flags (show 8 < 256 ^ 1 by decide),
      map_getD_lt fun t h => stampValue_lt (validFrom t h), map_getD_lt fun t h => stampValue_lt (validUntil t h),
      getD_lt_of_optFits location, getD_lt_of_optFits account, gateSet, nofun⟩
  · rw [credRowOf, show splitSizes [2, 1, 1, 4, 5, 2, 1, 5, 5, 1, 1, 1] _ = _ from read]
    dsimp only [credRowFields, List.map, fieldCode]
    rw [credPresence_eq, credFlags_eq, if_pos ⟨presence, flags⟩, optional_getD (testBit_bitField ..),
      optional_decoded (testBit_bitField ..) fun p h => pinOf_pinValue (pin p h), optional_getD (testBit_bitField ..),
      optional_getD (testBit_bitField ..),
      optional_decoded (testBit_bitField ..) fun t h => stampOf_stampValue (validFrom t h),
      optional_decoded (testBit_bitField ..) fun t h => stampOf_stampValue (validUntil t h),
      optional_getD (testBit_bitField ..), testBit_bitField, testBit_bitField, testBit_bitField]
    rfl

/-! ## The row items of a put -/

/-- R190, R191: the rows of a well-formed put, of which there are as many as the body has room for. -/
theorem rowsFit_iff {α : Type} {most : Nat} {wf : α → Bool} {rows : List (PutItem α)} :
    rowsFit most wf rows = true ↔
      (1 ≤ rows.length ∧ rows.length ≤ most) ∧ ∀ r, PutItem.row r ∈ rows → wf r = true := by
  rw [rowsFit, Bool.and_eq_true, within_iff, List.all_eq_true]
  refine and_congr_right fun _ => ⟨fun h r listed => h _ listed, fun h x listed => ?_⟩
  cases x with
  | row r => exact h r listed
  | badItem => rfl

section
variable {α : Type} {code : Nat} {row : List Byte → Option α} {fields : α → List Field} {rows : List (PutItem α)}
  (reads : ∀ r, PutItem.row r ∈ rows → RowReads row fields r)
include reads

/-- R190, R191: the row items are read back, those that do not fit the request among them. -/
theorem map_putItem_rowItems (noRow : row [] = none) : (rowItems code fields rows).map (putItem code row) = rows := by
  rw [rowItems, List.map_map]
  refine (List.map_congr_left fun x listed => ?_).trans (List.map_id _)
  cases x with
  | row r =>
    show putItem code row ⟨code, fieldBytes (fields r)⟩ = .row r
    rw [putItem, if_pos rfl, (reads r listed).back]
  | badItem =>
    show putItem code row ⟨code, []⟩ = .badItem
    rw [putItem, if_pos rfl, noRow]

theorem rowItems_carried (low : code < 128) : ∀ x ∈ rowItems code fields rows, Carried x := by
  intro x listed
  obtain ⟨y, own, rfl⟩ := List.mem_map.1 listed
  cases y with
  | row r => exact (reads r own).fit.carried low
  | badItem => exact ⟨low, Nat.zero_le _⟩

end

end Sys2Proof.Machine
end

section
/-! SUPPORT. Every request's frame decodes to the request (O2): one lemma for each shape of a request's items, then the
requests kind by kind; and the frame that waits (O5). -/

namespace Sys2Proof.Machine

/-- R190: a request's frame fits the line, and the reading of its kind gives the request back. -/
structure Travels (i : Instr) (r : RawRequest) : Prop where
  kind : r.kind < 256
  tag : r.tag < 256
  few : r.items.length ≤ 16
  carried : ∀ x ∈ r.items, Carried x
  read : ∃ read, requestReader r.kind r.tag = some read ∧ read r.items = some i

theorem Travels.body_length {i : Instr} {r : RawRequest} (h : Travels i r) : (itemBytes r.items).length ≤ 1024 :=
  (itemBytes_length_le h.carried).trans (Nat.mul_le_mul_left 64 h.few)

theorem Travels.decodes {i : Instr} {r : RawRequest} (h : Travels i r) :
    decodeRequest r.kind r.tag (itemBytes r.items) = .request i := by
  obtain ⟨read, reader, back⟩ := h.read
  rw [decodeRequest, reader]
  dsimp only
  rw [bodyItems_itemBytes h.few h.carried, Option.bind_some, back]

/-! ## The shapes of requests -/

theorem fieldsFit_one {size a : Nat} (h : fits size a = true) (small : size ≤ 61) : FieldsFit [.u size a] :=
  ⟨List.forall_mem_singleton.2 (fits_iff_lt.1 h), small⟩

theorem fieldsFit_two {size1 size2 a b : Nat} (ha : fits size1 a = true) (hb : fits size2 b = true)
    (small : size1 + size2 ≤ 61) : FieldsFit [.u size1 a, .u size2 b] where
  fits := by
    simp only [List.forall_mem_cons]
    exact ⟨fits_iff_lt.1 ha, fits_iff_lt.1 hb, nofun⟩
  size := small

theorem fieldsFit_three {size1 size2 size3 a b c : Nat} (ha : fits size1 a = true) (hb : fits size2 b = true)
    (hc : fits size3 c = true) (small : size1 + (size2 + size3) ≤ 61) :
    FieldsFit [.u size1 a, .u size2 b, .u size3 c] where
  fits := by
    simp only [List.forall_mem_cons]
    exact ⟨fits_iff_lt.1 ha, fits_iff_lt.1 hb, fits_iff_lt.1 hc, nofun⟩
  size := small

section
variable {kind tag : Nat} {i : Instr}

/-- A request without an item. -/
theorem travels_noItem (reader : requestReader kind tag = some (noItem i)) (wf : fits 1 tag = true)
    (low : kind < 256 := by decide) : Travels i ⟨kind, tag, []⟩ :=
  ⟨low, fits_iff_lt.1 wf, Nat.zero_le _, nofun, _, reader, rfl⟩

/-- A request of one item. -/
theorem travels_oneItem {code : Nat} {fields : List Field} {read : List RawItem → Option Instr}
    (reader : requestReader kind tag = some read) (tagFits : fits 1 tag = true) (fit : FieldsFit fields)
    (back : read [⟨code, fieldBytes fields⟩] = some i) (lowCode : code < 128 := by decide)
    (low : kind < 256 := by decide) : Travels i ⟨kind, tag, [⟨code, fieldBytes fields⟩]⟩ :=
  ⟨low, fits_iff_lt.1 tagFits, Nat.succ_le_succ (Nat.zero_le 15), fun _ listed =>
    List.mem_singleton.1 listed ▸ fit.carried lowCode, _, reader, back⟩

/-- A request of parameters (R204). -/
theorem travels_params {fields : List Field} {f : List Nat → Option Instr}
    (reader : requestReader kind tag = some (params (fields.map fieldSize) f)) (tagFits : fits 1 tag = true)
    (fit : FieldsFit fields) (back : f (fields.map fieldCode) = some i) (low : kind < 256 := by decide) :
    Travels i ⟨kind, tag, [paramsItem fields]⟩ := by
  refine travels_oneItem reader tagFits fit ?_ (low := low)
  rw [params, if_pos rfl, fit.read, Option.bind_some, back]

theorem travels_param1 {size a : Nat} {f : Nat → Instr} (reader : requestReader kind tag = some (param1 size f))
    (wf : (fits 1 tag && fits size a) = true) (small : size ≤ 61 := by decide) (low : kind < 256 := by decide) :
    Travels (f a) ⟨kind, tag, [paramsItem [.u size a]]⟩ := by
  simp only [Bool.and_eq_true] at wf
  obtain ⟨tagFits, ha⟩ := wf
  exact travels_params (fields := [.u size a]) reader tagFits (fieldsFit_one ha small) rfl low

theorem travels_param2 {size1 size2 a b : Nat} {f : Nat → Nat → Instr}
    (reader : requestReader kind tag = some (param2 size1 size2 f))
    (wf : (fits 1 tag && fits size1 a && fits size2 b) = true) (small : size1 + size2 ≤ 61 := by decide)
    (low : kind < 256 := by decide) : Travels (f a b) ⟨kind, tag, [paramsItem [.u size1 a, .u size2 b]]⟩ := by
  simp only [Bool.and_eq_true] at wf
  obtain ⟨⟨tagFits, ha⟩, hb⟩ := wf
  exact travels_params (fields := [.u size1 a, .u size2 b]) reader tagFits (fieldsFit_two ha hb small) rfl low

theorem travels_param3 {size1 size2 size3 a b c : Nat} {f : Nat → Nat → Nat → Instr}
    (reader : requestReader kind tag = some (param3 size1 size2 size3 f))
    (wf : (fits 1 tag && fits size1 a && fits size2 b && fits size3 c) = true)
    (small : size1 + (size2 + size3) ≤ 61 := by decide) (low : kind < 256 := by decide) :
    Travels (f a b c) ⟨kind, tag, [paramsItem [.u size1 a, .u size2 b, .u size3 c]]⟩ := by
  simp only [Bool.and_eq_true] at wf
  obtain ⟨⟨⟨tagFits, ha⟩, hb⟩, hc⟩ := wf
  exact travels_params (fields := [.u size1 a, .u size2 b, .u size3 c]) reader tagFits (fieldsFit_three ha hb hc small)
    rfl low

/-- R204: the start item of a get is read back. -/
theorem startCount_startItem {size a c : Nat} {f : Nat → Nat → Instr} (fit : FieldsFit [.u size a, .u 1 c]) :
    startCount size f [startItem size a c] = some (f a c) := by
  rw [startCount, startItem, if_pos rfl, show splitSizes [size, 1] _ = _ from fit.read]
  rfl

/-- A get of table entries from a start. -/
theorem travels_startCount {size a c : Nat} {f : Nat → Nat → Instr}
    (reader : requestReader kind tag = some (startCount size f))
    (wf : (fits 1 tag && fits size a && fits 1 c) = true) (small : size + 1 ≤ 61 := by decide)
    (low : kind < 256 := by decide) : Travels (f a c) ⟨kind, tag, [startItem size a c]⟩ := by
  simp only [Bool.and_eq_true] at wf
  obtain ⟨⟨tagFits, ha⟩, hc⟩ := wf
  have fit := fieldsFit_two ha hc small
  exact travels_oneItem reader tagFits fit (startCount_startItem fit) (low := low)

variable {α : Type} {code : Nat} {row : List Byte → Option α} {fields : α → List Field} {wf : α → Bool}
  {rows : List (PutItem α)}

/-- A multi-row put with a start item (R191). -/
theorem travels_rowsFrom {size start : Nat} {f : Nat → List (PutItem α) → Instr} (low : kind < 256)
    (reader : requestReader kind tag = some (rowsFrom size code row f))
    (formed : (fits 1 tag && fits size start && rowsFit 15 wf rows) = true)
    (reads : ∀ {r}, wf r = true → RowReads row fields r) (noRow : row [] = none := by rfl)
    (lowCode : code < 128 := by decide) (small : size ≤ 61 := by decide) :
    Travels (f start rows) ⟨kind, tag, putItems size start code fields rows⟩ := by
  simp only [Bool.and_eq_true, rowsFit_iff] at formed
  obtain ⟨⟨tagFits, startFits⟩, ⟨some_row, few⟩, formed⟩ := formed
  have back (r : α) (listed : PutItem.row r ∈ rows) : RowReads row fields r := reads (formed r listed)
  have head := fieldsFit_one startFits small
  have length : (rowItems code fields rows).length = rows.length := List.length_map ..
  refine ⟨low, fits_iff_lt.1 tagFits, ?_, List.forall_mem_cons.2 ⟨head.carried (by decide), rowItems_carried back lowCode⟩,
    _, reader, ?_⟩
  · rw [putItems, List.length_cons, length]
    omega
  · obtain ⟨y, rest, items⟩ := List.exists_cons_of_length_pos (l := rowItems code fields rows) (by omega)
    have split : splitSizes [size] (fieldBytes [.u size start]) = some [start] := head.read
    rw [putItems, items, rowsFrom, if_pos rfl, split, ← items, map_putItem_rowItems back noRow]

/-- A multi-row put without a start item (R191). -/
theorem travels_rowsOnly {f : List (PutItem α) → Instr} (low : kind < 256)
    (reader : requestReader kind tag = some (rowsOnly code row f))
    (formed : (fits 1 tag && rowsFit 16 wf rows) = true)
    (reads : ∀ {r}, wf r = true → RowReads row fields r) (noRow : row [] = none := by rfl)
    (lowCode : code < 128 := by decide) :
    Travels (f rows) ⟨kind, tag, rowItems code fields rows⟩ := by
  simp only [Bool.and_eq_true, rowsFit_iff] at formed
  obtain ⟨tagFits, ⟨some_row, few⟩, formed⟩ := formed
  have back (r : α) (listed : PutItem.row r ∈ rows) : RowReads row fields r := reads (formed r listed)
  have length : (rowItems code fields rows).length = rows.length := List.length_map ..
  refine ⟨low, fits_iff_lt.1 tagFits, length.trans_le few, rowItems_carried back lowCode, _, reader, ?_⟩
  rw [rowsOnly, if_neg (List.ne_nil_of_length_pos (length ▸ some_row)), map_putItem_rowItems back noRow]

end

/-! ## The requests with shapes of their own -/

/-- Things each of which is read back from its item are read back from the list of their items. -/
theorem mapM_map_of_read {α β : Type} {item : α → β} {read : β → Option α} {l : List α}
    (back : ∀ a ∈ l, read (item a) = some a) : (l.map item).mapM read = some l := by
  induction l with
  | nil => rfl
  | cons a rest ih =>
    obtain ⟨first, others⟩ := List.forall_mem_cons.1 back
    rw [List.map_cons, List.mapM_cons, first, ih others]
    rfl

section
variable {tag : Nat}

/-- R198: an item of SITE_GET as the parameter it names. -/
def siteParamOf (x : RawItem) : Option Nat :=
  if x.code = 0x08 then (siteItemOf x.contents).map (·.param) else none

theorem siteGetOf_eq (items : List RawItem) : siteGetOf tag items = (items.mapM siteParamOf).map (Instr.siteGet tag) := rfl

/-- R198: the parameters that SITE_GET names are read back. -/
theorem siteGet_travels {ps : List Nat} (wf : WellFormed (.siteGet tag ps)) :
    Travels (.siteGet tag ps) ⟨0x04, tag, ps.map fun p => ⟨0x08, fieldBytes (siteItemFields ⟨p, 0⟩)⟩⟩ := by
  simp only [WellFormed, Instr.wf, Bool.and_eq_true, within_iff, List.all_eq_true] at wf
  obtain ⟨⟨tagFits, -, few⟩, named⟩ := wf
  have reads (p : Nat) (listed : p ∈ ps) : RowReads siteItemOf siteItemFields ⟨p, 0⟩ :=
    siteItem_reads (by rw [SiteItem.wf, Bool.and_eq_true, within_iff]; exact ⟨named p listed, rfl⟩)
  refine ⟨show 0x04 < 256 by decide, fits_iff_lt.1 tagFits, (List.length_map ..).trans_le few, fun x listed => ?_,
    _, rfl, ?_⟩
  · obtain ⟨p, own, rfl⟩ := List.mem_map.1 listed
    exact (reads p own).fit.carried (by decide)
  · have named (p : Nat) (listed : p ∈ ps) : siteParamOf ⟨0x08, fieldBytes (siteItemFields ⟨p, 0⟩)⟩ = some p := by
      rw [siteParamOf, if_pos rfl, (reads p listed).back]
      rfl
    rw [siteGetOf_eq, mapM_map_of_read named]
    rfl

theorem berthGet_travels {query : BerthQuery} (wf : WellFormed (.berthGet tag query)) {r : RawRequest}
    (sent : encodeRequest (.berthGet tag query) = some r) : Travels (.berthGet tag query) r := by
  simp only [WellFormed, Instr.wf, Bool.and_eq_true] at wf
  obtain ⟨tagFits, formed⟩ := wf
  cases query with
  | entries start count =>
    simp only [BerthQuery.wf, Bool.and_eq_true] at formed
    obtain ⟨startFits, countFits⟩ := formed
    have fit := fieldsFit_two startFits countFits (by decide)
    cases sent
    refine travels_oneItem rfl tagFits fit ?_
    rw [berthGetOf, if_neg (show ¬0x03 = 0x04 by decide)]
    exact startCount_startItem fit
  | calendar berth position =>
    simp only [BerthQuery.wf, Bool.and_eq_true] at formed
    obtain ⟨berthFits, positionFits⟩ := formed
    have fit := fieldsFit_two berthFits positionFits (by decide)
    cases sent
    refine travels_oneItem rfl tagFits fit ?_
    rw [berthGetOf, if_pos rfl, show splitSizes [1, 2] _ = _ from fit.read]
    rfl

theorem credGet_travels {query : CredQuery} (wf : WellFormed (.credGet tag query)) {r : RawRequest}
    (sent : encodeRequest (.credGet tag query) = some r) : Travels (.credGet tag query) r := by
  simp only [WellFormed, Instr.wf, Bool.and_eq_true] at wf
  obtain ⟨tagFits, formed⟩ := wf
  cases query with
  | entries start count =>
    simp only [CredQuery.wf, Bool.and_eq_true] at formed
    obtain ⟨startFits, countFits⟩ := formed
    have fit := fieldsFit_two startFits countFits (by decide)
    cases sent
    refine travels_oneItem rfl tagFits fit ?_
    rw [credGetOf, if_neg (show ¬0x03 = 0x10 by decide)]
    exact startCount_startItem fit
  | token token =>
    have fit := fieldsFit_one formed (by decide)
    cases sent
    refine travels_oneItem rfl tagFits fit ?_
    rw [credGetOf, if_pos rfl, show splitSizes [4] _ = _ from fit.read]
    rfl

/-- The fields of a new booking (R16) fit their bytes. -/
theorem newBooking_fits {n : NewBooking} (h : n.wf = true) :
    ∀ x ∈ [Field.u 1 n.account, .u 2 n.loa, .u 2 n.beam, .u 2 n.draught, .u 2 n.arr, .u 2 n.dep], FieldFits x := by
  simp only [NewBooking.wf, Bool.and_eq_true, fits_iff_lt] at h
  obtain ⟨⟨⟨⟨⟨account, loa⟩, beam⟩, draught⟩, arr⟩, dep⟩ := h
  simp only [List.forall_mem_cons]
  exact ⟨account, loa, beam, draught, arr, dep, nofun⟩

theorem bookAlloc_travels {n : NewBooking} {preference : Nat} (wf : WellFormed (.bookAlloc tag n preference)) :
    Travels (.bookAlloc tag n preference)
      ⟨0x14, tag, [paramsItem [.u 1 n.account, .u 2 n.loa, .u 2 n.beam, .u 2 n.draught, .u 2 n.arr, .u 2 n.dep,
        .u 1 preference]]⟩ := by
  simp only [WellFormed, Instr.wf, Bool.and_eq_true] at wf
  obtain ⟨⟨tagFits, formed⟩, preferenceFits⟩ := wf
  have fit : FieldsFit ([.u 1 n.account, .u 2 n.loa, .u 2 n.beam, .u 2 n.draught, .u 2 n.arr, .u 2 n.dep] ++
      [.u 1 preference]) :=
    ⟨List.forall_mem_append.2 ⟨newBooking_fits formed, List.forall_mem_singleton.2 (fits_iff_lt.1 preferenceFits)⟩,
      Nat.le_of_ble_eq_true rfl⟩
  exact travels_params rfl tagFits fit rfl

/-- R17: the form of BOOK_FIXED for a new booking. -/
theorem bookFixed_travels {n : NewBooking} {berth : Nat} {force : Bool} (wf : WellFormed (.bookFixed tag n berth force)) :
    Travels (.bookFixed tag n berth force)
      ⟨0x15, tag, [paramsItem [.u 1 126, .u 2 0, .u 1 n.account, .u 2 n.loa, .u 2 n.beam, .u 2 n.draught, .u 2 n.arr,
        .u 2 n.dep, .u 1 berth, .u 1 (flagBit force 0)]]⟩ := by
  simp only [WellFormed, Instr.wf, Bool.and_eq_true] at wf
  obtain ⟨⟨tagFits, formed⟩, berthFits⟩ := wf
  have fit : FieldsFit ([.u 1 126, .u 2 0] ++
      ([.u 1 n.account, .u 2 n.loa, .u 2 n.beam, .u 2 n.draught, .u 2 n.arr, .u 2 n.dep] ++
        [.u 1 berth, .u 1 (flagBit force 0)])) := by
    refine ⟨List.forall_mem_append.2 ⟨?_, List.forall_mem_append.2 ⟨newBooking_fits formed, ?_⟩⟩,
      Nat.le_of_ble_eq_true rfl⟩
    · simp only [List.forall_mem_cons]
      exact ⟨show 126 < 256 ^ 1 by decide, show 0 < 256 ^ 2 by decide, nofun⟩
    · simp only [List.forall_mem_cons]
      exact ⟨fits_iff_lt.1 berthFits, flagBit_fits _, nofun⟩
  refine travels_params rfl tagFits fit ?_
  dsimp only [List.cons_append, List.nil_append, List.map, fieldCode]
  rw [bookFixedOf, if_pos ⟨by decide, flagBit_lt_two _⟩, if_neg (by decide), if_pos rfl, testBit_flagBit]

/-- R17: the form of BOOK_FIXED with a booking index. -/
theorem bookFixedIndex_travels {booking berth : Nat} {force : Bool}
    (wf : WellFormed (.bookFixedIndex tag booking berth force)) :
    Travels (.bookFixedIndex tag booking berth force)
      ⟨0x15, tag, [paramsItem [.u 1 1, .u 2 booking, .u 1 0, .u 2 0, .u 2 0, .u 2 0, .u 2 0, .u 2 0, .u 1 berth,
        .u 1 (flagBit force 0)]]⟩ := by
  simp only [WellFormed, Instr.wf, Bool.and_eq_true, fits_iff_lt] at wf
  obtain ⟨⟨tagFits, bookingFits⟩, berthFits⟩ := wf
  have zero (size : Nat) : FieldFits (.u size 0) := Nat.pow_pos (by decide)
  have fit : FieldsFit [.u 1 1, .u 2 booking, .u 1 0, .u 2 0, .u 2 0, .u 2 0, .u 2 0, .u 2 0, .u 1 berth,
      .u 1 (flagBit force 0)] := by
    refine ⟨?_, Nat.le_of_ble_eq_true rfl⟩
    simp only [List.forall_mem_cons]
    exact ⟨show 1 < 256 ^ 1 by decide, bookingFits, zero 1, zero 2, zero 2, zero 2, zero 2, zero 2, berthFits,
      flagBit_fits _, nofun⟩
  refine travels_params rfl (fits_iff_lt.2 tagFits) fit ?_
  dsimp only [List.map, fieldCode]
  rw [bookFixedOf, if_pos ⟨by decide, flagBit_lt_two _⟩, if_pos (by decide), if_pos rfl, testBit_flagBit]

theorem acctPay_travels {account : Nat} {amount : Int} (wf : WellFormed (.acctPay tag account amount)) :
    Travels (.acctPay tag account amount) ⟨0x21, tag, [paramsItem [.u 1 account, .i 6 amount]]⟩ := by
  simp only [WellFormed, Instr.wf, Bool.and_eq_true] at wf
  obtain ⟨⟨tagFits, accountFits⟩, amountFits⟩ := wf
  have fit : FieldsFit [.u 1 account, .i 6 amount] := by
    refine ⟨?_, Nat.le_of_ble_eq_true rfl⟩
    simp only [List.forall_mem_cons]
    exact ⟨fits_iff_lt.1 accountFits, fieldFits_i .., nofun⟩
  exact travels_params rfl tagFits fit (congrArg (fun x => some (Instr.acctPay tag account x)) (ofTwos_toTwos amountFits))

/-- The presence field of HOSE_AUTH (R141, R203). -/
theorem authPresence_eq (a : AuthRequest) :
    flagBit a.account.isSome 0 + flagBit a.prepaid.isSome 1 + flagBit a.presetValue.isSome 2 =
      bitField [a.account.isSome, a.prepaid.isSome, a.presetValue.isSome] := by
  simp only [flagBit_eq, bitField_cons, bitField_nil]
  omega

theorem hoseAuth_travels {a : AuthRequest} (wf : WellFormed (.hoseAuth tag a)) :
    Travels (.hoseAuth tag a)
      ⟨0x42, tag, [paramsItem [.u 1 a.hose,
        .u 1 (flagBit a.account.isSome 0 + flagBit a.prepaid.isSome 1 + flagBit a.presetValue.isSome 2), .u 1 a.mode,
        .u 1 (a.account.getD 0), .u 4 (a.prepaid.getD 0), .u 1 a.presetKind, .u 4 (a.presetValue.getD 0)]]⟩ := by
  rw [authPresence_eq]
  simp only [WellFormed, Instr.wf, AuthRequest.wf, Bool.and_eq_true, fits_iff_lt] at wf
  obtain ⟨tagFits, ⟨⟨⟨⟨hose, mode⟩, account⟩, prepaid⟩, presetKind⟩, presetValue⟩ := wf
  have presence : bitField [a.account.isSome, a.prepaid.isSome, a.presetValue.isSome] < 8 := bitField_lt _
  have fit : FieldsFit [.u 1 a.hose, .u 1 (bitField [a.account.isSome, a.prepaid.isSome, a.presetValue.isSome]),
      .u 1 a.mode, .u 1 (a.account.getD 0), .u 4 (a.prepaid.getD 0), .u 1 a.presetKind, .u 4 (a.presetValue.getD 0)] := by
    refine ⟨?_, Nat.le_of_ble_eq_true rfl⟩
    simp only [List.forall_mem_cons]
    exact ⟨hose, Nat.lt_trans presence (show 8 < 256 ^ 1 by decide), mode, getD_lt_of_optFits account,
      getD_lt_of_optFits prepaid, presetKind, getD_lt_of_optFits presetValue, nofun⟩
  refine travels_params rfl (fits_iff_lt.2 tagFits) fit ?_
  dsimp only [List.map, fieldCode]
  rw [hoseAuthOf, if_pos presence, optional_getD (testBit_bitField ..), optional_getD (testBit_bitField ..),
    optional_getD (testBit_bitField ..)]

/-- SALE_PEEK and SALE_TAKE (R154). -/
theorem sale_travels {kind : Nat} {number : Option Nat} {f : Option Nat → Instr}
    (reader : requestReader kind tag = some (params [1, 2] (saleOf f))) (wf : (fits 1 tag && optFits 2 number) = true)
    (low : kind < 256 := by decide) :
    Travels (f number) ⟨kind, tag, [paramsItem [.u 1 (flagBit number.isSome 0), .u 2 (number.getD 0)]]⟩ := by
  simp only [Bool.and_eq_true] at wf
  obtain ⟨tagFits, numberFits⟩ := wf
  have fit : FieldsFit [.u 1 (flagBit number.isSome 0), .u 2 (number.getD 0)] := by
    refine ⟨?_, Nat.le_of_ble_eq_true rfl⟩
    simp only [List.forall_mem_cons]
    exact ⟨flagBit_fits _, getD_lt_of_optFits numberFits, nofun⟩
  refine travels_params reader tagFits fit ?_ (low := low)
  dsimp only [List.map, fieldCode]
  rw [saleOf, if_pos (flagBit_lt_two _), optional_getD (testBit_flagBit _)]

end

/-! ## Every request -/

/-- R190, R205, R209: every well-formed request of a kind that is a request kind travels as its frame. -/
theorem request_travels {i : Instr} {r : RawRequest} (wf : WellFormed i) (sent : encodeRequest i = some r)
    (known : ∀ kind tag, i ≠ .requestUnknownKind kind tag) : Travels i r := by
  cases i with
  | requestUnknownKind kind tag => exact absurd rfl (known kind tag)
  | status => cases sent; exact travels_noItem rfl wf
  | restart => cases sent; exact travels_noItem rfl wf
  | sitePut => cases sent; exact travels_rowsOnly (by decide) rfl wf siteItem_reads
  | siteGet => cases sent; exact siteGet_travels wf
  | clockSet => cases sent; exact travels_param2 rfl wf
  | clockGet => cases sent; exact travels_noItem rfl wf
  | berthPut => cases sent; exact travels_rowsFrom (by decide) rfl wf berthRow_reads
  | berthGet => exact berthGet_travels wf sent
  | tidePut => cases sent; exact travels_rowsOnly (by decide) rfl wf tideRow_reads
  | tideGet => cases sent; exact travels_startCount rfl wf
  | bookAlloc => cases sent; exact bookAlloc_travels wf
  | bookFixed => cases sent; exact bookFixed_travels wf
  | bookFixedIndex => cases sent; exact bookFixedIndex_travels wf
  | bookPlace => cases sent; exact travels_param2 rfl wf
  | bookArrive => cases sent; exact travels_param1 rfl wf
  | bookChange => cases sent; exact travels_param2 rfl wf
  | bookDepart => cases sent; exact travels_param1 rfl wf
  | bookCancel => cases sent; exact travels_param1 rfl wf
  | bookGet => cases sent; exact travels_startCount rfl wf
  | acctOpen => cases sent; exact travels_param2 rfl wf
  | acctPay => cases sent; exact acctPay_travels wf
  | acctLimit => cases sent; exact travels_param2 rfl wf
  | acctClose => cases sent; exact travels_param1 rfl wf
  | acctGet => cases sent; exact travels_startCount rfl wf
  | tariffPut => cases sent; exact travels_rowsFrom (by decide) rfl wf tariffRow_reads
  | tariffGet => cases sent; exact travels_startCount rfl wf
  | pedestalPut => cases sent; exact travels_rowsFrom (by decide) rfl wf pedestalRow_reads
  | pedestalGet => cases sent; exact travels_startCount rfl wf
  | socketPut => cases sent; exact travels_rowsFrom (by decide) rfl wf socketRow_reads
  | tapPut => cases sent; exact travels_rowsFrom (by decide) rfl wf tapRow_reads
  | tapClose => cases sent; exact travels_param1 rfl wf
  | feederPut => cases sent; exact travels_rowsFrom (by decide) rfl wf feederRow_reads
  | feederGet => cases sent; exact travels_startCount rfl wf
  | feederBottom => cases sent; exact travels_param3 rfl wf
  | feederPoll => cases sent; exact travels_param1 rfl wf
  | feederShed => cases sent; exact travels_param2 rfl wf
  | socketRelease => cases sent; exact travels_param1 rfl wf
  | socketLock => cases sent; exact travels_param1 rfl wf
  | socketUnlock => cases sent; exact travels_param1 rfl wf
  | socketRearm => cases sent; exact travels_param1 rfl wf
  | hosePut => cases sent; exact travels_rowsFrom (by decide) rfl wf hoseRow_reads
  | hoseGet => cases sent; exact travels_startCount rfl wf
  | hoseAuth => cases sent; exact hoseAuth_travels wf
  | hoseStop => cases sent; exact travels_param1 rfl wf
  | pricePut => cases sent; exact travels_rowsFrom (by decide) rfl wf priceRow_reads
  | priceGet => cases sent; exact travels_noItem rfl wf
  | salePeek => cases sent; exact sale_travels rfl wf
  | saleTake => cases sent; exact sale_travels rfl wf
  | credPut => cases sent; exact travels_rowsFrom (by decide) rfl wf credRow_reads
  | credGet => exact credGet_travels wf sent
  | credSuspend => cases sent; exact travels_param1 rfl wf
  | credResume => cases sent; exact travels_param1 rfl wf
  | credFree => cases sent; exact travels_param1 rfl wf
  | gatePut => cases sent; exact travels_rowsFrom (by decide) rfl wf gateRow_reads
  | gateGet => cases sent; exact travels_startCount rfl wf
  | gateMode => cases sent; exact travels_param2 rfl wf
  | gatePulse => cases sent; exact travels_param1 rfl wf
  | _ => cases sent

/-- R190: a frame of another kind, as it is judged. -/
theorem decodeRequest_unknownKind {kind tag : Nat} (wf : WellFormed (.requestUnknownKind kind tag)) (body : List Byte) :
    kind < 256 ∧ tag < 256 ∧ decodeRequest kind tag body = .unknownKind := by
  simp only [WellFormed, Instr.wf, Bool.and_eq_true, fits_iff_lt, Option.isNone_iff_eq_none] at wf
  obtain ⟨⟨kindFits, tagFits⟩, reader⟩ := wf
  exact ⟨kindFits, tagFits, by rw [decodeRequest, reader]⟩

/-- Settles O2: a request kind's frame travels, and a frame of another kind has no reader. -/
theorem requestFramesDecodeToTheirRequest : Obligations.RequestFramesDecodeToTheirRequest := by
  unfold Obligations.RequestFramesDecodeToTheirRequest
  intro i r wf sent
  split
  · rename_i kind tag
    cases sent
    obtain ⟨kindFits, tagFits, judged⟩ := decodeRequest_unknownKind wf []
    exact ⟨kindFits, tagFits, Nat.zero_le _, judged⟩
  · rename_i other
    have travels := request_travels wf sent other
    exact ⟨travels.kind, travels.tag, travels.body_length, travels.decodes⟩

/-! ## The frame that waits -/

/-- R190, R194: a request's frame is taken by the request's owner. -/
theorem frameOwner_of_encodeRequest {i : Instr} {r : RawRequest} {o : State → State × Answer} (wf : WellFormed i)
    (sent : encodeRequest i = some r) (owned : owner i = some o) :
    frameOwner ⟨r.kind, r.tag, itemBytes r.items⟩ = o := by
  obtain ⟨-, -, -, judged⟩ := requestFramesDecodeToTheirRequest i r wf sent
  unfold frameOwner
  rw [judged]
  split at judged
  · cases owned
    rfl
  · dsimp only
    rw [owned]
    rfl

/-- Settles O5: the idle part takes the frame, as the request's own command would where no frame waits. -/
theorem waitingFrameActsAsItsCommand : Obligations.WaitingFrameActsAsItsCommand := by
  unfold Obligations.WaitingFrameActsAsItsCommand
  intro i r s wf sent idleQueue nothingDue running may waits
  obtain ⟨o, owned⟩ := owner_of_encodeRequest sent
  let emptied : State := { s with hlc := { s.hlc with waiting := [] } }
  have steps : step s = .next (idle s) := by rw [step, idleQueue, nothingDue]
  have takes : idle s = pump (takeRequest r.kind r.tag o emptied) := by
    rw [idle, if_pos (by simp [State.canTakeWaiting, running, may, waits]), takeWaiting, waits]
    dsimp only
    rw [frameOwner_of_encodeRequest wf sent owned]
    rfl
  have ready : emptied.takes = true := by
    have on : emptied.running = true := running
    have free : mayTake emptied.hlc = true := may
    simp [State.takes, on, free, emptied]
  rw [steps, takes, exec_of_owner owned, request_taken sent ready]

end Sys2Proof.Machine
end
